-- ==== Sys2Proof/Word.lean ====
section
/-! DEFINITION. The word types of the model: bytes, 32-bit and 64-bit words and the engine's vector
register, as bit vectors (R7 of chapter 00; R172 and Table 8.2 of chapter 08). -/

namespace Sys2Proof

/-- One byte of pool memory, of a neve store or of a packet. -/
abbrev Byte := BitVec 8

/-- A 32-bit word: one lane of a vector register. -/
abbrev Word32 := BitVec 32

/-- A 64-bit word: a scalar register, a control register, a request operand. -/
abbrev Word64 := BitVec 64

/-- A 128-byte vector register, byte 0 in bits [7:0]. -/
abbrev Vec := BitVec 1024

end Sys2Proof
end

