-- ==== Sys2Proof/Syntax.lean ====
section
/-! DEFINITION. The commands the block takes, one constructor per row of the command table, with their
operands: transaction packets (Table 14.1), link graupels (chapter 13), engine instruction words (R214),
register numbers, and, for an event, what only the outside of the block can say of it. -/

namespace Sys2Proof

/-- A transaction packet: the header of Table 14.1 and the payload. `rsvd` is 1 where some reserved
header bit is not zero. -/
structure Pkt where
  opcode : Nat
  tblEpoch : Nat
  colour : Nat
  poison : Bool
  retry : Bool
  mclass : Nat
  domain : Nat
  status : Nat
  src : Nat
  dst : Nat
  tenant : Nat
  psn : Nat
  tag : Nat
  len : Nat
  addr : Nat
  svcEpoch : Nat
  tenEpoch : Nat
  hops : Nat
  grant : Nat
  dirty : Bool
  result : Nat
  backinv : Bool
  stale : Bool
  target : Nat
  srcInc : Nat
  aux : Nat
  arg : Nat
  rsvd : Nat
  payload : List Byte
  deriving DecidableEq, Repr

/-- The packet with every header field zero and no payload. -/
def Pkt.zero : Pkt :=
  { opcode := 0, tblEpoch := 0, colour := 0, poison := false, retry := false, mclass := 0, domain := 0,
    status := 0, src := 0, dst := 0, tenant := 0, psn := 0, tag := 0, len := 0, addr := 0, svcEpoch := 0,
    tenEpoch := 0, hops := 0, grant := 0, dirty := false, result := 0, backinv := false, stale := false,
    target := 0, srcInc := 0, aux := 0, arg := 0, rsvd := 0, payload := [] }

/-- The fields of an engine instruction word (R214), but for CLASS and OP, which the instruction itself
names: predicate register and its negation, the 4-bit format field, three register fields and the 32-bit
immediate field. -/
structure Ins where
  p : BitVec 3
  n : BitVec 1
  f4 : BitVec 4
  rd : BitVec 5
  ra : BitVec 5
  rb : BitVec 5
  imm : BitVec 32
  deriving DecidableEq, Repr

/-- One DIMM as its SPD gives it (R77, R78): whether it is an RDIMM, its devices' width in bits, package ranks, bytes, device
density in Gb, stack height, trained speed in MT/s div 100, and its all-bank refresh time in ns (R85). -/
structure Dimm where
  rdimm : Bool
  width : Nat
  ranks : Nat
  bytes : Nat
  density : Nat
  height : Nat
  speed : Nat
  trfc : Nat
  deriving DecidableEq, Repr

/-- What a port receives: the 256 bytes of a graupel, whether it overlaps an uncorrectable FEC codeword, and the
codewords corrected and uncorrectable that ended with it (R254, R259). -/
structure Rx where
  bytes : List Byte
  bad : Bool
  corr : Nat
  uncorr : Nat
  deriving DecidableEq, Repr


/-- An extent entry that the serving node installs on its standby (R334): ID, tenant, mode code, rights, base offset,
length in pages, holder, region. -/
structure PeerExt where
  id : Nat
  tenant : Nat
  mode : Nat
  rights : Nat
  base : Nat
  length : Nat
  holder : Nat
  region : Nat
  deriving DecidableEq, Repr

/-- A version slot of such an entry's region: extent, version, role code, readers. -/
structure PeerSlot where
  extent : Nat
  version : Nat
  role : Nat
  readers : Nat
  deriving DecidableEq, Repr

/-- A region record installed with them. -/
structure PeerReg where
  id : Nat
  tenant : Nat
  mode : Nat
  grantE : Bool
  hold : Nat
  curVersion : Nat
  slots : List PeerSlot
  deriving DecidableEq, Repr

/-- An ownership home record (R349): state, owner's and pending agent, generation, whether it is HANDING, deadline. -/
structure PeerTok where
  stateId : Nat
  owner : Nat
  pending : Nat
  gen : Nat
  handing : Bool
  deadline : Nat
  deriving DecidableEq, Repr

/-- What the serving node installs on a standby when a resync starts (R334, R346): its service epoch, MIRRORED extent
entries, region records and ownership records. -/
structure PeerState where
  epoch : Nat
  exts : List PeerExt
  regs : List PeerReg
  toks : List PeerTok
  deriving DecidableEq, Repr

/-- An SPDM request (R322): the MGMT packet that carries it, or none on the management port; the secure session
it stands in, if any; the message's bytes. -/
structure SpdmIn where
  via : Option Pkt
  sess : Option Nat
  data : List Byte
  deriving DecidableEq, Repr

/-- One operation of a mailbox request (R403). -/
structure MboxOp where
  off : Nat
  write : Bool
  data : Word64
  deriving DecidableEq, Repr

/-- A mailbox request (R403, R419): the MGMT packet that carries it, or none on the management port; the SPDM
session it is secured by, if any; TAG and operations. -/
structure MboxReq where
  via : Option Pkt
  sess : Option Nat
  tag : Nat
  ops : List MboxOp
  deriving DecidableEq, Repr

/-- The paths of Table 22.3 but for CTL packets and the sideband: the management cores, a mailbox session, a mailbox
request outside any session. -/
inductive Path where
  | device
  | session (n : Nat)
  | plain
  deriving DecidableEq, Repr

/-- A command that a memory controller issues (R83): the controller, and whether its code corrected what was read (R88). -/
structure Issue where
  ctl : Nat
  corrected : Bool
  deriving DecidableEq, Repr

/-- What a command error hits (R92, R94): the unit, or the controller whose PHY lost lock, and the chunks of the commands concerned. -/
structure CmdHit where
  place : Nat
  chunks : List Nat
  deriving DecidableEq, Repr

/-- How a start-up step ends (R396): whether it succeeds; the HBM sites that trained (step 4); the DIMMs of each channel
that trained, and the ports that the firmware's configuration names (step 5). -/
structure StartIn where
  ok : Bool
  trained : List Nat
  dimms : List (Nat × List Dimm)
  ports : List Nat
  deriving DecidableEq, Repr

/-- A time code as an input receives it (Table 20.1): input 0 TREF_A, 1 TREF_B; TYPE, TIME (with the receive latency compensated), and whether its
CRC holds (R382, R384); code violations of its input since the code before. -/
structure TimeCode where
  input : Nat
  type : Nat
  time : Nat
  crcOk : Bool
  viol : Nat
  deriving DecidableEq, Repr
/-- The commands of the block, one constructor per row of the command table, in its order. -/
inductive Instr where
  | extCreate
  | extRevoke
  | setHolder
  | setRights
  | extQuery
  | leaseRenew (w src term : Nat)
  | leaseLapsed (agent : Nat)
  | leaseExpired (agent : Nat)
  | fenceGenerationBegin
  | fenceDone
  | reclaimDone
  | rd (port : Nat) (p : Pkt)
  | wr (port : Nat) (p : Pkt)
  | wrposted (port : Nat) (p : Pkt)
  | flushreq (port : Nat) (p : Pkt)
  | flushdone (src dom : Nat)
  | veracquire (port : Nat) (p : Pkt) (region : Nat)
  | verrelease (port : Nat) (p : Pkt) (region version : Nat)
  | loadCopy (port : Nat) (p : Pkt)
  | loadOwn (port : Nat) (p : Pkt)
  | claim (port : Nat) (p : Pkt)
  | peek (port : Nat) (p : Pkt)
  | putLine (port : Nat) (p : Pkt)
  | putMasked (port : Nat) (p : Pkt)
  | dropClean (port : Nat) (p : Pkt)
  | dropDirty (port : Nat) (p : Pkt)
  | killAck (p : Pkt)
  | fwdAck (p : Pkt)
  | fwdAckLine (p : Pkt)
  | retrieveLine (p : Pkt)
  | inboundSnoop (port : Nat) (p : Pkt)
  | homeTransactionStart (line : Nat)
  | holdWindowEnd (line : Nat)
  | directoryEviction (line : Nat)
  | snoopTimeout (line agent : Nat)
  | entryLost (line : Nat)
  | dirAgentMapWrite (n : Nat) (v : Word64)
  | mapSweepDone
  | publishAccept (region : Nat)
  | publishComplete (region : Nat)
  | regionCreate
  | regionDestroy
  | setHold
  | regionQuery
  | addVersion
  | removeVersion
  | clearReaders
  | dirProbeAddrWrite (v : Word64)
  | memRefresh (ctl unit : Nat)
  | retrainPause (ctl ch : Nat) (marginLow : Bool)
  | fullRetrainEnd (ctl ch : Nat) (ok : Bool)
  | memSchedIssue (cmd : Issue)
  | patrolScrub (ctl unit : Nat) (corrected onDie : Nat) (bad : List Nat)
  | dimmTempSample (ch temp : Nat)
  | uncorrectableError (ctl unit : Nat) (chunks : List Nat)
  | caParityError (ctl : Nat) (hit : CmdHit)
  | caReissue (ctl unit : Nat)
  | phyLockLoss (hit : CmdHit)
  | memhRetire (site : Nat)
  | memhRetrainFull (site : Nat)
  | powerDown (site : Nat)
  | memdRetire (ch : Nat)
  | memdRetrainFull (ch : Nat)
  | memdEvacuate (ch : Nat)
  | evacuated (set : Nat)
  | memdRestore (ch : Nat)
  | restored (ch : Nat) (ds : List Dimm)
  | retireStart (q : Nat)
  | retireGranuleCopy (q : Nat) (bad : List Nat)
  | retireDone (q : Nat)
  | setReform (set : Nat)
  | heatSample (page : Nat)
  | heatDecay
  | pageMoveStart (page node frame : Nat)
  | pageLineHandover (page : Nat) (bad : Bool)
  | pageMoveDone (page : Nat)
  | frameScrubDone (tier set frame : Nat)
  | zeroFillDone (page : Nat)
  | returnRequest (node : Nat)
  | lodgeLost (node : Nat)
  | plcHint
  | plcMove
  | plcQuery
  | plcRecall
  | plcRelease
  | ctxCreate
  | ctxDestroy
  | xltMap
  | unmap
  | protect
  | remap
  | windowAdd
  | windowRemove
  | xltQuery
  | cntClear
  | invalDone
  | xltMissFill (cirq ctx va : Nat)
  | cntEpoch
  | xltHotPop
  | doorbell (w c a : Nat) (v : Word64)
  | cdtLoad (c : Nat)
  | descriptorAccept (c : Nat)
  | descriptorStart (c slot : Nat)
  | channelSchedSelect
  | tileStart (c slot : Nat)
  | tileDelivered (c slot tile : Nat)
  | pushAckTimeout (c slot : Nat)
  | completionRecord (c slot : Nat)
  | dFill (c slot : Nat)
  | dCopy (c slot : Nat)
  | dCompare (c slot : Nat)
  | dReduce (c slot : Nat)
  | dGather (c slot : Nat)
  | dScatter (c slot : Nat)
  | dFilter (c slot : Nat)
  | dConvert (c slot : Nat)
  | dLaunch (c slot : Nat)
  | dPushStream (c slot : Nat)
  | dPublish (c slot : Nat)
  | dFlush (c slot : Nat)
  | dMark (c slot : Nat)
  | dFence (c slot : Nat)
  | chnCreate
  | chnDestroy
  | chnQuery
  | chnEnable
  | chnReset
  | chnResume
  | setSched
  | tctlEnable (w c a : Nat)
  | tctlReset (w c a : Nat)
  | tctlResume (w c a : Nat)
  | channelResetDone (c : Nat)
  | launchStart (c slot : Nat)
  | engineStart (cirq : Nat)
  | launchComplete (c slot : Nat)
  | tagComplete (e t : Nat)
  | engineFault (e : Nat) (unit : Bool)
  | engineFaultDrained (e : Nat)
  | watchdog (e : Nat)
  | engStop (e : Nat)
  | neveEccError (e addr : Nat) (corrected : Bool)
  | idleEngineUnitFault (e : Nat)
  | barrierRelease (cirq b : Nat)
  | semwaitGrant (cirq b : Nat)
  | waitSatisfied (e : Nat)
  | tagHoldRelease (e : Nat)
  | iNop (e : Nat) (w : Ins)
  | iBr (e : Nat) (w : Ins)
  | iCb (e : Nat) (w : Ins)
  | iJal (e : Nat) (w : Ins)
  | iJr (e : Nat) (w : Ins)
  | iHalt (e : Nat) (w : Ins)
  | iAdd (e : Nat) (w : Ins)
  | iSub (e : Nat) (w : Ins)
  | iAnd (e : Nat) (w : Ins)
  | iOr (e : Nat) (w : Ins)
  | iXor (e : Nat) (w : Ins)
  | iShl (e : Nat) (w : Ins)
  | iShr (e : Nat) (w : Ins)
  | iSra (e : Nat) (w : Ins)
  | iMin (e : Nat) (w : Ins)
  | iMax (e : Nat) (w : Ins)
  | iMinu (e : Nat) (w : Ins)
  | iMaxu (e : Nat) (w : Ins)
  | iSel (e : Nat) (w : Ins)
  | iAddi (e : Nat) (w : Ins)
  | iSubi (e : Nat) (w : Ins)
  | iAndi (e : Nat) (w : Ins)
  | iOri (e : Nat) (w : Ins)
  | iXori (e : Nat) (w : Ins)
  | iShli (e : Nat) (w : Ins)
  | iShri (e : Nat) (w : Ins)
  | iSrai (e : Nat) (w : Ins)
  | iMini (e : Nat) (w : Ins)
  | iMaxi (e : Nat) (w : Ins)
  | iMinui (e : Nat) (w : Ins)
  | iMaxui (e : Nat) (w : Ins)
  | iLi (e : Nat) (w : Ins)
  | iLih (e : Nat) (w : Ins)
  | iMul (e : Nat) (w : Ins)
  | iMulh (e : Nat) (w : Ins)
  | iMulhu (e : Nat) (w : Ins)
  | iDiv (e : Nat) (w : Ins)
  | iDivu (e : Nat) (w : Ins)
  | iRem (e : Nat) (w : Ins)
  | iRemu (e : Nat) (w : Ins)
  | iPcmp (e : Nat) (w : Ins)
  | iPcmpi (e : Nat) (w : Ins)
  | iPand (e : Nat) (w : Ins)
  | iPor (e : Nat) (w : Ins)
  | iPxor (e : Nat) (w : Ins)
  | iPandn (e : Nat) (w : Ins)
  | iPtos (e : Nat) (w : Ins)
  | iStop (e : Nat) (w : Ins)
  | iVadd (e : Nat) (w : Ins)
  | iVsub (e : Nat) (w : Ins)
  | iVmul (e : Nat) (w : Ins)
  | iVfma (e : Nat) (w : Ins)
  | iVmin (e : Nat) (w : Ins)
  | iVmax (e : Nat) (w : Ins)
  | iVadds (e : Nat) (w : Ins)
  | iVmuls (e : Nat) (w : Ins)
  | iVfmas (e : Nat) (w : Ins)
  | iVcmp (e : Nat) (w : Ins)
  | iVand (e : Nat) (w : Ins)
  | iVor (e : Nat) (w : Ins)
  | iVxor (e : Nat) (w : Ins)
  | iVsel (e : Nat) (w : Ins)
  | iVmov (e : Nat) (w : Ins)
  | iVzero (e : Nat) (w : Ins)
  | iVbcast (e : Nat) (w : Ins)
  | iVext (e : Nat) (w : Ins)
  | iVins (e : Nat) (w : Ins)
  | iVrot (e : Nat) (w : Ins)
  | iLdb (e : Nat) (w : Ins)
  | iLdbu (e : Nat) (w : Ins)
  | iLdh (e : Nat) (w : Ins)
  | iLdhu (e : Nat) (w : Ins)
  | iLdw (e : Nat) (w : Ins)
  | iLdwu (e : Nat) (w : Ins)
  | iLdd (e : Nat) (w : Ins)
  | iStb (e : Nat) (w : Ins)
  | iSth (e : Nat) (w : Ins)
  | iStw (e : Nat) (w : Ins)
  | iStd (e : Nat) (w : Ins)
  | iVld (e : Nat) (w : Ins)
  | iVst (e : Nat) (w : Ins)
  | iAget (e : Nat) (w : Ins)
  | iAput (e : Nat) (w : Ins)
  | iTwait (e : Nat) (w : Ins)
  | iTwaitall (e : Nat) (w : Ins)
  | iTwaitn (e : Nat) (w : Ins)
  | iTstat (e : Nat) (w : Ins)
  | iBar (e : Nat) (w : Ins)
  | iBarmask (e : Nat) (w : Ins)
  | iSemsig (e : Nat) (w : Ins)
  | iSemwait (e : Nat) (w : Ins)
  | iSemtry (e : Nat) (w : Ins)
  | iNfence (e : Nat) (w : Ins)
  | iDot (e : Nat) (w : Ins)
  | iDots (e : Nat) (w : Ins)
  | iTzero (e : Nat) (w : Ins)
  | iTrd (e : Nat) (w : Ins)
  | iTwr (e : Nat) (w : Ins)
  | iTscale (e : Nat) (w : Ins)
  | iVexp (e : Nat) (w : Ins)
  | iVexp2 (e : Nat) (w : Ins)
  | iVrcp (e : Nat) (w : Ins)
  | iVrmax (e : Nat) (w : Ins)
  | iVrmin (e : Nat) (w : Ins)
  | iVrsum (e : Nat) (w : Ins)
  | iVexps (e : Nat) (w : Ins)
  | iSexps (e : Nat) (w : Ins)
  | iSfma (e : Nat) (w : Ins)
  | iCvt (e : Nat) (w : Ins)
  | iPtor (e : Nat) (w : Ins)
  | iPtov (e : Nat) (w : Ins)
  | iAadd (e : Nat) (w : Ins)
  | iAand (e : Nat) (w : Ins)
  | iAor (e : Nat) (w : Ins)
  | iAxor (e : Nat) (w : Ins)
  | iAmin (e : Nat) (w : Ins)
  | iAmax (e : Nat) (w : Ins)
  | iAminu (e : Nat) (w : Ins)
  | iAmaxu (e : Nat) (w : Ins)
  | iAswap (e : Nat) (w : Ins)
  | iAcas (e : Nat) (w : Ins)
  | iAfadd (e : Nat) (w : Ins)
  | iAfmin (e : Nat) (w : Ins)
  | iAfmax (e : Nat) (w : Ins)
  | iCred (e : Nat) (w : Ins)
  | iCgath (e : Nat) (w : Ins)
  | iMark (e : Nat) (w : Ins)
  | iRdcyc (e : Nat) (w : Ins)
  | iRdret (e : Nat) (w : Ins)
  | iRdtime (e : Nat) (w : Ins)
  | idleGraupel (port : Nat) (r : Rx)
  | dataGraupel (port : Nat) (r : Rx)
  | lnkParam (port : Nat) (r : Rx)
  | lnkInit (port : Nat) (r : Rx)
  | initAck (port : Nat) (r : Rx)
  | sleepReq (port : Nat) (r : Rx)
  | sleepAck (port : Nat) (r : Rx)
  | goingDown (port : Nat) (r : Rx)
  | initResend (port : Nat)
  | ackTimer (port : Nat)
  | sendPacket (port : Nat)
  | replayTimeout (port : Nat)
  | lockLost (port : Nat)
  | rxSilent (port : Nat)
  | autoRetrain (port : Nat)
  | trainingStepDone (port lanes : Nat)
  | trainFail (port : Nat)
  | framingRelock (port : Nat)
  | lnkReset (port : Nat)
  | lnkDown (port : Nat)
  | lnkEnable (port : Nat) (v : Bool)
  | packetForward (tx : Bool) (n : Nat)
  | portSchedSelect (port : Nat)
  | routeWaitExpiry (n : Nat)
  | reorderSkip (src dom : Nat)
  | retryTimer (dst tag : Nat)
  | fabDoubt (p : Pkt)
  | rdData (p : Pkt)
  | wrAck (p : Pkt)
  | atomicRsp (p : Pkt)
  | atomic (port : Nat) (p : Pkt)
  | redContrib (port : Nat) (p : Pkt)
  | redResult (p : Pkt)
  | gathContrib (port : Nat) (p : Pkt)
  | gathAck (p : Pkt)
  | chunkTimeout (group slot : Nat)
  | plRd (port : Nat) (p : Pkt)
  | plWr (port : Nat) (p : Pkt)
  | plData (p : Pkt)
  | plAck (p : Pkt)
  | pushAck (p : Pkt)
  | ctlRd (port : Nat) (p : Pkt)
  | ctlWr (port : Nat) (p : Pkt)
  | mgmtPkt (port : Nat) (p : Pkt)
  | fabRtDataWrite (v : Word64)
  | grpCreate
  | grpDestroy
  | grpQuery
  | shaperRefill
  | policerRefill
  | histSample
  | qosHistSelWrite (v : Word64)
  | tenantCreate
  | loadKey
  | genKey
  | tenantReset
  | tenCtlReset (w : Nat)
  | tenantResetDone (tenant : Nat)
  | tenantFence
  | secPurge (p : Pkt)
  | purgeResend (tenant : Nat)
  | tenantDrained (tenant : Nat)
  | secErase
  | tenantRemoved (tenant : Nat)
  | secUnseal
  | svnCommit
  | secAgentDataWrite (v : Word64)
  | getVersion (m : SpdmIn)
  | getCapabilities (m : SpdmIn)
  | negotiateAlgorithms (m : SpdmIn)
  | getDigests (m : SpdmIn)
  | getCertificate (m : SpdmIn)
  | spdmChallenge (m : SpdmIn)
  | getMeasurements (m : SpdmIn)
  | keyExchange (m : SpdmIn)
  | spdmFinish (m : SpdmIn)
  | spdmHeartbeat (m : SpdmIn)
  | keyUpdate (m : SpdmIn)
  | endSession (m : SpdmIn)
  | sessionHeartbeatTimeout (n : Nat)
  | formActive (cap : Option Nat) (granted : Bool)
  | formStandby (peer : Option PeerState)
  | mirBreak
  | recoverDone
  | ownBind
  | ownRelease
  | ownClaim
  | ownUnbind
  | ownQuery (p : Pkt)
  | ownTransfer (p : Pkt)
  | ownClaimMsg (p : Pkt)
  | ownReply (p : Pkt)
  | ownReturn (p : Pkt)
  | ownMsgResend (slot : Nat)
  | handoffDeadline (stateId : Nat)
  | renewTimer
  | renewGrant (p : Pkt)
  | selfFence
  | selfFenceDrainEnd
  | mirrorTimeout
  | soloGrant (p : Pkt)
  | mirDeny (p : Pkt)
  | mirHeartbeat (p : Pkt)
  | heartbeatTimer
  | detectTimer
  | takeoverGrant (p : Pkt)
  | resyncDone
  | mirrorCompareBlock (sum : Nat) (raced bad : Bool)
  | retentionExpiry (src : Nat)
  | recoveryClose (ut ui : Nat)
  | deviceFatalStop
  | autoReset
  | errViewSelWrite (v : Word64)
  | moraineFreeze
  | moraineUnfreeze
  | morPostReached
  | traceWrite (ut ui : Nat)
  | triggerArmed
  | traceFrozen
  | sourceDropRecord (ut ui : Nat)
  | dbgTcfgModeWrite (v : Word64)
  | snapshotTake
  | snapshotDone
  | dbgCntSnap
  | tenCntSnap (w : Nat)
  | timeCode (c : TimeCode)
  | trefLoss (input : Nat)
  | trefRecover (input : Nat)
  | trefRevert (input : Nat)
  | frostStop
  | clockRestart
  | pllLock (kind unit : Nat)
  | pllUnlock (kind unit : Nat)
  | applyEng
  | pwrSleep
  | pwrDeep
  | pwrWake
  | powerStateEntry
  | wakeEvent (source : Nat)
  | wakeDone
  | coldReset (addr pos : Nat)
  | rstInNLow
  | rstWarm
  | startupPhaseDone (x : StartIn)
  | mgmtWatchdog
  | mgtKick
  | mgtRestart
  | bootOk
  | bootLimit
  | mboxReq (r : MboxReq)
  | bootData (off total : Nat) (data : List Byte)
  | bootFetchRetry
  | mgtOwner (data : List Byte)
  | ownerPoll
  | mgtNotify
  | notifyResend
  | mgtNotifyWrite (v : Word64)
  | mgtApply
  | unitImageApply (unit : Nat)
  | sbRead (off : Nat)
  | sbWrite (off : Nat) (v : Word64)
  | sbWarmReset
  | sbWake
  | smbusFallback
  | ethDown
  | usageReport
  | meterBind (slot : Nat) (v : Word64)
  | calUserWrite (v : Word64)
  | authNonceRead (n : Nat)
  | authProve (n : Nat)
  | vinShutdown
  | powerGovernor (vin iin : Nat)
  | thermalSample (temps : List Int)
  | thermalTrip
  | tapExtest (pins : List Bool)
  | tapSample (pins : List Bool)
  | tapPreload (bits : List Bool)
  | tapClamp
  | tapHighz
  | tapExtestPulse (pins : List Bool)
  | tapExtestTrain (pins : List Bool)
  | tapBypass
  | registerWrite (path : Path) (off : Nat) (v : Word64)
  | purgeAck (p : Pkt)
  | resyncLineCopy (start : Bool)
  | traceStreamSend
  | rstInNRelease
  | ethLinkUp
  | dynamicAddressAssigned (addr : Nat)
  | firstDeliveryStatusExpiry (src : Nat)
  deriving DecidableEq, Repr

end Sys2Proof
end

