-- ==== Sys2Proof/Decode.lean ====
section
/-! DEFINITION. The command that a word spells by the bits of spec/opcode_table.json. The table gives its rows no bits:
a command of this block is a register access, a packet, an engine instruction or an event, each with operands of its
own kind, and no number spells one. The engine's own instruction words are read in Machine/EngIns.lean (R235, R236). -/

namespace Sys2Proof

/-- No row of the table gives bits, so no word is a command. -/
def decodeTableWord (_nbits _w : Nat) : Option Instr := none

end Sys2Proof
end

