-- ==== Sys2Proof/Config.lean ====
section
/-! DEFINITION. What the spec leaves open or the model does not compute: free values, and the
cryptographic functions and codes that the spec names by their standards. Each is a constant without a
body, so no proof can see a value of it (log entries 2 and 3). -/

namespace Sys2Proof.Config

/-- A free value: applied to a count the step advances, so each use is a fresh one (log entry 2). -/
opaque freeValue : Nat → BitVec 64

/-- Free bytes, for contents the spec calls undefined (R8 DEVICE_ERROR, R182; log entry 2). -/
opaque freeByte : Nat → Nat → BitVec 8

/-- An order in which a unit adds more than two values: R210 leaves it open (log entry 2). -/
opaque freeOrder : Nat → Nat

/-- SHA-256 of a byte string (FIPS 180-4, R321, R420), as 32 bytes. -/
opaque sha256 : List Byte → Vector Byte 32

/-- ECDSA P-256 with SHA-256 verification: public key, message, signature (R420, R324). -/
opaque ecdsaVerify : List Byte → List Byte → List Byte → Bool

/-- ECDSA P-256 signature of a message under a device key named by a number (R321, R410). -/
opaque ecdsaSign : Nat → List Byte → Vector Byte 64

/-- AES-256-XTS encryption of a 128-byte line (R318): key, tweak, plaintext. -/
opaque xtsEncrypt : List Byte → Nat → List Byte → Vector Byte 128

/-- AES-256-XTS decryption of a 128-byte line (R318): key, tweak, ciphertext. -/
opaque xtsDecrypt : List Byte → Nat → List Byte → Vector Byte 128

/-- AES-256-GCM opening (R319, R326): key, nonce, associated data, ciphertext with tag; none on failure. -/
opaque gcmOpen : List Byte → List Byte → List Byte → List Byte → Option (List Byte)

/-- ECDH and HKDF key agreement of the device's sealing key with a public key (R319, R326). -/
opaque sealKey : List Byte → List Byte → List Byte → Vector Byte 32

/-- The key a random draw gives (R319): a fresh key for each count. -/
opaque randomKey : Nat → Vector Byte 64

/-- The SPDM responder's message for a request in a session context (R322: the DMTF standards' formats). -/
opaque spdmResponse : Nat → List Byte → List Byte

/-- The public key that a firmware image's signature verifies under (R324): the spec names its certificate chain only. -/
opaque imageKey : List Byte

/-- Where a firmware image in an extent ends, in bytes from its start: R324 puts its block at the end, and no rule says how
the end is found (log entry 2). -/
opaque imageEnd : List Byte → Nat

/-- The factory value of a calibrated quantity (R408): the factory fuse bank's contents, as 16-bit counts (log entry 2). -/
opaque factoryCal : Nat → BitVec 16

/-- Opening an SPDM secured message (R322, R419: the DMTF standards' formats): its session, whether it carries application
data, and the plain bytes; none where it is no secured message that opens. -/
opaque sessionOpen : List Byte → Option (Nat × Bool × List Byte)

/-- Sealing of an answer in a session, application data or not. -/
opaque sessionSeal : Nat → Bool → List Byte → List Byte

/-- The region and the version that the bytes of a VerAcquire or VerRelease packet name: Table 14.1 has no field for them
(log entry 2). -/
opaque verName : List Byte → Nat × Nat

/-- Bank and row of a granule within its unit: the memories' own map, which no rule gives (R82, R83). -/
opaque dramPlace : Nat → Nat → Nat × Nat

/-- Whether an admission point takes its n-th sampling opportunity: 16 bits of its free-running pseudo-random sequence, of
which the lowest SAMPLE_LOG2 must be zero (R110, log entry 2). -/
opaque heatDraw : Nat → BitVec 16

/-- The governor's own projection, in watts, of the draw of the next 100 µs from the samples so far, newest first (R438: which
projection it makes, no rule says; log entry 2). -/
opaque powerAhead : List Nat → Nat

/-- The JEDEC refresh time in ns of a DIMM's density in Gb, stack height and speed (R85 names the standard's value, which no
rule gives; log entry 2). -/
opaque jedecTrfc : Nat → Nat → Nat → Nat

/-- The agent ID by which a node number is reached: no rule relates the two (log entry 5). -/
opaque nodeAgent : Nat → Nat

/-- Which of the results within 2 ulp of the exact one the special-function unit gives (R209) for a finite FP32 argument of e to
the x, 2 to the x and 1/x; the spec gives only that bound (log entry 6). -/
opaque sfuExp : BitVec 32 → BitVec 32
opaque sfuExp2 : BitVec 32 → BitVec 32
opaque sfuRcp : BitVec 32 → BitVec 32

end Sys2Proof.Config
end

