-- ==== Sys2Proof/Machine/Bits.lean ====
section
/-! DEFINITION. Bit fields, byte order and sign extension, once for the whole model (R7: every structure
is little-endian). -/

namespace Sys2Proof.Machine

/-- Bits [hi:lo] of a number. -/
def bits (x hi lo : Nat) : Nat := x / 2 ^ lo % 2 ^ (hi - lo + 1)

/-- Bit `i` of a number. -/
def bit (x i : Nat) : Bool := x / 2 ^ i % 2 == 1

/-- The number with bits [hi:lo] replaced by `v`. -/
def setBits (x hi lo v : Nat) : Nat :=
  x - bits x hi lo * 2 ^ lo + v % 2 ^ (hi - lo + 1) * 2 ^ lo

/-- 1 for true, 0 for false. -/
def b2n (b : Bool) : Nat := if b then 1 else 0

/-- The little-endian number that a list of bytes spells. -/
def leNat : List Byte → Nat
  | [] => 0
  | b :: bs => b.toNat + 256 * leNat bs

/-- The `n` little-endian bytes of a number. -/
def natLe : Nat → Nat → List Byte
  | 0, _ => []
  | n + 1, x => BitVec.ofNat 8 x :: natLe n (x / 256)

/-- The signed value of the low `w` bits of a number. -/
def toInt (w x : Nat) : Int :=
  let y := x % 2 ^ w
  if y < 2 ^ (w - 1) then (y : Int) else (y : Int) - (2 ^ w : Nat)

/-- A number that saturates at `top` when it is counted up. -/
def satAdd (top x d : Nat) : Nat := if top < x + d then top else x + d

/-- A list padded with zero bytes, or cut, to `n` bytes. -/
def fitBytes (n : Nat) (l : List Byte) : List Byte := l.take n ++ List.replicate (n - l.length) 0#8

/-- `n` bytes of `l` from position `i`. -/
def slice {α : Type} (l : List α) (i n : Nat) : List α := (l.drop i).take n

/-- Fold of a number by exclusive or in fields of `w` bits (R79), with fuel. -/
def xorFoldGo (w : Nat) : Nat → Nat → Nat → Nat
  | 0, _, f => f
  | k + 1, t, f => if t = 0 then f else xorFoldGo w k (t / 2 ^ w) (Nat.xor f (t % 2 ^ w))

/-- The xor-fold of R79: `t` folded into `w` bits; 64 fields cover every offset. -/
def xorFold (w t : Nat) : Nat := xorFoldGo w 64 t 0

/-- The numbers `a`, `a + 1`, …, `a + n - 1`. -/
def range' (a n : Nat) : List Nat := (List.range n).map (a + ·)

/-- Division rounded up. -/
def divUp (a b : Nat) : Nat := (a + b - 1) / b

end Sys2Proof.Machine
end

