-- ==== Sys2Proof/Machine/Arith.lean ====
section
/-! DEFINITION. Number formats and arithmetic (chapter 09): exact values, decoding and rounding of the ten
formats, conversion, block scales, the stochastic generator and the special functions. -/

namespace Sys2Proof.Machine

/-- A value of a float format: NaN, an infinity, or a signed magnitude m × 2^e (so that −0 is kept). -/
inductive FV where
  | nan
  | inf (neg : Bool)
  | fin (neg : Bool) (m : Nat) (e : Int)
  deriving DecidableEq, Repr

/-- A format's layout (Tables 9.1 and 9.2): bits, exponent bits, mantissa bits, bias, the largest finite
value's exponent field and mantissa, and whether it has infinities and NaN. -/
structure Fmt where
  bits : Nat
  eb : Nat
  mb : Nat
  bias : Nat
  maxE : Nat
  maxM : Nat
  hasInf : Bool
  hasNan : Bool
  canon : Nat
  deriving DecidableEq, Repr

/-- The float formats by code. -/
def fmtOf (c : Nat) : Fmt :=
  if c = 0 then ⟨32, 8, 23, 127, 254, 0x7fffff, true, true, 0x7fc00000⟩
  else if c = 1 then ⟨16, 8, 7, 127, 254, 0x7f, true, true, 0x7fc0⟩
  else if c = 2 then ⟨16, 5, 10, 15, 30, 0x3ff, true, true, 0x7e00⟩
  else if c = 3 then ⟨8, 4, 3, 7, 15, 6, false, true, 0x7f⟩
  else if c = 4 then ⟨8, 5, 2, 15, 30, 3, true, true, 0x7e⟩
  else if c = 5 then ⟨6, 3, 2, 3, 7, 3, false, false, 0⟩
  else if c = 6 then ⟨6, 2, 3, 1, 3, 7, false, false, 0⟩
  else ⟨4, 2, 1, 1, 3, 1, false, false, 0⟩

/-- Whether a code names a format at all; a float format; an integer format; one that may carry scales. -/
def fmtOk (c : Nat) : Bool := c < 10
def fmtFloat (c : Nat) : Bool := c < 8
def fmtInt (c : Nat) : Bool := c == 8 || c == 9
def fmtScalable (c : Nat) : Bool := 3 ≤ c && c < 10

/-- Bits of an element of a format (Table 9.1). -/
def fmtBits (c : Nat) : Nat := if c = 8 then 8 else if c = 9 then 4 else (fmtOf c).bits

/-- The value that an encoding stands for (R195). -/
def decodeF (c x : Nat) : FV :=
  let f := fmtOf c
  let neg := bit x (f.bits - 1)
  let e := x / 2 ^ f.mb % 2 ^ f.eb
  let m := x % 2 ^ f.mb
  if e = 2 ^ f.eb - 1 ∧ f.hasInf then (if m = 0 then .inf neg else .nan)
  else if c = 3 ∧ e = 15 ∧ m = 7 then .nan
  else if e = 0 then .fin neg m (1 - (f.bias : Int) - f.mb)
  else .fin neg (2 ^ f.mb + m) ((e : Int) - f.bias - f.mb)

/-- How a conversion rounds (R202, R203): to nearest even, or stochastically with a draw. -/
inductive Rnd where
  | rne
  | sto (r : Nat)
  deriving DecidableEq, Repr

/-- m × 2^e as a multiple of 2^q, rounded. -/
def roundTo (r : Rnd) (m : Nat) (e q : Int) : Nat :=
  if q ≤ e then m * 2 ^ (e - q).toNat
  else
    let k := (q - e).toNat
    let n := m / 2 ^ k
    let rem := m % 2 ^ k
    match r with
    | .rne => if 2 ^ k < 2 * rem ∨ (2 * rem = 2 ^ k ∧ n % 2 = 1) then n + 1 else n
    | .sto d => if 65536 ≤ rem * 65536 / 2 ^ k + d then n + 1 else n

/-- What a target gives beyond its range: infinity, or its largest finite value (Table 9.4). -/
def overflow (c : Nat) (neg : Bool) : Nat :=
  let f := fmtOf c
  b2n neg * 2 ^ (f.bits - 1) +
    if c ≤ 2 then (2 ^ f.eb - 1) * 2 ^ f.mb else f.maxE * 2 ^ f.mb + f.maxM

/-- A value rounded to a float format (R202 to R205). -/
def encodeF (r : Rnd) (c : Nat) : FV → Nat
  | .nan => (fmtOf c).canon
  | .inf neg => overflow c neg
  | .fin neg m e =>
    let f := fmtOf c
    let sgn := b2n neg * 2 ^ (f.bits - 1)
    if m = 0 then sgn
    else
      let top : Int := (Nat.log2 m : Int) + e
      let q := max top (1 - (f.bias : Int)) - f.mb
      let n := roundTo r m e q
      if n = 0 then sgn
      else if n < 2 ^ f.mb then sgn + n
      else
        let l := Nat.log2 n
        let ex := (l : Int) + q + f.bias
        let man := n * 2 ^ f.mb / 2 ^ l - 2 ^ f.mb
        if (f.maxE : Int) < ex ∨ (ex = f.maxE ∧ f.maxM < man) then overflow c neg
        else sgn + ex.toNat * 2 ^ f.mb + man

/-- A value rounded to an integer format of `w` bits, saturating (Table 9.4). -/
def encodeI (r : Rnd) (w : Nat) : FV → Nat
  | .nan => 0
  | .inf neg => if neg then 2 ^ (w - 1) else 2 ^ (w - 1) - 1
  | .fin neg m e =>
    let n := roundTo r m e 0
    if neg then (if 2 ^ (w - 1) ≤ n then 2 ^ (w - 1) else (2 ^ w - n) % 2 ^ w)
    else (if 2 ^ (w - 1) ≤ n then 2 ^ (w - 1) - 1 else n)

/-- A value times 2^k. -/
def FV.scale (k : Int) : FV → FV
  | .fin n m e => .fin n m (e + k)
  | x => x

/-- An integer as a value. -/
def FV.ofInt (i : Int) : FV := .fin (i < 0) i.natAbs 0

/-- An element of any format as a value (R195). -/
def decodeAny (c x : Nat) : FV := if fmtInt c then FV.ofInt (toInt (fmtBits c) x) else decodeF c x

/-- A value converted to any format. -/
def encodeAny (r : Rnd) (c : Nat) (v : FV) : Nat := if fmtInt c then encodeI r (fmtBits c) v else encodeF r c v

/-- The value a signed magnitude has as an integer multiple of 2^e. -/
def signed (neg : Bool) (m : Nat) : Int := if neg then -(m : Int) else m

/-- Exact sum (R206, R208): IEEE special cases; an exact zero is +0 unless both are −0. -/
def FV.add : FV → FV → FV
  | .nan, _ => .nan
  | _, .nan => .nan
  | .inf a, .inf b => if a = b then .inf a else .nan
  | .inf a, _ => .inf a
  | _, .inf b => .inf b
  | .fin n1 m1 e1, .fin n2 m2 e2 =>
    let e := min e1 e2
    let v := signed n1 (m1 * 2 ^ (e1 - e).toNat) + signed n2 (m2 * 2 ^ (e2 - e).toNat)
    if v = 0 then .fin (n1 && n2) 0 0 else .fin (v < 0) v.natAbs e

/-- Exact product. -/
def FV.mul : FV → FV → FV
  | .nan, _ => .nan
  | _, .nan => .nan
  | .inf a, .inf b => .inf (a != b)
  | .inf a, .fin b m _ => if m = 0 then .nan else .inf (a != b)
  | .fin a m _, .inf b => if m = 0 then .nan else .inf (a != b)
  | .fin a m e, .fin b n f => .fin (a != b) (m * n) (e + f)

def FV.neg : FV → FV
  | .nan => .nan
  | .inf a => .inf (!a)
  | .fin a m e => .fin (!a) m e

/-- Numeric order of two values that are not NaN; −0 and +0 are equal here. -/
def FV.lt : FV → FV → Bool
  | .inf a, .inf b => a && !b
  | .inf a, .fin .. => a
  | .fin .., .inf b => !b
  | .fin n1 m1 e1, .fin n2 m2 e2 =>
    let e := min e1 e2
    signed n1 (m1 * 2 ^ (e1 - e).toNat) < signed n2 (m2 * 2 ^ (e2 - e).toNat)
  | _, _ => false

def FV.isNan : FV → Bool
  | .nan => true
  | _ => false

/-- Numeric equality. -/
def FV.eqv (a b : FV) : Bool := !a.isNan && !b.isNan && !a.lt b && !b.lt a

def FV.negative : FV → Bool
  | .inf a => a
  | .fin a _ _ => a
  | .nan => false

/-- Minimum and maximum (R208): NaN if either is; −0 below +0. -/
def FV.min (a b : FV) : FV :=
  if a.isNan || b.isNan then .nan
  else if a.lt b then a else if b.lt a then b else if a.negative then a else b

def FV.max (a b : FV) : FV :=
  if a.isNan || b.isNan then .nan
  else if a.lt b then b else if b.lt a then a else if a.negative then b else a

/-- A value rounded to FP32 and read back. -/
def FV.r32 (a : FV) : FV := decodeF 0 (encodeF .rne 0 a)

/-- SUM, MIN and MAX of a REDUCE, an atomic or a switch group on FP32 values (R211, R212): 0, 1, 2. -/
def combine32 (op : Nat) (a b : FV) : FV :=
  if op = 0 then (a.add b).r32 else if op = 1 then a.min b else a.max b

/-! Packing (R197): element i of a format of w bits is bits [w·i + w − 1 : w·i] of the little-endian number. -/

def elemAt (w x i : Nat) : Nat := x / 2 ^ (w * i) % 2 ^ w

/-- Elements packed from element 0 up. -/
def packElems (w : Nat) (l : List Nat) : Nat := l.foldr (fun v a => v % 2 ^ w + 2 ^ w * a) 0

/-- Bytes that `n` elements of a format fill. -/
def elemBytes (c n : Nat) : Nat := divUp (fmtBits c * n) 8

/-! Block scales (R198 to R201). -/

/-- The implicit power of two of a scaled integer format (Table 9.3). -/
def implicitExp (c : Nat) : Int := if c = 8 then -6 else if c = 9 then -2 else 0

/-- A scaled element's value. -/
def decodeScaled (c x scale : Nat) : FV :=
  if scale = 255 then .nan else (decodeAny c x).scale ((scale : Int) - 127 + implicitExp c)

/-- emax of R201. -/
def emaxOf (c : Nat) : Int :=
  if c = 3 then 8 else if c = 4 then 15 else if c = 5 then 4 else if c = 6 then 2 else if c = 7 then 2 else 0

/-- floor(log2) of the largest magnitude of a block; none where every element is zero. -/
def maxLog (vs : List FV) : Option Int :=
  vs.foldl (fun b v => match v with
    | .fin _ m e =>
      if m = 0 then b
      else
        let l := (Nat.log2 m : Int) + e
        some (match b with | none => l | some x => max x l)
    | _ => b) none

/-- Whether a value is NaN or an infinity. -/
def FV.special : FV → Bool
  | .fin .. => false
  | _ => true

/-- The scale a conversion chooses for a block of FP32 values (R201). -/
def blockScale (c : Nat) (vs : List FV) : Nat :=
  if vs.any FV.special then 255
  else match maxLog vs with
    | none => 127
    | some l => (min 254 (max 0 (l - emaxOf c + 127))).toNat

/-- A block's element divided by its scale and the implicit factor, ready for the element conversion; every
element of a block of scale 255 is written as 0. -/
def toScaled (r : Rnd) (c scale : Nat) (v : FV) : Nat :=
  if scale = 255 then 0 else encodeAny r c (v.scale (127 - (scale : Int) - implicitExp c))

/-! The stochastic generator (R204). -/

/-- One step of the 64-bit xorshift; the draw is its top 16 bits. -/
def xorshift (x : Nat) : Nat :=
  let x := Nat.xor x (x * 2 ^ 13 % 2 ^ 64)
  let x := Nat.xor x (x / 2 ^ 7)
  Nat.xor x (x * 2 ^ 17 % 2 ^ 64)

def seedOf (x : Nat) : Nat := if x % 2 ^ 64 = 0 then 0x9e3779b97f4a7c15 else x % 2 ^ 64

def drawOf (x : Nat) : Nat := x / 2 ^ 48

/-- Values converted in order, each consuming one draw where rounding is stochastic: encodings and the
generator after them. -/
def convertAll (sto : Bool) (enc : Rnd → FV → Nat) : Nat → List FV → List Nat × Nat
  | g, [] => ([], g)
  | g, v :: vs =>
    let g' := if sto then xorshift g else g
    let (rest, gl) := convertAll sto enc g' vs
    (enc (if sto then .sto (drawOf g') else .rne) v :: rest, gl)

/-! Special functions (R209) on FP32 encodings: each result is one of those within 2 ulp of the exact one; which, a fixed
function of the input that no rule gives (log entry 6). -/

/-- The greatest finite FP32 encoding whose value is at most n/d. -/
def floorF (n d : Nat) : Nat :=
  let l : Int := (Nat.log2 n : Int) - Nat.log2 d
  let reaches := if 0 ≤ l then decide (d * 2 ^ l.toNat ≤ n) else decide (d ≤ n * 2 ^ (-l).toNat)
  let q : Int := max ((if reaches then l else l - 1) - 23) (-149)
  let m := if 0 ≤ q then n / (d * 2 ^ q.toNat) else n * 2 ^ (-q).toNat / d
  if n = 0 then 0 else min 0x7f7fffff (if m < 2 ^ 23 then m else (q + 150).toNat * 2 ^ 23 + (m - 2 ^ 23))

/-- One of the encodings within 2 ulp of a value between `lo` and the next: from the one before `lo` to the second after. -/
def nearUlp (lo : Nat) (pick : Word32) : Nat := min 0x7f7fffff (lo + pick.toNat % 4 - 1)

/-- Fixed-point numbers with 160 fraction bits: one, and the natural logarithm of 2. -/
def fixOne : Nat := 2 ^ 160
def fixLn2 : Nat := 1013035739299659071135698605846798551586536899366

/-- A finite value in fixed point, rounded down. -/
def fixOf (neg : Bool) (m : Nat) (e : Int) : Int :=
  if 0 ≤ e + 160 then signed neg m * 2 ^ (e + 160).toNat else signed neg m / 2 ^ (-(e + 160)).toNat

/-- e to the r by its series, for r below 1. -/
def expSeries (r : Nat) : Nat := (List.range 48).foldr (fun i a => fixOne + r * a / (fixOne * (i + 1))) fixOne

/-- e to the r, times 2 to the k, rounded down to FP32. -/
def expFloor (r : Nat) (k : Int) : Nat :=
  if k < -160 then 0
  else if 0 ≤ k then floorF (expSeries r * 2 ^ k.toNat) fixOne
  else floorF (expSeries r) (fixOne * 2 ^ (-k).toNat)

/-- An exponential: `low` gives the exact result of a finite input, rounded down; `lim` is the least FP32 encoding whose exact
result exceeds the range. -/
def sfuE (f : Word32 → Word32) (low : Int → Nat) (lim x : Nat) : Nat :=
  match decodeF 0 x with
  | .nan => 0x7fc00000
  | .inf neg => if neg then 0 else 0x7f800000
  | .fin neg m e =>
    if !neg && lim ≤ x % 2 ^ 31 then 0x7f800000
    else if neg && 0x43200000 ≤ x % 2 ^ 31 then nearUlp 0 (f (BitVec.ofNat 32 x))
    else nearUlp (low (fixOf neg m e)) (f (BitVec.ofNat 32 x))

def expOf (x : Nat) : Nat :=
  sfuE Config.sfuExp (fun v => expFloor (v % (fixLn2 : Int)).toNat (v / (fixLn2 : Int))) 0x42b17218 x

def exp2Of (x : Nat) : Nat :=
  sfuE Config.sfuExp2 (fun v => expFloor ((v % (fixOne : Int)).toNat * fixLn2 / fixOne) (v / (fixOne : Int))) 0x43000000 x

/-- 1/x; of an x so small that the exact result exceeds the range, no rule gives the result (log entry 6). -/
def rcpOf (x : Nat) : Nat :=
  match decodeF 0 x with
  | .nan => 0x7fc00000
  | .inf neg => b2n neg * 2 ^ 31
  | .fin neg m e =>
    let n := 2 ^ (-e).toNat
    let d := m * 2 ^ e.toNat
    let pick := Config.sfuRcp (BitVec.ofNat 32 x)
    if m = 0 then b2n neg * 2 ^ 31 + 0x7f800000
    else if (2 ^ 24 - 1) * 2 ^ 104 * d < n then pick.toNat
    else b2n neg * 2 ^ 31 + nearUlp (floorF n d) pick

end Sys2Proof.Machine
end

