-- ==== Sys2Proof/Machine/Map.lean ====
section
/-! DEFINITION. Finite maps as lists of key and value pairs in one canonical form: keys strictly rising.
Registers, memory, tables and queues keyed by a number are held so. -/

namespace Sys2Proof.Machine

/-- A finite map from numbers: pairs in strictly rising key order. -/
abbrev NMap (α : Type) := List (Nat × α)

namespace NMap

/-- The value at a key, if one is listed. -/
def find {α : Type} : NMap α → Nat → Option α
  | [], _ => none
  | (k, v) :: m, q => if q = k then some v else find m q

/-- The value at a key, or `d` where none is listed. -/
def getD {α : Type} (m : NMap α) (q : Nat) (d : α) : α := (find m q).getD d

/-- The map with `v` at key `q`. -/
def insert {α : Type} : NMap α → Nat → α → NMap α
  | [], q, v => [(q, v)]
  | (k, w) :: m, q, v =>
    if q = k then (k, v) :: m
    else if q < k then (q, v) :: (k, w) :: m
    else (k, w) :: insert m q v

/-- The map without key `q`. -/
def erase {α : Type} : NMap α → Nat → NMap α
  | [], _ => []
  | (k, w) :: m, q => if q = k then erase m q else (k, w) :: erase m q

/-- The map with the value at `q` changed by `f`, where one is listed. -/
def adjust {α : Type} (m : NMap α) (q : Nat) (f : α → α) : NMap α :=
  match find m q with
  | some v => insert m q (f v)
  | none => m

/-- Every value changed by `f`. -/
def mapVal {α β : Type} (f : Nat → α → β) (m : NMap α) : NMap β := m.map fun p => (p.1, f p.1 p.2)

/-- The pairs that satisfy `f`. -/
def keep {α : Type} (f : Nat → α → Bool) (m : NMap α) : NMap α := m.filter fun p => f p.1 p.2

/-- The values in key order. -/
def vals {α : Type} (m : NMap α) : List α := m.map Prod.snd

/-- The keys in order. -/
def keys {α : Type} (m : NMap α) : List Nat := m.map Prod.fst

/-- The canonical form: keys strictly rising. -/
def wf {α : Type} : NMap α → Bool
  | [] => true
  | [_] => true
  | (a, _) :: (b, y) :: m => a < b && wf ((b, y) :: m)

end NMap

end Sys2Proof.Machine
end

