-- ==== Sys2Proof/Machine/RegTypes.lean ====
section
/-! DEFINITION. What a register field is: its place in control space, its access type (Table 0.6), its
reset value (R428) and its stated range; and the fused and strapped facts of the part (R1, R10, R431). -/

namespace Sys2Proof.Machine

/-- The access types of Table 0.6 (R7). -/
inductive Acc where
  | ro | rw | w1c | w1s | rc | wo | rws
  deriving DecidableEq, Repr

/-- The part numbers of Table 22.10. -/
inductive Part where
  | hld1606 | hld1604 | hld1206 | hld0806 | hld0802
  deriving DecidableEq, Repr

/-- The fuse bank and the straps of one device (R1, R10, R431, R324): facts that no command changes,
but for the security version counters, which SVN_COMMIT raises. -/
structure Device where
  part : Part
  stepMajor : Nat
  stepMinor : Nat
  serial : Nat
  mac : Nat
  lifecycle : Nat
  idHash : List Nat
  svnSerdes : Nat
  svnDdr5 : Nat
  svnHbm : Nat
  svnMicrocode : Nat
  svnMgmt : Nat
  trayPos : Nat
  smbAddr : Nat
  deriving DecidableEq, Repr

/-- The register values that come from the fuse bank, the straps or a rule on the part. -/
inductive DevKey where
  | part | stepMajor | stepMinor | serial | mac | ports | ddr5Ch | ioDies | hbmStacks | hotSpares
  | iodSites | hbmSites | sustainedW | peakW | reserveDiv | maxDdr5 | hbmRaw | lifecycle
  | idHash (n : Nat) | svnSerdes | svnDdr5 | svnHbm | svnMicrocode | svnMgmt
  | trayPos | smbAddr | spare0 | spare1
  deriving DecidableEq, Repr

/-- The PART code of Table 22.10. -/
def Part.code : Part → Nat
  | .hld1606 => 1 | .hld1604 => 2 | .hld1206 => 3 | .hld0806 => 4 | .hld0802 => 5

/-- Populated HBM sites, bit k for site Sk (Table 1.1, R10). -/
def Part.hbmSites : Part → Nat
  | .hld1606 => 0xffff | .hld1604 => 0xffff | .hld1206 => 0x7777 | .hld0806 => 0x5555 | .hld0802 => 0x5555

/-- Populated I/O die sites, bit n for site Dn (Table 1.1, R10). -/
def Part.iodSites : Part → Nat
  | .hld1606 => 0x3f | .hld1604 => 0x1b | .hld1206 => 0x3f | .hld0806 => 0x3f | .hld0802 => 0x09

/-- HBM stacks mounted (Table 0.1). -/
def Part.hbmStacks : Part → Nat
  | .hld1606 => 16 | .hld1604 => 16 | .hld1206 => 12 | .hld0806 => 8 | .hld0802 => 8

/-- I/O dies mounted (Table 0.1). -/
def Part.ioDies : Part → Nat
  | .hld1606 => 6 | .hld1604 => 4 | .hld1206 => 6 | .hld0806 => 6 | .hld0802 => 2

/-- HBM spare reserve 1/div (Table 0.2, R3). -/
def Part.reserveDiv : Part → Nat
  | .hld1606 => 16 | .hld1604 => 16 | .hld1206 => 24 | .hld0806 => 32 | .hld0802 => 32

/-- Default hot-spare ports (Table 0.2, R3). -/
def Part.hotSpares : Part → Nat
  | .hld1606 => 4 | .hld1604 => 2 | .hld1206 => 4 | .hld0806 => 4 | .hld0802 => 0

/-- Sustained input power in watts (Table 0.1). -/
def Part.sustainedW : Part → Nat
  | .hld1606 => 1400 | .hld1604 => 1260 | .hld1206 => 1230 | .hld0806 => 1060 | .hld0802 => 760

/-- Peak input power in watts, 100 µs average (Table 0.1). -/
def Part.peakW : Part → Nat
  | .hld1606 => 1652 | .hld1604 => 1487 | .hld1206 => 1451 | .hld0806 => 1251 | .hld0802 => 897

/-- Spare bitmap of ports 0 to 63 at reset (R278). -/
def Part.spare0 : Part → Nat
  | .hld1604 => 3 * 2 ^ 58
  | _ => 0

/-- Spare bitmap of ports 64 to 71 at reset (R278). -/
def Part.spare1 : Part → Nat
  | .hld1606 => 0xf0 | .hld1206 => 0xf0 | .hld0806 => 0xf0
  | _ => 0

/-- The value of a fused, strapped or part-derived register field. -/
def Device.val (d : Device) : DevKey → Nat
  | .part => d.part.code
  | .stepMajor => d.stepMajor
  | .stepMinor => d.stepMinor
  | .serial => d.serial
  | .mac => d.mac
  | .ports => 12 * d.part.ioDies
  | .ddr5Ch => 4 * d.part.ioDies
  | .ioDies => d.part.ioDies
  | .hbmStacks => d.part.hbmStacks
  | .hotSpares => d.part.hotSpares
  | .iodSites => d.part.iodSites
  | .hbmSites => d.part.hbmSites
  | .sustainedW => d.part.sustainedW
  | .peakW => d.part.peakW
  | .reserveDiv => d.part.reserveDiv
  | .maxDdr5 => 2 * d.part.ioDies
  | .hbmRaw => 72 * d.part.hbmStacks
  | .lifecycle => d.lifecycle
  | .idHash n => d.idHash.getD n 0
  | .svnSerdes => d.svnSerdes
  | .svnDdr5 => d.svnDdr5
  | .svnHbm => d.svnHbm
  | .svnMicrocode => d.svnMicrocode
  | .svnMgmt => d.svnMgmt
  | .trayPos => d.trayPos
  | .smbAddr => d.smbAddr
  | .spare0 => d.part.spare0
  | .spare1 => d.part.spare1

/-- The Reset column of a register table (R428). -/
inductive Rst where
  | num (n : Nat)
  | dev (k : DevKey)
  deriving DecidableEq, Repr

/-- The range a field states; a value outside it is not stored. -/
inductive Rng where
  | any
  | between (lo hi : Nat)
  | zeroOr (lo hi : Nat)
  | oneOf (l : List Nat)
  deriving DecidableEq, Repr

/-- Whether a value lies in a field's stated range. -/
def Rng.ok : Rng → Nat → Bool
  | .any, _ => true
  | .between lo hi, v => lo ≤ v && v ≤ hi
  | .zeroOr lo hi, v => v == 0 || (lo ≤ v && v ≤ hi)
  | .oneOf l, v => l.contains v

/-- One register field. `off` is its register's control-space offset, or, for a register that a selector
register banks (R426), a number of the bank above 2^33. -/
structure Fld where
  off : Nat
  hi : Nat
  lo : Nat
  acc : Acc
  rst : Rst
  rng : Rng
  deriving DecidableEq, Repr

/-- The key of a field in the register bank. -/
def Fld.key (f : Fld) : Nat := 64 * f.off + f.lo

/-- The width of a field in bits. -/
def Fld.width (f : Fld) : Nat := f.hi + 1 - f.lo

/-- The largest value of a field. -/
def Fld.top (f : Fld) : Nat := 2 ^ f.width - 1

/-- A field's reset value on a device. -/
def Fld.reset (d : Device) (f : Fld) : Nat :=
  match f.rst with
  | .num n => n
  | .dev k => d.val k

end Sys2Proof.Machine
end

