-- ==== Sys2Proof/Machine/RegsA.lean ====
section
/-! DEFINITION. The fields of the memory, placement, translation, channel and engine registers, one definition a field: offset,
bits, access type, reset value and stated range, transcribed from the register tables of spec/ (R7, R412, R428). -/

namespace Sys2Proof.Machine.Reg

/-! MEMH_CTL (spec chapter 04). -/
def MEMH_CTL_CORR_LIMIT (k : Nat) : Fld := ⟨0x100000 + 0x1000 * k + 0, 55, 48, .rw, .num 64, .any⟩
def MEMH_CTL_STARVE_100NS (k : Nat) : Fld := ⟨0x100000 + 0x1000 * k + 0, 39, 32, .rw, .num 20, .between 1 255⟩
def MEMH_CTL_PRI_SCRUB (k : Nat) : Fld := ⟨0x100000 + 0x1000 * k + 0, 13, 12, .rw, .num 0, .any⟩
def MEMH_CTL_PRI_PLACE (k : Nat) : Fld := ⟨0x100000 + 0x1000 * k + 0, 11, 10, .rw, .num 1, .any⟩
def MEMH_CTL_PRI_ENGINE (k : Nat) : Fld := ⟨0x100000 + 0x1000 * k + 0, 9, 8, .rw, .num 2, .any⟩
def MEMH_CTL_PRI_FABRIC (k : Nat) : Fld := ⟨0x100000 + 0x1000 * k + 0, 7, 6, .rw, .num 3, .any⟩
def MEMH_CTL_SCRUB_EN (k : Nat) : Fld := ⟨0x100000 + 0x1000 * k + 0, 1, 1, .rw, .num 1, .any⟩
def MEMH_CTL_RETRAIN_EN (k : Nat) : Fld := ⟨0x100000 + 0x1000 * k + 0, 0, 0, .rw, .num 1, .any⟩
/-- The fields of MEMH_CTL. -/
def MEMH_CTL (k : Nat) : List Fld := [MEMH_CTL_CORR_LIMIT k, MEMH_CTL_STARVE_100NS k, MEMH_CTL_PRI_SCRUB k, MEMH_CTL_PRI_PLACE k, MEMH_CTL_PRI_ENGINE k, MEMH_CTL_PRI_FABRIC k, MEMH_CTL_SCRUB_EN k, MEMH_CTL_RETRAIN_EN k]

/-! MEMH_STATUS (spec chapter 04). -/
def MEMH_STATUS_CASE_TEMP_C (k : Nat) : Fld := ⟨0x100000 + 0x1000 * k + 8, 55, 48, .ro, .num 0, .any⟩
def MEMH_STATUS_PC_OUT (k : Nat) : Fld := ⟨0x100000 + 0x1000 * k + 8, 38, 32, .ro, .num 0, .any⟩
def MEMH_STATUS_STATE (k : Nat) : Fld := ⟨0x100000 + 0x1000 * k + 8, 2, 0, .ro, .num 0, .any⟩
/-- The fields of MEMH_STATUS. -/
def MEMH_STATUS (k : Nat) : List Fld := [MEMH_STATUS_CASE_TEMP_C k, MEMH_STATUS_PC_OUT k, MEMH_STATUS_STATE k]

/-! MEMH_ECC_CNT (spec chapter 04). -/
def MEMH_ECC_CNT_CMD_ERR (k : Nat) : Fld := ⟨0x100000 + 0x1000 * k + 16, 63, 48, .rc, .num 0, .any⟩
def MEMH_ECC_CNT_UNCORR (k : Nat) : Fld := ⟨0x100000 + 0x1000 * k + 16, 47, 32, .rc, .num 0, .any⟩
def MEMH_ECC_CNT_ODECC (k : Nat) : Fld := ⟨0x100000 + 0x1000 * k + 16, 31, 16, .rc, .num 0, .any⟩
def MEMH_ECC_CNT_CORR (k : Nat) : Fld := ⟨0x100000 + 0x1000 * k + 16, 15, 0, .rc, .num 0, .any⟩
/-- The fields of MEMH_ECC_CNT. -/
def MEMH_ECC_CNT (k : Nat) : List Fld := [MEMH_ECC_CNT_CMD_ERR k, MEMH_ECC_CNT_UNCORR k, MEMH_ECC_CNT_ODECC k, MEMH_ECC_CNT_CORR k]

/-! MEMH_EVENT (spec chapter 04). -/
def MEMH_EVENT_LAST_PC (k : Nat) : Fld := ⟨0x100000 + 0x1000 * k + 24, 21, 16, .ro, .num 0, .any⟩
def MEMH_EVENT_TEMP_HIGH (k : Nat) : Fld := ⟨0x100000 + 0x1000 * k + 24, 7, 7, .w1c, .num 0, .any⟩
def MEMH_EVENT_RETRAIN_FULL (k : Nat) : Fld := ⟨0x100000 + 0x1000 * k + 24, 6, 6, .w1c, .num 0, .any⟩
def MEMH_EVENT_UNSPARED (k : Nat) : Fld := ⟨0x100000 + 0x1000 * k + 24, 5, 5, .w1c, .num 0, .any⟩
def MEMH_EVENT_RETIRE_DONE (k : Nat) : Fld := ⟨0x100000 + 0x1000 * k + 24, 4, 4, .w1c, .num 0, .any⟩
def MEMH_EVENT_RETIRE_START (k : Nat) : Fld := ⟨0x100000 + 0x1000 * k + 24, 3, 3, .w1c, .num 0, .any⟩
def MEMH_EVENT_CMD_ERR (k : Nat) : Fld := ⟨0x100000 + 0x1000 * k + 24, 2, 2, .w1c, .num 0, .any⟩
def MEMH_EVENT_UNCORR (k : Nat) : Fld := ⟨0x100000 + 0x1000 * k + 24, 1, 1, .w1c, .num 0, .any⟩
def MEMH_EVENT_CORR_THRESH (k : Nat) : Fld := ⟨0x100000 + 0x1000 * k + 24, 0, 0, .w1c, .num 0, .any⟩
/-- The fields of MEMH_EVENT. -/
def MEMH_EVENT (k : Nat) : List Fld := [MEMH_EVENT_LAST_PC k, MEMH_EVENT_TEMP_HIGH k, MEMH_EVENT_RETRAIN_FULL k, MEMH_EVENT_UNSPARED k, MEMH_EVENT_RETIRE_DONE k, MEMH_EVENT_RETIRE_START k, MEMH_EVENT_CMD_ERR k, MEMH_EVENT_UNCORR k, MEMH_EVENT_CORR_THRESH k]

/-! MEMH_CMD (spec chapter 04). -/
def MEMH_CMD_STATUS (k : Nat) : Fld := ⟨0x100000 + 0x1000 * k + 32, 55, 48, .ro, .num 0x00, .any⟩
def MEMH_CMD_DETAIL (k : Nat) : Fld := ⟨0x100000 + 0x1000 * k + 32, 43, 40, .ro, .num 0, .any⟩
def MEMH_CMD_PC (k : Nat) : Fld := ⟨0x100000 + 0x1000 * k + 32, 21, 16, .rw, .num 0, .any⟩
def MEMH_CMD_BUSY (k : Nat) : Fld := ⟨0x100000 + 0x1000 * k + 32, 8, 8, .ro, .num 0, .any⟩
def MEMH_CMD_OPCODE (k : Nat) : Fld := ⟨0x100000 + 0x1000 * k + 32, 3, 0, .wo, .num 0, .any⟩
/-- The fields of MEMH_CMD. -/
def MEMH_CMD (k : Nat) : List Fld := [MEMH_CMD_STATUS k, MEMH_CMD_DETAIL k, MEMH_CMD_PC k, MEMH_CMD_BUSY k, MEMH_CMD_OPCODE k]

/-! MEMH_PC (spec chapter 04). -/
def MEMH_PC_CURSOR (k n : Nat) : Fld := ⟨0x100100 + 0x1000 * k + 8 * n, 54, 32, .ro, .num 0, .any⟩
def MEMH_PC_HOSTING (k n : Nat) : Fld := ⟨0x100100 + 0x1000 * k + 8 * n, 31, 31, .ro, .num 0, .any⟩
def MEMH_PC_HOSTED_PART (k n : Nat) : Fld := ⟨0x100100 + 0x1000 * k + 8 * n, 30, 26, .ro, .num 0, .any⟩
def MEMH_PC_HOSTED_SLOT (k n : Nat) : Fld := ⟨0x100100 + 0x1000 * k + 8 * n, 25, 16, .ro, .num 0, .any⟩
def MEMH_PC_STATE (k n : Nat) : Fld := ⟨0x100100 + 0x1000 * k + 8 * n, 2, 0, .ro, .num 0, .any⟩
/-- The fields of MEMH_PC. -/
def MEMH_PC (k n : Nat) : List Fld := [MEMH_PC_CURSOR k n, MEMH_PC_HOSTING k n, MEMH_PC_HOSTED_PART k n, MEMH_PC_HOSTED_SLOT k n, MEMH_PC_STATE k n]

/-! MEMH_TIER_CFG (spec chapter 04). -/
def MEMH_TIER_CFG_SCRUB_HOURS : Fld := ⟨0x110000, 47, 40, .rw, .num 24, .between 1 168⟩
def MEMH_TIER_CFG_RETIRE_GBPS : Fld := ⟨0x110000, 31, 24, .rw, .num 16, .between 1 32⟩
/-- The fields of MEMH_TIER_CFG. -/
def MEMH_TIER_CFG : List Fld := [MEMH_TIER_CFG_SCRUB_HOURS, MEMH_TIER_CFG_RETIRE_GBPS]

/-! MEMH_TIER_STATUS (spec chapter 04). -/
def MEMH_TIER_STATUS_RESERVE_DIV : Fld := ⟨0x110008, 47, 40, .ro, .dev (.reserveDiv), .any⟩
def MEMH_TIER_STATUS_STACKS : Fld := ⟨0x110008, 36, 32, .ro, .num 0, .any⟩
def MEMH_TIER_STATUS_AREAS_FREE : Fld := ⟨0x110008, 26, 16, .ro, .num 0, .any⟩
def MEMH_TIER_STATUS_PC_IN_SERVICE : Fld := ⟨0x110008, 10, 0, .ro, .num 0, .any⟩
/-- The fields of MEMH_TIER_STATUS. -/
def MEMH_TIER_STATUS : List Fld := [MEMH_TIER_STATUS_RESERVE_DIV, MEMH_TIER_STATUS_STACKS, MEMH_TIER_STATUS_AREAS_FREE, MEMH_TIER_STATUS_PC_IN_SERVICE]

/-! MEMD_CTL (spec chapter 04). -/
def MEMD_CTL_CORR_LIMIT (k : Nat) : Fld := ⟨0x200000 + 0x1000 * k + 0, 55, 48, .rw, .num 64, .any⟩
def MEMD_CTL_STARVE_100NS (k : Nat) : Fld := ⟨0x200000 + 0x1000 * k + 0, 39, 32, .rw, .num 20, .between 1 255⟩
def MEMD_CTL_PRI_SCRUB (k : Nat) : Fld := ⟨0x200000 + 0x1000 * k + 0, 13, 12, .rw, .num 0, .any⟩
def MEMD_CTL_PRI_PLACE (k : Nat) : Fld := ⟨0x200000 + 0x1000 * k + 0, 11, 10, .rw, .num 1, .any⟩
def MEMD_CTL_PRI_ENGINE (k : Nat) : Fld := ⟨0x200000 + 0x1000 * k + 0, 9, 8, .rw, .num 2, .any⟩
def MEMD_CTL_PRI_FABRIC (k : Nat) : Fld := ⟨0x200000 + 0x1000 * k + 0, 7, 6, .rw, .num 3, .any⟩
def MEMD_CTL_SCRUB_EN (k : Nat) : Fld := ⟨0x200000 + 0x1000 * k + 0, 1, 1, .rw, .num 1, .any⟩
def MEMD_CTL_RETRAIN_EN (k : Nat) : Fld := ⟨0x200000 + 0x1000 * k + 0, 0, 0, .rw, .num 1, .any⟩
/-- The fields of MEMD_CTL. -/
def MEMD_CTL (k : Nat) : List Fld := [MEMD_CTL_CORR_LIMIT k, MEMD_CTL_STARVE_100NS k, MEMD_CTL_PRI_SCRUB k, MEMD_CTL_PRI_PLACE k, MEMD_CTL_PRI_ENGINE k, MEMD_CTL_PRI_FABRIC k, MEMD_CTL_SCRUB_EN k, MEMD_CTL_RETRAIN_EN k]

/-! MEMD_STATUS (spec chapter 04). -/
def MEMD_STATUS_DIMM_TEMP_C (k : Nat) : Fld := ⟨0x200000 + 0x1000 * k + 8, 55, 48, .ro, .num 0, .any⟩
def MEMD_STATUS_SPEED (k : Nat) : Fld := ⟨0x200000 + 0x1000 * k + 8, 47, 40, .ro, .num 0, .any⟩
def MEMD_STATUS_DPC (k : Nat) : Fld := ⟨0x200000 + 0x1000 * k + 8, 35, 34, .ro, .num 0, .any⟩
def MEMD_STATUS_RANKS_PER_DIMM (k : Nat) : Fld := ⟨0x200000 + 0x1000 * k + 8, 33, 32, .ro, .num 0, .any⟩
def MEMD_STATUS_STATE (k : Nat) : Fld := ⟨0x200000 + 0x1000 * k + 8, 2, 0, .ro, .num 0, .any⟩
/-- The fields of MEMD_STATUS. -/
def MEMD_STATUS (k : Nat) : List Fld := [MEMD_STATUS_DIMM_TEMP_C k, MEMD_STATUS_SPEED k, MEMD_STATUS_DPC k, MEMD_STATUS_RANKS_PER_DIMM k, MEMD_STATUS_STATE k]

/-! MEMD_ECC_CNT (spec chapter 04). -/
def MEMD_ECC_CNT_CMD_ERR (k : Nat) : Fld := ⟨0x200000 + 0x1000 * k + 16, 63, 48, .rc, .num 0, .any⟩
def MEMD_ECC_CNT_UNCORR (k : Nat) : Fld := ⟨0x200000 + 0x1000 * k + 16, 47, 32, .rc, .num 0, .any⟩
def MEMD_ECC_CNT_CORR (k : Nat) : Fld := ⟨0x200000 + 0x1000 * k + 16, 31, 0, .rc, .num 0, .any⟩
/-- The fields of MEMD_ECC_CNT. -/
def MEMD_ECC_CNT (k : Nat) : List Fld := [MEMD_ECC_CNT_CMD_ERR k, MEMD_ECC_CNT_UNCORR k, MEMD_ECC_CNT_CORR k]

/-! MEMD_EVENT (spec chapter 04). -/
def MEMD_EVENT_LAST_RANK (k : Nat) : Fld := ⟨0x200000 + 0x1000 * k + 24, 17, 16, .ro, .num 0, .any⟩
def MEMD_EVENT_POP_MISMATCH (k : Nat) : Fld := ⟨0x200000 + 0x1000 * k + 24, 9, 9, .w1c, .num 0, .any⟩
def MEMD_EVENT_RESTORED (k : Nat) : Fld := ⟨0x200000 + 0x1000 * k + 24, 8, 8, .w1c, .num 0, .any⟩
def MEMD_EVENT_TEMP_HIGH (k : Nat) : Fld := ⟨0x200000 + 0x1000 * k + 24, 7, 7, .w1c, .num 0, .any⟩
def MEMD_EVENT_EVACUATED (k : Nat) : Fld := ⟨0x200000 + 0x1000 * k + 24, 6, 6, .w1c, .num 0, .any⟩
def MEMD_EVENT_UNSPARED (k : Nat) : Fld := ⟨0x200000 + 0x1000 * k + 24, 5, 5, .w1c, .num 0, .any⟩
def MEMD_EVENT_RETIRE_DONE (k : Nat) : Fld := ⟨0x200000 + 0x1000 * k + 24, 4, 4, .w1c, .num 0, .any⟩
def MEMD_EVENT_RETIRE_START (k : Nat) : Fld := ⟨0x200000 + 0x1000 * k + 24, 3, 3, .w1c, .num 0, .any⟩
def MEMD_EVENT_CMD_ERR (k : Nat) : Fld := ⟨0x200000 + 0x1000 * k + 24, 2, 2, .w1c, .num 0, .any⟩
def MEMD_EVENT_UNCORR (k : Nat) : Fld := ⟨0x200000 + 0x1000 * k + 24, 1, 1, .w1c, .num 0, .any⟩
def MEMD_EVENT_CORR_THRESH (k : Nat) : Fld := ⟨0x200000 + 0x1000 * k + 24, 0, 0, .w1c, .num 0, .any⟩
/-- The fields of MEMD_EVENT. -/
def MEMD_EVENT (k : Nat) : List Fld := [MEMD_EVENT_LAST_RANK k, MEMD_EVENT_POP_MISMATCH k, MEMD_EVENT_RESTORED k, MEMD_EVENT_TEMP_HIGH k, MEMD_EVENT_EVACUATED k, MEMD_EVENT_UNSPARED k, MEMD_EVENT_RETIRE_DONE k, MEMD_EVENT_RETIRE_START k, MEMD_EVENT_CMD_ERR k, MEMD_EVENT_UNCORR k, MEMD_EVENT_CORR_THRESH k]

/-! MEMD_CMD (spec chapter 04). -/
def MEMD_CMD_STATUS (k : Nat) : Fld := ⟨0x200000 + 0x1000 * k + 32, 55, 48, .ro, .num 0x00, .any⟩
def MEMD_CMD_DETAIL (k : Nat) : Fld := ⟨0x200000 + 0x1000 * k + 32, 43, 40, .ro, .num 0, .any⟩
def MEMD_CMD_RANK (k : Nat) : Fld := ⟨0x200000 + 0x1000 * k + 32, 17, 16, .rw, .num 0, .any⟩
def MEMD_CMD_BUSY (k : Nat) : Fld := ⟨0x200000 + 0x1000 * k + 32, 8, 8, .ro, .num 0, .any⟩
def MEMD_CMD_OPCODE (k : Nat) : Fld := ⟨0x200000 + 0x1000 * k + 32, 3, 0, .wo, .num 0, .any⟩
/-- The fields of MEMD_CMD. -/
def MEMD_CMD (k : Nat) : List Fld := [MEMD_CMD_STATUS k, MEMD_CMD_DETAIL k, MEMD_CMD_RANK k, MEMD_CMD_BUSY k, MEMD_CMD_OPCODE k]

/-! MEMD_RANK (spec chapter 04). -/
def MEMD_RANK_CURSOR (k n : Nat) : Fld := ⟨0x200100 + 0x1000 * k + 8 * n, 57, 32, .ro, .num 0, .any⟩
def MEMD_RANK_HOSTING (k n : Nat) : Fld := ⟨0x200100 + 0x1000 * k + 8 * n, 31, 31, .ro, .num 0, .any⟩
def MEMD_RANK_HOSTED_PART (k n : Nat) : Fld := ⟨0x200100 + 0x1000 * k + 8 * n, 30, 27, .ro, .num 0, .any⟩
def MEMD_RANK_HOSTED_SLOT (k n : Nat) : Fld := ⟨0x200100 + 0x1000 * k + 8 * n, 26, 23, .ro, .num 0, .any⟩
def MEMD_RANK_STATE (k n : Nat) : Fld := ⟨0x200100 + 0x1000 * k + 8 * n, 2, 0, .ro, .num 0, .any⟩
/-- The fields of MEMD_RANK. -/
def MEMD_RANK (k n : Nat) : List Fld := [MEMD_RANK_CURSOR k n, MEMD_RANK_HOSTING k n, MEMD_RANK_HOSTED_PART k n, MEMD_RANK_HOSTED_SLOT k n, MEMD_RANK_STATE k n]

/-! MEMD_TIER_CFG (spec chapter 04). -/
def MEMD_TIER_CFG_EVAC_GBPS : Fld := ⟨0x220000, 39, 32, .rw, .num 100, .between 1 200⟩
def MEMD_TIER_CFG_RANK_SPARE_DIV : Fld := ⟨0x220000, 4, 0, .rw, .num 8, .oneOf [0, 4, 8, 16]⟩
/-- The fields of MEMD_TIER_CFG. -/
def MEMD_TIER_CFG : List Fld := [MEMD_TIER_CFG_EVAC_GBPS, MEMD_TIER_CFG_RANK_SPARE_DIV]

/-! MEMD_SET (spec chapter 04). -/
def MEMD_SET_RANKS (n : Nat) : Fld := ⟨0x220100 + 8 * n, 44, 40, .ro, .num 0, .any⟩
def MEMD_SET_AREAS_FREE (n : Nat) : Fld := ⟨0x220100 + 8 * n, 36, 32, .ro, .num 0, .any⟩
def MEMD_SET_FRAMES (n : Nat) : Fld := ⟨0x220100 + 8 * n, 28, 8, .ro, .num 0, .any⟩
def MEMD_SET_STATE (n : Nat) : Fld := ⟨0x220100 + 8 * n, 2, 0, .ro, .num 0, .any⟩
/-- The fields of MEMD_SET. -/
def MEMD_SET (n : Nat) : List Fld := [MEMD_SET_RANKS n, MEMD_SET_AREAS_FREE n, MEMD_SET_FRAMES n, MEMD_SET_STATE n]

/-! PLC_CFG (spec chapter 05). -/
def PLC_CFG_DECAY_MS : Fld := ⟨0x300000, 63, 48, .rw, .num 100, .between 10 10000⟩
def PLC_CFG_HEAT_INC : Fld := ⟨0x300000, 39, 32, .rw, .num 64, .between 1 255⟩
def PLC_CFG_DECAY_SHIFT : Fld := ⟨0x300000, 26, 24, .rw, .num 1, .between 1 4⟩
def PLC_CFG_SAMPLE_LOG2 : Fld := ⟨0x300000, 19, 16, .rw, .num 12, .between 8 16⟩
def PLC_CFG_FREEZE : Fld := ⟨0x300000, 2, 2, .rw, .num 0, .any⟩
def PLC_CFG_REMOTE_EN : Fld := ⟨0x300000, 1, 1, .rw, .num 0, .any⟩
def PLC_CFG_ENABLE : Fld := ⟨0x300000, 0, 0, .rw, .num 1, .any⟩
/-- The fields of PLC_CFG. -/
def PLC_CFG : List Fld := [PLC_CFG_DECAY_MS, PLC_CFG_HEAT_INC, PLC_CFG_DECAY_SHIFT, PLC_CFG_SAMPLE_LOG2, PLC_CFG_FREEZE, PLC_CFG_REMOTE_EN, PLC_CFG_ENABLE]

/-! PLC_THRESH (spec chapter 05). -/
def PLC_THRESH_HYST : Fld := ⟨0x300008, 63, 48, .rw, .num 2048, .any⟩
def PLC_THRESH_PROMOTE : Fld := ⟨0x300008, 31, 16, .rw, .num 4096, .any⟩
def PLC_THRESH_DEMOTE : Fld := ⟨0x300008, 15, 0, .rw, .num 512, .any⟩
/-- The fields of PLC_THRESH. -/
def PLC_THRESH : List Fld := [PLC_THRESH_HYST, PLC_THRESH_PROMOTE, PLC_THRESH_DEMOTE]

/-! PLC_LIMITS (spec chapter 05). -/
def PLC_LIMITS_PIN_MAX_PCT : Fld := ⟨0x300010, 63, 56, .rw, .num 50, .between 0 90⟩
def PLC_LIMITS_MIG_GBPS : Fld := ⟨0x300010, 55, 48, .rw, .num 200, .between 1 255⟩
def PLC_LIMITS_FREE_HIGH : Fld := ⟨0x300010, 47, 32, .rw, .num 4096, .between 2 65535⟩
def PLC_LIMITS_FREE_LOW : Fld := ⟨0x300010, 31, 16, .rw, .num 1024, .between 1 65534⟩
def PLC_LIMITS_LODGE_MAX_64 : Fld := ⟨0x300010, 15, 0, .rw, .num 0, .any⟩
/-- The fields of PLC_LIMITS. -/
def PLC_LIMITS : List Fld := [PLC_LIMITS_PIN_MAX_PCT, PLC_LIMITS_MIG_GBPS, PLC_LIMITS_FREE_HIGH, PLC_LIMITS_FREE_LOW, PLC_LIMITS_LODGE_MAX_64]

/-! PLC_PEERS (spec chapter 05). -/
def PLC_PEERS_PEERS : Fld := ⟨0x300018, 63, 0, .rw, .num 0, .any⟩
/-- The fields of PLC_PEERS. -/
def PLC_PEERS : List Fld := [PLC_PEERS_PEERS]

/-! PLC_STATUS (spec chapter 05). -/
def PLC_STATUS_HBM_FREE : Fld := ⟨0x300020, 63, 44, .ro, .num 0, .any⟩
def PLC_STATUS_LODGED_IN : Fld := ⟨0x300020, 43, 24, .ro, .num 0, .any⟩
def PLC_STATUS_LODGED_OUT : Fld := ⟨0x300020, 23, 4, .ro, .num 0, .any⟩
/-- The fields of PLC_STATUS. -/
def PLC_STATUS : List Fld := [PLC_STATUS_HBM_FREE, PLC_STATUS_LODGED_IN, PLC_STATUS_LODGED_OUT]

/-! PLC_COUNT (spec chapter 05). -/
def PLC_COUNT_PROMOTIONS : Fld := ⟨0x300028, 63, 48, .rc, .num 0, .any⟩
def PLC_COUNT_DEMOTIONS : Fld := ⟨0x300028, 47, 32, .rc, .num 0, .any⟩
def PLC_COUNT_REMOTE_MOVES : Fld := ⟨0x300028, 31, 16, .rc, .num 0, .any⟩
def PLC_COUNT_SAMPLES_DROPPED : Fld := ⟨0x300028, 15, 0, .rc, .num 0, .any⟩
/-- The fields of PLC_COUNT. -/
def PLC_COUNT : List Fld := [PLC_COUNT_PROMOTIONS, PLC_COUNT_DEMOTIONS, PLC_COUNT_REMOTE_MOVES, PLC_COUNT_SAMPLES_DROPPED]

/-! PLC_EVENT (spec chapter 05). -/
def PLC_EVENT_LOST_NODE : Fld := ⟨0x300030, 13, 8, .ro, .num 0, .any⟩
def PLC_EVENT_SAMPLE_DROP : Fld := ⟨0x300030, 4, 4, .w1c, .num 0, .any⟩
def PLC_EVENT_HBM_LOW : Fld := ⟨0x300030, 3, 3, .w1c, .num 0, .any⟩
def PLC_EVENT_LODGE_LOST : Fld := ⟨0x300030, 2, 2, .w1c, .num 0, .any⟩
def PLC_EVENT_LODGE_RETURN : Fld := ⟨0x300030, 1, 1, .w1c, .num 0, .any⟩
def PLC_EVENT_MOVE_DONE : Fld := ⟨0x300030, 0, 0, .w1c, .num 0, .any⟩
/-- The fields of PLC_EVENT. -/
def PLC_EVENT : List Fld := [PLC_EVENT_LOST_NODE, PLC_EVENT_SAMPLE_DROP, PLC_EVENT_HBM_LOW, PLC_EVENT_LODGE_LOST, PLC_EVENT_LODGE_RETURN, PLC_EVENT_MOVE_DONE]

/-! PLC_CMD0 (spec chapter 05). -/
def PLC_CMD0_EXTENT_ID : Fld := ⟨0x300038, 63, 32, .rw, .num 0, .any⟩
def PLC_CMD0_PAGE : Fld := ⟨0x300038, 17, 0, .rw, .num 0, .any⟩
/-- The fields of PLC_CMD0. -/
def PLC_CMD0 : List Fld := [PLC_CMD0_EXTENT_ID, PLC_CMD0_PAGE]

/-! PLC_CMD1 (spec chapter 05). -/
def PLC_CMD1_COUNT : Fld := ⟨0x300040, 50, 32, .rw, .num 0, .between 1 262144⟩
def PLC_CMD1_NODE : Fld := ⟨0x300040, 21, 16, .rw, .num 0, .any⟩
def PLC_CMD1_SET : Fld := ⟨0x300040, 10, 8, .rw, .num 0, .any⟩
def PLC_CMD1_DEST : Fld := ⟨0x300040, 5, 4, .rw, .num 0, .any⟩
def PLC_CMD1_HINT : Fld := ⟨0x300040, 1, 0, .rw, .num 0, .any⟩
/-- The fields of PLC_CMD1. -/
def PLC_CMD1 : List Fld := [PLC_CMD1_COUNT, PLC_CMD1_NODE, PLC_CMD1_SET, PLC_CMD1_DEST, PLC_CMD1_HINT]

/-! PLC_CMD_CTL (spec chapter 05). -/
def PLC_CMD_CTL_STATUS : Fld := ⟨0x300048, 55, 48, .ro, .num 0x00, .any⟩
def PLC_CMD_CTL_DETAIL : Fld := ⟨0x300048, 43, 40, .ro, .num 0, .any⟩
def PLC_CMD_CTL_BUSY : Fld := ⟨0x300048, 8, 8, .ro, .num 0, .any⟩
def PLC_CMD_CTL_OPCODE : Fld := ⟨0x300048, 3, 0, .wo, .num 0, .any⟩
/-- The fields of PLC_CMD_CTL. -/
def PLC_CMD_CTL : List Fld := [PLC_CMD_CTL_STATUS, PLC_CMD_CTL_DETAIL, PLC_CMD_CTL_BUSY, PLC_CMD_CTL_OPCODE]

/-! PLC_VIEW (spec chapter 05). -/
def PLC_VIEW_DATA : Fld := ⟨0x300050, 63, 0, .ro, .num 0, .any⟩
/-- The fields of PLC_VIEW. -/
def PLC_VIEW : List Fld := [PLC_VIEW_DATA]

/-! DIR_CFG (spec chapter 03). -/
def DIR_CFG_SNOOP_TIMEOUT_US : Fld := ⟨0x400000, 63, 48, .rw, .num 50, .between 1 10000⟩
def DIR_CFG_DEFAULT_HOLD_10NS : Fld := ⟨0x400000, 40, 32, .rw, .num 20, .between 0 500⟩
def DIR_CFG_ENABLE : Fld := ⟨0x400000, 0, 0, .rw, .num 0, .any⟩
/-- The fields of DIR_CFG. -/
def DIR_CFG : List Fld := [DIR_CFG_SNOOP_TIMEOUT_US, DIR_CFG_DEFAULT_HOLD_10NS, DIR_CFG_ENABLE]

/-! DIR_STAT (spec chapter 03). -/
def DIR_STAT_EVICTIONS : Fld := ⟨0x400008, 63, 32, .rc, .num 0, .any⟩
def DIR_STAT_ENTRIES_VALID : Fld := ⟨0x400008, 25, 0, .ro, .num 0, .any⟩
/-- The fields of DIR_STAT. -/
def DIR_STAT : List Fld := [DIR_STAT_EVICTIONS, DIR_STAT_ENTRIES_VALID]

/-! DIR_EVENT (spec chapter 03). -/
def DIR_EVENT_TIMEOUT_AGENT : Fld := ⟨0x400010, 43, 32, .ro, .num 0, .any⟩
def DIR_EVENT_MAP_SWEEP_DONE : Fld := ⟨0x400010, 5, 5, .w1c, .num 0, .any⟩
def DIR_EVENT_MODE_MISMATCH : Fld := ⟨0x400010, 4, 4, .w1c, .num 0, .any⟩
def DIR_EVENT_PUBLISH_DONE : Fld := ⟨0x400010, 3, 3, .w1c, .num 0, .any⟩
def DIR_EVENT_VERSION_FREE : Fld := ⟨0x400010, 2, 2, .w1c, .num 0, .any⟩
def DIR_EVENT_ENTRY_LOST : Fld := ⟨0x400010, 1, 1, .w1c, .num 0, .any⟩
def DIR_EVENT_SNOOP_TIMEOUT : Fld := ⟨0x400010, 0, 0, .w1c, .num 0, .any⟩
/-- The fields of DIR_EVENT. -/
def DIR_EVENT : List Fld := [DIR_EVENT_TIMEOUT_AGENT, DIR_EVENT_MAP_SWEEP_DONE, DIR_EVENT_MODE_MISMATCH, DIR_EVENT_PUBLISH_DONE, DIR_EVENT_VERSION_FREE, DIR_EVENT_ENTRY_LOST, DIR_EVENT_SNOOP_TIMEOUT]

/-! REG_CMD0 (spec chapter 03). -/
def REG_CMD0_REGION_ID : Fld := ⟨0x400018, 63, 32, .rw, .num 0, .any⟩
def REG_CMD0_ARG : Fld := ⟨0x400018, 31, 0, .rw, .num 0, .any⟩
/-- The fields of REG_CMD0. -/
def REG_CMD0 : List Fld := [REG_CMD0_REGION_ID, REG_CMD0_ARG]

/-! REG_CMD1 (spec chapter 03). -/
def REG_CMD1_TENANT : Fld := ⟨0x400020, 41, 32, .rw, .num 0, .any⟩
def REG_CMD1_HOLD_10NS : Fld := ⟨0x400020, 24, 16, .rw, .num 0, .any⟩
def REG_CMD1_GRANT_E : Fld := ⟨0x400020, 8, 8, .rw, .num 0, .any⟩
def REG_CMD1_MODE : Fld := ⟨0x400020, 1, 0, .rw, .num 0, .any⟩
/-- The fields of REG_CMD1. -/
def REG_CMD1 : List Fld := [REG_CMD1_TENANT, REG_CMD1_HOLD_10NS, REG_CMD1_GRANT_E, REG_CMD1_MODE]

/-! REG_CMD_CTL (spec chapter 03). -/
def REG_CMD_CTL_STATUS : Fld := ⟨0x400028, 55, 48, .ro, .num 0x00, .any⟩
def REG_CMD_CTL_DETAIL : Fld := ⟨0x400028, 43, 40, .ro, .num 0, .any⟩
def REG_CMD_CTL_BUSY : Fld := ⟨0x400028, 8, 8, .ro, .num 0, .any⟩
def REG_CMD_CTL_OPCODE : Fld := ⟨0x400028, 3, 0, .wo, .num 0, .any⟩
/-- The fields of REG_CMD_CTL. -/
def REG_CMD_CTL : List Fld := [REG_CMD_CTL_STATUS, REG_CMD_CTL_DETAIL, REG_CMD_CTL_BUSY, REG_CMD_CTL_OPCODE]

/-! DIR_PROBE_ADDR (spec chapter 03). -/
def DIR_PROBE_ADDR_LINE : Fld := ⟨0x400030, 49, 7, .rw, .num 0, .any⟩
/-- The fields of DIR_PROBE_ADDR. -/
def DIR_PROBE_ADDR : List Fld := [DIR_PROBE_ADDR_LINE]

/-! DIR_PROBE_ST (spec chapter 03). -/
def DIR_PROBE_ST_VALID : Fld := ⟨0x400038, 63, 63, .ro, .num 0, .any⟩
def DIR_PROBE_ST_STATE : Fld := ⟨0x400038, 62, 61, .ro, .num 0, .any⟩
def DIR_PROBE_ST_COARSE : Fld := ⟨0x400038, 60, 60, .ro, .num 0, .any⟩
def DIR_PROBE_ST_EXACT_COUNT : Fld := ⟨0x400038, 59, 56, .ro, .num 0, .any⟩
def DIR_PROBE_ST_OWNER : Fld := ⟨0x400038, 55, 44, .ro, .num 0, .any⟩
def DIR_PROBE_ST_HOLD_LEFT_10NS : Fld := ⟨0x400038, 43, 35, .ro, .num 0, .any⟩
/-- The fields of DIR_PROBE_ST. -/
def DIR_PROBE_ST : List Fld := [DIR_PROBE_ST_VALID, DIR_PROBE_ST_STATE, DIR_PROBE_ST_COARSE, DIR_PROBE_ST_EXACT_COUNT, DIR_PROBE_ST_OWNER, DIR_PROBE_ST_HOLD_LEFT_10NS]

/-! DIR_PROBE_SH (spec chapter 03). -/
def DIR_PROBE_SH_SHARERS (n : Nat) : Fld := ⟨0x400040 + 8 * n, 63, 0, .ro, .num 0, .any⟩
/-- The fields of DIR_PROBE_SH. -/
def DIR_PROBE_SH (n : Nat) : List Fld := [DIR_PROBE_SH_SHARERS n]

/-! REG_VIEW (spec chapter 03). -/
def REG_VIEW_DATA (n : Nat) : Fld := ⟨0x400080 + 8 * n, 63, 0, .ro, .num 0, .any⟩
/-- The fields of REG_VIEW. -/
def REG_VIEW (n : Nat) : List Fld := [REG_VIEW_DATA n]

/-! DIR_AGENT_MAP (spec chapter 03). -/
def DIR_AGENT_MAP_MAP (n : Nat) : Fld := ⟨0x400100 + 8 * n, 63, 0, .rw, .num 0, .any⟩
/-- The fields of DIR_AGENT_MAP. -/
def DIR_AGENT_MAP (n : Nat) : List Fld := [DIR_AGENT_MAP_MAP n]

/-! XLT_CFG (spec chapter 06). -/
def XLT_CFG_HOT_THRESH : Fld := ⟨0x500000, 63, 48, .rw, .num 4096, .between 1 65535⟩
def XLT_CFG_CNT_EPOCH_MS : Fld := ⟨0x500000, 47, 32, .rw, .num 1000, .between 10 60000⟩
def XLT_CFG_CNT_LOG2 : Fld := ⟨0x500000, 27, 24, .rw, .num 6, .between 0 12⟩
def XLT_CFG_CNT_EN : Fld := ⟨0x500000, 1, 1, .rw, .num 0, .any⟩
def XLT_CFG_ENABLE : Fld := ⟨0x500000, 0, 0, .rw, .num 0, .any⟩
/-- The fields of XLT_CFG. -/
def XLT_CFG : List Fld := [XLT_CFG_HOT_THRESH, XLT_CFG_CNT_EPOCH_MS, XLT_CFG_CNT_LOG2, XLT_CFG_CNT_EN, XLT_CFG_ENABLE]

/-! XLT_STATUS (spec chapter 06). -/
def XLT_STATUS_ENTRIES_USED : Fld := ⟨0x500008, 63, 39, .ro, .num 0, .any⟩
def XLT_STATUS_SLAB_USED : Fld := ⟨0x500008, 38, 18, .ro, .num 0, .any⟩
def XLT_STATUS_WINDOWS_USED : Fld := ⟨0x500008, 16, 0, .ro, .num 0, .any⟩
/-- The fields of XLT_STATUS. -/
def XLT_STATUS : List Fld := [XLT_STATUS_ENTRIES_USED, XLT_STATUS_SLAB_USED, XLT_STATUS_WINDOWS_USED]

/-! XLT_EVENT (spec chapter 06). -/
def XLT_EVENT_SLAB_FULL : Fld := ⟨0x500010, 3, 3, .w1c, .num 0, .any⟩
def XLT_EVENT_HOT_OVF : Fld := ⟨0x500010, 2, 2, .w1c, .num 0, .any⟩
def XLT_EVENT_HOT_PENDING : Fld := ⟨0x500010, 1, 1, .ro, .num 0, .any⟩
def XLT_EVENT_INVAL_DONE : Fld := ⟨0x500010, 0, 0, .w1c, .num 0, .any⟩
/-- The fields of XLT_EVENT. -/
def XLT_EVENT : List Fld := [XLT_EVENT_SLAB_FULL, XLT_EVENT_HOT_OVF, XLT_EVENT_HOT_PENDING, XLT_EVENT_INVAL_DONE]

/-! XLT_CMD0 (spec chapter 06). -/
def XLT_CMD0_VA : Fld := ⟨0x500018, 56, 0, .rw, .num 0, .any⟩
/-- The fields of XLT_CMD0. -/
def XLT_CMD0 : List Fld := [XLT_CMD0_VA]

/-! XLT_CMD1 (spec chapter 06). -/
def XLT_CMD1_RPA : Fld := ⟨0x500020, 55, 0, .rw, .num 0, .any⟩
/-- The fields of XLT_CMD1. -/
def XLT_CMD1 : List Fld := [XLT_CMD1_RPA]

/-! XLT_CMD2 (spec chapter 06). -/
def XLT_CMD2_CTX : Fld := ⟨0x500028, 63, 54, .rw, .num 0, .between 1 1023⟩
def XLT_CMD2_RIGHTS : Fld := ⟨0x500028, 26, 24, .rw, .num 0, .any⟩
def XLT_CMD2_SIZE : Fld := ⟨0x500028, 20, 19, .rw, .num 0, .any⟩
def XLT_CMD2_COUNT : Fld := ⟨0x500028, 18, 0, .rw, .num 0, .between 1 262144⟩
/-- The fields of XLT_CMD2. -/
def XLT_CMD2 : List Fld := [XLT_CMD2_CTX, XLT_CMD2_RIGHTS, XLT_CMD2_SIZE, XLT_CMD2_COUNT]

/-! XLT_CMD3 (spec chapter 06). -/
def XLT_CMD3_TENANT : Fld := ⟨0x500030, 41, 32, .rw, .num 0, .any⟩
def XLT_CMD3_MODE : Fld := ⟨0x500030, 29, 29, .rw, .num 0, .any⟩
def XLT_CMD3_AGENTS : Fld := ⟨0x500030, 28, 16, .rw, .num 0, .between 1 4096⟩
def XLT_CMD3_NODES : Fld := ⟨0x500030, 6, 0, .rw, .num 0, .between 1 64⟩
/-- The fields of XLT_CMD3. -/
def XLT_CMD3 : List Fld := [XLT_CMD3_TENANT, XLT_CMD3_MODE, XLT_CMD3_AGENTS, XLT_CMD3_NODES]

/-! XLT_CMD_CTL (spec chapter 06). -/
def XLT_CMD_CTL_STATUS : Fld := ⟨0x500038, 55, 48, .ro, .num 0x00, .any⟩
def XLT_CMD_CTL_DETAIL : Fld := ⟨0x500038, 43, 40, .ro, .num 0, .any⟩
def XLT_CMD_CTL_BUSY : Fld := ⟨0x500038, 8, 8, .ro, .num 0, .any⟩
def XLT_CMD_CTL_OPCODE : Fld := ⟨0x500038, 3, 0, .wo, .num 0, .any⟩
/-- The fields of XLT_CMD_CTL. -/
def XLT_CMD_CTL : List Fld := [XLT_CMD_CTL_STATUS, XLT_CMD_CTL_DETAIL, XLT_CMD_CTL_BUSY, XLT_CMD_CTL_OPCODE]

/-! XLT_VIEW0 (spec chapter 06). -/
def XLT_VIEW0_DATA : Fld := ⟨0x500040, 63, 0, .ro, .num 0, .any⟩
/-- The fields of XLT_VIEW0. -/
def XLT_VIEW0 : List Fld := [XLT_VIEW0_DATA]

/-! XLT_VIEW1 (spec chapter 06). -/
def XLT_VIEW1_PINS : Fld := ⟨0x500048, 31, 0, .ro, .num 0, .any⟩
/-- The fields of XLT_VIEW1. -/
def XLT_VIEW1 : List Fld := [XLT_VIEW1_PINS]

/-! XLT_HOT_HEAD0 (spec chapter 06). -/
def XLT_HOT_HEAD0_RACK_TIME : Fld := ⟨0x500050, 63, 0, .ro, .num 0, .any⟩
/-- The fields of XLT_HOT_HEAD0. -/
def XLT_HOT_HEAD0 : List Fld := [XLT_HOT_HEAD0_RACK_TIME]

/-! XLT_HOT_HEAD1 (spec chapter 06). -/
def XLT_HOT_HEAD1_VALID : Fld := ⟨0x500058, 63, 63, .ro, .num 0, .any⟩
def XLT_HOT_HEAD1_GROUP : Fld := ⟨0x500058, 59, 56, .ro, .num 0, .any⟩
def XLT_HOT_HEAD1_COUNT : Fld := ⟨0x500058, 55, 40, .ro, .num 0, .any⟩
def XLT_HOT_HEAD1_PAGE : Fld := ⟨0x500058, 22, 0, .ro, .num 0, .any⟩
/-- The fields of XLT_HOT_HEAD1. -/
def XLT_HOT_HEAD1 : List Fld := [XLT_HOT_HEAD1_VALID, XLT_HOT_HEAD1_GROUP, XLT_HOT_HEAD1_COUNT, XLT_HOT_HEAD1_PAGE]

/-! XLT_HOT_POP (spec chapter 06). -/
def XLT_HOT_POP_POP : Fld := ⟨0x500060, 0, 0, .wo, .num 0, .any⟩
/-- The fields of XLT_HOT_POP. -/
def XLT_HOT_POP : List Fld := [XLT_HOT_POP_POP]

/-! XLT_HOT_COUNT (spec chapter 06). -/
def XLT_HOT_COUNT_DROPPED : Fld := ⟨0x500068, 63, 32, .rc, .num 0, .any⟩
def XLT_HOT_COUNT_QUEUED : Fld := ⟨0x500068, 12, 0, .ro, .num 0, .any⟩
/-- The fields of XLT_HOT_COUNT. -/
def XLT_HOT_COUNT : List Fld := [XLT_HOT_COUNT_DROPPED, XLT_HOT_COUNT_QUEUED]

/-! XLT_GROUP (spec chapter 06). -/
def XLT_GROUP_MAP (n : Nat) : Fld := ⟨0x500800 + 8 * n, 63, 0, .rw, .num 0xffffffffffffffff, .any⟩
/-- The fields of XLT_GROUP. -/
def XLT_GROUP (n : Nat) : List Fld := [XLT_GROUP_MAP n]

/-! EXT_CFG (spec chapter 02). -/
def EXT_CFG_TERM_MAX_MS : Fld := ⟨0x580000, 63, 48, .rw, .num 2000, .between 100 10000⟩
def EXT_CFG_GRACE_MS : Fld := ⟨0x580000, 47, 32, .rw, .num 100, .between 10 1000⟩
def EXT_CFG_DEFAULT_TERM_MS : Fld := ⟨0x580000, 31, 16, .rw, .num 500, .any⟩
def EXT_CFG_ENABLE : Fld := ⟨0x580000, 7, 7, .rw, .num 0, .any⟩
def EXT_CFG_NODE_ID : Fld := ⟨0x580000, 5, 0, .rw, .num 0, .any⟩
/-- The fields of EXT_CFG. -/
def EXT_CFG : List Fld := [EXT_CFG_TERM_MAX_MS, EXT_CFG_GRACE_MS, EXT_CFG_DEFAULT_TERM_MS, EXT_CFG_ENABLE, EXT_CFG_NODE_ID]

/-! EXT_CAP (spec chapter 02). -/
def EXT_CAP_NODE_CAP : Fld := ⟨0x580008, 55, 32, .ro, .num 0, .any⟩
def EXT_CAP_MAX_EXTENTS : Fld := ⟨0x580008, 20, 0, .ro, .num 1048576, .any⟩
/-- The fields of EXT_CAP. -/
def EXT_CAP : List Fld := [EXT_CAP_NODE_CAP, EXT_CAP_MAX_EXTENTS]

/-! EXT_CMD0 (spec chapter 02). -/
def EXT_CMD0_EXTENT_ID : Fld := ⟨0x580010, 63, 32, .rw, .num 0, .any⟩
def EXT_CMD0_HOLDER : Fld := ⟨0x580010, 31, 20, .rw, .num 0, .any⟩
def EXT_CMD0_TENANT : Fld := ⟨0x580010, 9, 0, .rw, .num 0, .any⟩
/-- The fields of EXT_CMD0. -/
def EXT_CMD0 : List Fld := [EXT_CMD0_EXTENT_ID, EXT_CMD0_HOLDER, EXT_CMD0_TENANT]

/-! EXT_CMD1 (spec chapter 02). -/
def EXT_CMD1_BASE : Fld := ⟨0x580018, 43, 0, .rw, .num 0, .any⟩
/-- The fields of EXT_CMD1. -/
def EXT_CMD1 : List Fld := [EXT_CMD1_BASE]

/-! EXT_CMD2 (spec chapter 02). -/
def EXT_CMD2_REGION_ID : Fld := ⟨0x580020, 63, 32, .rw, .num 0, .any⟩
def EXT_CMD2_RIGHTS : Fld := ⟨0x580020, 27, 24, .rw, .num 0, .any⟩
def EXT_CMD2_MODE : Fld := ⟨0x580020, 23, 22, .rw, .num 0, .any⟩
def EXT_CMD2_MIRRORED : Fld := ⟨0x580020, 21, 21, .rw, .num 0, .any⟩
def EXT_CMD2_LENGTH : Fld := ⟨0x580020, 18, 0, .rw, .num 0, .any⟩
/-- The fields of EXT_CMD2. -/
def EXT_CMD2 : List Fld := [EXT_CMD2_REGION_ID, EXT_CMD2_RIGHTS, EXT_CMD2_MODE, EXT_CMD2_MIRRORED, EXT_CMD2_LENGTH]

/-! EXT_CMD_CTL (spec chapter 02). -/
def EXT_CMD_CTL_STATUS : Fld := ⟨0x580028, 55, 48, .ro, .num 0x00, .any⟩
def EXT_CMD_CTL_DETAIL : Fld := ⟨0x580028, 43, 40, .ro, .num 0, .any⟩
def EXT_CMD_CTL_BUSY : Fld := ⟨0x580028, 8, 8, .ro, .num 0, .any⟩
def EXT_CMD_CTL_OPCODE : Fld := ⟨0x580028, 3, 0, .wo, .num 0, .any⟩
/-- The fields of EXT_CMD_CTL. -/
def EXT_CMD_CTL : List Fld := [EXT_CMD_CTL_STATUS, EXT_CMD_CTL_DETAIL, EXT_CMD_CTL_BUSY, EXT_CMD_CTL_OPCODE]

/-! EXT_EVENT (spec chapter 02). -/
def EXT_EVENT_OVERCOMMIT : Fld := ⟨0x580030, 5, 5, .w1c, .num 0, .any⟩
def EXT_EVENT_RECLAIM_DONE : Fld := ⟨0x580030, 4, 4, .w1c, .num 0, .any⟩
def EXT_EVENT_LATE_RENEW : Fld := ⟨0x580030, 3, 3, .w1c, .num 0, .any⟩
def EXT_EVENT_LEASE_EXPIRED : Fld := ⟨0x580030, 2, 2, .w1c, .num 0, .any⟩
def EXT_EVENT_LEASE_LAPSED : Fld := ⟨0x580030, 1, 1, .w1c, .num 0, .any⟩
def EXT_EVENT_FENCE_DONE : Fld := ⟨0x580030, 0, 0, .w1c, .num 0, .any⟩
/-- The fields of EXT_EVENT. -/
def EXT_EVENT : List Fld := [EXT_EVENT_OVERCOMMIT, EXT_EVENT_RECLAIM_DONE, EXT_EVENT_LATE_RENEW, EXT_EVENT_LEASE_EXPIRED, EXT_EVENT_LEASE_LAPSED, EXT_EVENT_FENCE_DONE]

/-! EXT_FENCE (spec chapter 02). -/
def EXT_FENCE_DONE_GEN : Fld := ⟨0x580038, 63, 32, .ro, .num 0, .any⟩
def EXT_FENCE_CUR_GEN : Fld := ⟨0x580038, 31, 0, .ro, .num 0, .any⟩
/-- The fields of EXT_FENCE. -/
def EXT_FENCE : List Fld := [EXT_FENCE_DONE_GEN, EXT_FENCE_CUR_GEN]

/-! LEASE_SEL (spec chapter 02). -/
def LEASE_SEL_AGENT : Fld := ⟨0x580040, 11, 0, .rw, .num 0, .any⟩
/-- The fields of LEASE_SEL. -/
def LEASE_SEL : List Fld := [LEASE_SEL_AGENT]

/-! LEASE_VIEW (spec chapter 02). -/
def LEASE_VIEW_EXTENTS : Fld := ⟨0x580048, 63, 32, .ro, .num 0, .any⟩
def LEASE_VIEW_TERM_MS : Fld := ⟨0x580048, 31, 16, .ro, .num 0, .any⟩
def LEASE_VIEW_STATE : Fld := ⟨0x580048, 2, 0, .ro, .num 0, .any⟩
/-- The fields of LEASE_VIEW. -/
def LEASE_VIEW : List Fld := [LEASE_VIEW_EXTENTS, LEASE_VIEW_TERM_MS, LEASE_VIEW_STATE]

/-! EXT_VIEW (spec chapter 02). -/
def EXT_VIEW_DATA (n : Nat) : Fld := ⟨0x580050 + 8 * n, 63, 0, .ro, .num 0, .any⟩
/-- The fields of EXT_VIEW. -/
def EXT_VIEW (n : Nat) : List Fld := [EXT_VIEW_DATA n]

/-! ENG_CTL (spec chapter 08). -/
def ENG_CTL_WDOG_KCYC (e : Nat) : Fld := ⟨0x600000 + 0x1000 * e + 0, 63, 32, .rw, .num 0, .any⟩
def ENG_CTL_STOP (e : Nat) : Fld := ⟨0x600000 + 0x1000 * e + 0, 1, 1, .w1s, .num 0, .any⟩
def ENG_CTL_OFFLINE (e : Nat) : Fld := ⟨0x600000 + 0x1000 * e + 0, 0, 0, .rws, .num 0, .any⟩
/-- The fields of ENG_CTL. -/
def ENG_CTL (e : Nat) : List Fld := [ENG_CTL_WDOG_KCYC e, ENG_CTL_STOP e, ENG_CTL_OFFLINE e]

/-! ENG_STATUS (spec chapter 08). -/
def ENG_STATUS_TENANT (e : Nat) : Fld := ⟨0x600000 + 0x1000 * e + 8, 63, 54, .ro, .num 0, .any⟩
def ENG_STATUS_CHANNEL (e : Nat) : Fld := ⟨0x600000 + 0x1000 * e + 8, 53, 42, .ro, .num 0, .any⟩
def ENG_STATUS_TAGS_OUT (e : Nat) : Fld := ⟨0x600000 + 0x1000 * e + 8, 41, 32, .ro, .num 0, .any⟩
def ENG_STATUS_PC (e : Nat) : Fld := ⟨0x600000 + 0x1000 * e + 8, 28, 16, .ro, .num 0, .any⟩
def ENG_STATUS_STATE (e : Nat) : Fld := ⟨0x600000 + 0x1000 * e + 8, 2, 0, .ro, .num 0, .any⟩
/-- The fields of ENG_STATUS. -/
def ENG_STATUS (e : Nat) : List Fld := [ENG_STATUS_TENANT e, ENG_STATUS_CHANNEL e, ENG_STATUS_TAGS_OUT e, ENG_STATUS_PC e, ENG_STATUS_STATE e]

/-! ENG_FAULT (spec chapter 08). -/
def ENG_FAULT_MORE (e : Nat) : Fld := ⟨0x600000 + 0x1000 * e + 16, 63, 63, .ro, .num 0, .any⟩
def ENG_FAULT_STATUS (e : Nat) : Fld := ⟨0x600000 + 0x1000 * e + 16, 55, 48, .ro, .num 0x00, .any⟩
def ENG_FAULT_DETAIL (e : Nat) : Fld := ⟨0x600000 + 0x1000 * e + 16, 43, 40, .ro, .num 0, .any⟩
def ENG_FAULT_CAUSE (e : Nat) : Fld := ⟨0x600000 + 0x1000 * e + 16, 35, 32, .ro, .num 0, .any⟩
def ENG_FAULT_PC (e : Nat) : Fld := ⟨0x600000 + 0x1000 * e + 16, 28, 16, .ro, .num 0, .any⟩
def ENG_FAULT_TAG (e : Nat) : Fld := ⟨0x600000 + 0x1000 * e + 16, 8, 0, .ro, .num 0, .any⟩
/-- The fields of ENG_FAULT. -/
def ENG_FAULT (e : Nat) : List Fld := [ENG_FAULT_MORE e, ENG_FAULT_STATUS e, ENG_FAULT_DETAIL e, ENG_FAULT_CAUSE e, ENG_FAULT_PC e, ENG_FAULT_TAG e]

/-! ENG_FAULT_ADDR (spec chapter 08). -/
def ENG_FAULT_ADDR_ADDR (e : Nat) : Fld := ⟨0x600000 + 0x1000 * e + 24, 63, 0, .ro, .num 0, .any⟩
/-- The fields of ENG_FAULT_ADDR. -/
def ENG_FAULT_ADDR (e : Nat) : List Fld := [ENG_FAULT_ADDR_ADDR e]

/-! ENG_EXIT (spec chapter 08). -/
def ENG_EXIT_EXIT (e : Nat) : Fld := ⟨0x600000 + 0x1000 * e + 32, 63, 0, .ro, .num 0, .any⟩
/-- The fields of ENG_EXIT. -/
def ENG_EXIT (e : Nat) : List Fld := [ENG_EXIT_EXIT e]

/-! ENG_SEED (spec chapter 08). -/
def ENG_SEED_SEED (e : Nat) : Fld := ⟨0x600000 + 0x1000 * e + 40, 63, 0, .rw, .num e, .any⟩
/-- The fields of ENG_SEED. -/
def ENG_SEED (e : Nat) : List Fld := [ENG_SEED_SEED e]

/-! ENG_CYCLES (spec chapter 08). -/
def ENG_CYCLES_CYCLES (e : Nat) : Fld := ⟨0x600000 + 0x1000 * e + 48, 63, 0, .ro, .num 0, .any⟩
/-- The fields of ENG_CYCLES. -/
def ENG_CYCLES (e : Nat) : List Fld := [ENG_CYCLES_CYCLES e]

/-! ENG_RETIRED (spec chapter 08). -/
def ENG_RETIRED_RETIRED (e : Nat) : Fld := ⟨0x600000 + 0x1000 * e + 56, 63, 0, .ro, .num 0, .any⟩
/-- The fields of ENG_RETIRED. -/
def ENG_RETIRED (e : Nat) : List Fld := [ENG_RETIRED_RETIRED e]

/-! ENG_ECC (spec chapter 08). -/
def ENG_ECC_UNCORR (e : Nat) : Fld := ⟨0x600000 + 0x1000 * e + 64, 63, 32, .rc, .num 0, .any⟩
def ENG_ECC_CORR (e : Nat) : Fld := ⟨0x600000 + 0x1000 * e + 64, 31, 0, .rc, .num 0, .any⟩
/-- The fields of ENG_ECC. -/
def ENG_ECC (e : Nat) : List Fld := [ENG_ECC_UNCORR e, ENG_ECC_CORR e]

/-! CIRQ_STATUS (spec chapter 08). -/
def CIRQ_STATUS_TENANT (c : Nat) : Fld := ⟨0x600800 + 0x10000 * c + 0, 63, 54, .ro, .num 0, .any⟩
def CIRQ_STATUS_CHANNEL (c : Nat) : Fld := ⟨0x600800 + 0x10000 * c + 0, 53, 42, .ro, .num 0, .any⟩
def CIRQ_STATUS_BUSY (c : Nat) : Fld := ⟨0x600800 + 0x10000 * c + 0, 16, 16, .ro, .num 0, .any⟩
def CIRQ_STATUS_LAUNCH_MASK (c : Nat) : Fld := ⟨0x600800 + 0x10000 * c + 0, 15, 0, .ro, .num 0, .any⟩
/-- The fields of CIRQ_STATUS. -/
def CIRQ_STATUS (c : Nat) : List Fld := [CIRQ_STATUS_TENANT c, CIRQ_STATUS_CHANNEL c, CIRQ_STATUS_BUSY c, CIRQ_STATUS_LAUNCH_MASK c]

/-! CIRQ_BAR0 (spec chapter 08). -/
def CIRQ_BAR0_ARRIVED (c : Nat) : Fld := ⟨0x600800 + 0x10000 * c + 8, 63, 0, .ro, .num 0, .any⟩
/-- The fields of CIRQ_BAR0. -/
def CIRQ_BAR0 (c : Nat) : List Fld := [CIRQ_BAR0_ARRIVED c]

/-! CIRQ_BAR1 (spec chapter 08). -/
def CIRQ_BAR1_ARRIVED (c : Nat) : Fld := ⟨0x600800 + 0x10000 * c + 16, 63, 0, .ro, .num 0, .any⟩
/-- The fields of CIRQ_BAR1. -/
def CIRQ_BAR1 (c : Nat) : List Fld := [CIRQ_BAR1_ARRIVED c]

/-! CIRQ_BARMASK0 (spec chapter 08). -/
def CIRQ_BARMASK0_PARTICIPANTS (c : Nat) : Fld := ⟨0x600800 + 0x10000 * c + 24, 63, 0, .ro, .num 0, .any⟩
/-- The fields of CIRQ_BARMASK0. -/
def CIRQ_BARMASK0 (c : Nat) : List Fld := [CIRQ_BARMASK0_PARTICIPANTS c]

/-! CIRQ_BARMASK1 (spec chapter 08). -/
def CIRQ_BARMASK1_PARTICIPANTS (c : Nat) : Fld := ⟨0x600800 + 0x10000 * c + 32, 63, 0, .ro, .num 0, .any⟩
/-- The fields of CIRQ_BARMASK1. -/
def CIRQ_BARMASK1 (c : Nat) : List Fld := [CIRQ_BARMASK1_PARTICIPANTS c]

/-! CIRQ_SEM (spec chapter 08). -/
def CIRQ_SEM_COUNT (c n : Nat) : Fld := ⟨0x600828 + 0x10000 * c + 8 * n, 63, 0, .ro, .num 0, .any⟩
/-- The fields of CIRQ_SEM. -/
def CIRQ_SEM (c n : Nat) : List Fld := [CIRQ_SEM_COUNT c n]

/-! CHN_CFG (spec chapter 07). -/
def CHN_CFG_ENABLE : Fld := ⟨0x700000, 0, 0, .rw, .num 0, .any⟩
/-- The fields of CHN_CFG. -/
def CHN_CFG : List Fld := [CHN_CFG_ENABLE]

/-! CHN_STATUS (spec chapter 07). -/
def CHN_STATUS_LIVE_DESC : Fld := ⟨0x700008, 47, 32, .ro, .num 0, .any⟩
def CHN_STATUS_CACHED : Fld := ⟨0x700008, 25, 16, .ro, .num 0, .any⟩
def CHN_STATUS_CREATED : Fld := ⟨0x700008, 12, 0, .ro, .num 0, .any⟩
/-- The fields of CHN_STATUS. -/
def CHN_STATUS : List Fld := [CHN_STATUS_LIVE_DESC, CHN_STATUS_CACHED, CHN_STATUS_CREATED]

/-! CHN_EVENT (spec chapter 07). -/
def CHN_EVENT_LAST_CHANNEL : Fld := ⟨0x700010, 43, 32, .ro, .num 0, .any⟩
def CHN_EVENT_CACHE_WAIT : Fld := ⟨0x700010, 3, 3, .w1c, .num 0, .any⟩
def CHN_EVENT_DOORBELL_BAD : Fld := ⟨0x700010, 2, 2, .w1c, .num 0, .any⟩
def CHN_EVENT_CH_PAUSED : Fld := ⟨0x700010, 1, 1, .w1c, .num 0, .any⟩
def CHN_EVENT_CH_FAULT : Fld := ⟨0x700010, 0, 0, .w1c, .num 0, .any⟩
/-- The fields of CHN_EVENT. -/
def CHN_EVENT : List Fld := [CHN_EVENT_LAST_CHANNEL, CHN_EVENT_CACHE_WAIT, CHN_EVENT_DOORBELL_BAD, CHN_EVENT_CH_PAUSED, CHN_EVENT_CH_FAULT]

/-! CHN_CMD (spec chapter 07). -/
def CHN_CMD_STATUS : Fld := ⟨0x700018, 55, 48, .ro, .num 0x00, .any⟩
def CHN_CMD_DETAIL : Fld := ⟨0x700018, 43, 40, .ro, .num 0, .any⟩
def CHN_CMD_CHANNEL : Fld := ⟨0x700018, 27, 16, .rw, .num 0, .any⟩
def CHN_CMD_BUSY : Fld := ⟨0x700018, 8, 8, .ro, .num 0, .any⟩
def CHN_CMD_OPCODE : Fld := ⟨0x700018, 3, 0, .wo, .num 0, .any⟩
/-- The fields of CHN_CMD. -/
def CHN_CMD : List Fld := [CHN_CMD_STATUS, CHN_CMD_DETAIL, CHN_CMD_CHANNEL, CHN_CMD_BUSY, CHN_CMD_OPCODE]

/-! CHN_ENTRY (spec chapter 07). -/
def CHN_ENTRY_DATA (n : Nat) : Fld := ⟨0x700080 + 8 * n, 63, 0, .rw, .num 0, .any⟩
/-- The fields of CHN_ENTRY. -/
def CHN_ENTRY (n : Nat) : List Fld := [CHN_ENTRY_DATA n]

/-! LEASE_RENEW (spec chapter 02). -/
def LEASE_RENEW_TERM_MS (w : Nat) : Fld := ⟨0x8000000 + 0x10000 * w + 256, 15, 0, .wo, .num 0, .any⟩
/-- The fields of LEASE_RENEW. -/
def LEASE_RENEW (w : Nat) : List Fld := [LEASE_RENEW_TERM_MS w]

/-! LEASE_STATUS (spec chapter 02). -/
def LEASE_STATUS_EXPIRY (w : Nat) : Fld := ⟨0x8000000 + 0x10000 * w + 264, 63, 0, .ro, .num 0, .any⟩
/-- The fields of LEASE_STATUS. -/
def LEASE_STATUS (w : Nat) : List Fld := [LEASE_STATUS_EXPIRY w]

/-! CHN_TCTL (spec chapter 07). -/
def CHN_TCTL_CHANNEL (w : Nat) : Fld := ⟨0x8000000 + 0x10000 * w + 512, 27, 16, .wo, .num 0, .any⟩
def CHN_TCTL_OP (w : Nat) : Fld := ⟨0x8000000 + 0x10000 * w + 512, 1, 0, .wo, .num 0, .any⟩
/-- The fields of CHN_TCTL. -/
def CHN_TCTL (w : Nat) : List Fld := [CHN_TCTL_CHANNEL w, CHN_TCTL_OP w]

/-! CHN_TSEL (spec chapter 07). -/
def CHN_TSEL_CHANNEL (w : Nat) : Fld := ⟨0x8000000 + 0x10000 * w + 520, 11, 0, .rw, .num 0, .any⟩
/-- The fields of CHN_TSEL. -/
def CHN_TSEL (w : Nat) : List Fld := [CHN_TSEL_CHANNEL w]

/-! CHN_TVIEW (spec chapter 07). -/
def CHN_TVIEW_SQ_HEAD (w : Nat) : Fld := ⟨0x8000000 + 0x10000 * w + 528, 63, 48, .ro, .num 0, .any⟩
def CHN_TVIEW_CQ_TAIL (w : Nat) : Fld := ⟨0x8000000 + 0x10000 * w + 528, 47, 32, .ro, .num 0, .any⟩
def CHN_TVIEW_FAULT_STATUS (w : Nat) : Fld := ⟨0x8000000 + 0x10000 * w + 528, 31, 24, .ro, .num 0, .any⟩
def CHN_TVIEW_FAULT_DETAIL (w : Nat) : Fld := ⟨0x8000000 + 0x10000 * w + 528, 23, 16, .ro, .num 0, .any⟩
def CHN_TVIEW_LIVE (w : Nat) : Fld := ⟨0x8000000 + 0x10000 * w + 528, 15, 8, .ro, .num 0, .any⟩
def CHN_TVIEW_STATE (w : Nat) : Fld := ⟨0x8000000 + 0x10000 * w + 528, 2, 0, .ro, .num 0, .any⟩
/-- The fields of CHN_TVIEW. -/
def CHN_TVIEW (w : Nat) : List Fld := [CHN_TVIEW_SQ_HEAD w, CHN_TVIEW_CQ_TAIL w, CHN_TVIEW_FAULT_STATUS w, CHN_TVIEW_FAULT_DETAIL w, CHN_TVIEW_LIVE w, CHN_TVIEW_STATE w]

/-! DOORBELL (spec chapter 07). -/
def DOORBELL_CQ_VALID (w c : Nat) : Fld := ⟨0x8000000 + 0x10000 * w + 0x8000 + 8 * c, 63, 63, .wo, .num 0, .any⟩
def DOORBELL_CQ_HEAD (w c : Nat) : Fld := ⟨0x8000000 + 0x10000 * w + 0x8000 + 8 * c, 47, 32, .wo, .num 0, .any⟩
def DOORBELL_SQ_VALID (w c : Nat) : Fld := ⟨0x8000000 + 0x10000 * w + 0x8000 + 8 * c, 31, 31, .wo, .num 0, .any⟩
def DOORBELL_SQ_TAIL (w c : Nat) : Fld := ⟨0x8000000 + 0x10000 * w + 0x8000 + 8 * c, 15, 0, .wo, .num 0, .any⟩
/-- The fields of DOORBELL. -/
def DOORBELL (w c : Nat) : List Fld := [DOORBELL_CQ_VALID w c, DOORBELL_CQ_HEAD w c, DOORBELL_SQ_VALID w c, DOORBELL_SQ_TAIL w c]

end Sys2Proof.Machine.Reg
end

