-- ==== Sys2Proof/Machine/RegsB.lean ====
section
/-! DEFINITION. The fields of the fabric, service and platform registers, one definition a field: offset,
bits, access type, reset value and stated range, transcribed from the register tables of spec/ (R7, R412, R428). -/

namespace Sys2Proof.Machine.Reg

/-! GLB_ID (spec chapter 22). -/
def GLB_ID_VENDOR : Fld := ⟨0x0, 63, 48, .ro, .num 0x0e3d, .any⟩
def GLB_ID_FAMILY : Fld := ⟨0x0, 47, 40, .ro, .num 0x01, .any⟩
def GLB_ID_PART : Fld := ⟨0x0, 39, 32, .ro, .dev (.part), .any⟩
def GLB_ID_STEP_MAJOR : Fld := ⟨0x0, 31, 28, .ro, .dev (.stepMajor), .any⟩
def GLB_ID_STEP_MINOR : Fld := ⟨0x0, 27, 24, .ro, .dev (.stepMinor), .any⟩
def GLB_ID_MAP_VERSION : Fld := ⟨0x0, 15, 0, .ro, .num 1, .any⟩
/-- The fields of GLB_ID. -/
def GLB_ID : List Fld := [GLB_ID_VENDOR, GLB_ID_FAMILY, GLB_ID_PART, GLB_ID_STEP_MAJOR, GLB_ID_STEP_MINOR, GLB_ID_MAP_VERSION]

/-! GLB_SERIAL (spec chapter 22). -/
def GLB_SERIAL_SERIAL : Fld := ⟨0x8, 63, 0, .ro, .dev (.serial), .any⟩
/-- The fields of GLB_SERIAL. -/
def GLB_SERIAL : List Fld := [GLB_SERIAL_SERIAL]

/-! GLB_MAC (spec chapter 22). -/
def GLB_MAC_MAC : Fld := ⟨0x10, 47, 0, .ro, .dev (.mac), .any⟩
/-- The fields of GLB_MAC. -/
def GLB_MAC : List Fld := [GLB_MAC_MAC]

/-! GLB_CAP0 (spec chapter 22). -/
def GLB_CAP0_PORTS : Fld := ⟨0x18, 55, 48, .ro, .dev (.ports), .any⟩
def GLB_CAP0_DDR5_CH : Fld := ⟨0x18, 47, 43, .ro, .dev (.ddr5Ch), .any⟩
def GLB_CAP0_IO_DIES : Fld := ⟨0x18, 42, 40, .ro, .dev (.ioDies), .any⟩
def GLB_CAP0_STACKS : Fld := ⟨0x18, 39, 35, .ro, .dev (.hbmStacks), .any⟩
def GLB_CAP0_HOT_SPARES : Fld := ⟨0x18, 34, 32, .ro, .dev (.hotSpares), .any⟩
def GLB_CAP0_IOD_SITES : Fld := ⟨0x18, 21, 16, .ro, .dev (.iodSites), .any⟩
def GLB_CAP0_HBM_SITES : Fld := ⟨0x18, 15, 0, .ro, .dev (.hbmSites), .any⟩
/-- The fields of GLB_CAP0. -/
def GLB_CAP0 : List Fld := [GLB_CAP0_PORTS, GLB_CAP0_DDR5_CH, GLB_CAP0_IO_DIES, GLB_CAP0_STACKS, GLB_CAP0_HOT_SPARES, GLB_CAP0_IOD_SITES, GLB_CAP0_HBM_SITES]

/-! GLB_CAP1 (spec chapter 22). -/
def GLB_CAP1_SUSTAINED_W : Fld := ⟨0x20, 63, 52, .ro, .dev (.sustainedW), .any⟩
def GLB_CAP1_PEAK_W : Fld := ⟨0x20, 51, 40, .ro, .dev (.peakW), .any⟩
def GLB_CAP1_RESERVE_DIV : Fld := ⟨0x20, 39, 34, .ro, .dev (.reserveDiv), .any⟩
def GLB_CAP1_MAX_DDR5_TB : Fld := ⟨0x20, 33, 30, .ro, .dev (.maxDdr5), .any⟩
def GLB_CAP1_HBM_RAW_GB : Fld := ⟨0x20, 27, 16, .ro, .dev (.hbmRaw), .any⟩
/-- The fields of GLB_CAP1. -/
def GLB_CAP1 : List Fld := [GLB_CAP1_SUSTAINED_W, GLB_CAP1_PEAK_W, GLB_CAP1_RESERVE_DIV, GLB_CAP1_MAX_DDR5_TB, GLB_CAP1_HBM_RAW_GB]

/-! GLB_CAP2 (spec chapter 22). -/
def GLB_CAP2_CHANNELS : Fld := ⟨0x28, 63, 48, .ro, .num 4096, .any⟩
def GLB_CAP2_CONTEXTS : Fld := ⟨0x28, 47, 32, .ro, .num 1024, .any⟩
def GLB_CAP2_GROUPS : Fld := ⟨0x28, 31, 22, .ro, .num 512, .any⟩
def GLB_CAP2_TENANTS : Fld := ⟨0x28, 21, 15, .ro, .num 64, .any⟩
def GLB_CAP2_ENGINES : Fld := ⟨0x28, 14, 6, .ro, .num 256, .any⟩
/-- The fields of GLB_CAP2. -/
def GLB_CAP2 : List Fld := [GLB_CAP2_CHANNELS, GLB_CAP2_CONTEXTS, GLB_CAP2_GROUPS, GLB_CAP2_TENANTS, GLB_CAP2_ENGINES]

/-! GLB_CAP3 (spec chapter 22). -/
def GLB_CAP3_PAIR_TAGS : Fld := ⟨0x30, 63, 48, .ro, .num 4096, .any⟩
def GLB_CAP3_SEQ_CONTEXTS : Fld := ⟨0x30, 47, 32, .ro, .num 16384, .any⟩
def GLB_CAP3_ENGINE_TAGS : Fld := ⟨0x30, 31, 16, .ro, .num 512, .any⟩
def GLB_CAP3_FORMATS : Fld := ⟨0x30, 9, 0, .ro, .num 0x3ff, .any⟩
/-- The fields of GLB_CAP3. -/
def GLB_CAP3 : List Fld := [GLB_CAP3_PAIR_TAGS, GLB_CAP3_SEQ_CONTEXTS, GLB_CAP3_ENGINE_TAGS, GLB_CAP3_FORMATS]

/-! GLB_STRAP (spec chapter 22). -/
def GLB_STRAP_TRAY_POS : Fld := ⟨0x38, 15, 10, .ro, .dev (.trayPos), .any⟩
def GLB_STRAP_SMB_ADDR : Fld := ⟨0x38, 6, 0, .ro, .dev (.smbAddr), .any⟩
/-- The fields of GLB_STRAP. -/
def GLB_STRAP : List Fld := [GLB_STRAP_TRAY_POS, GLB_STRAP_SMB_ADDR]

/-! GLB_WHOAMI (spec chapter 22). -/
def GLB_WHOAMI_PRIV : Fld := ⟨0x40, 1, 0, .ro, .num 0, .any⟩
/-- The fields of GLB_WHOAMI. -/
def GLB_WHOAMI : List Fld := [GLB_WHOAMI_PRIV]

/-! GLB_ADMIN_HASH (spec chapter 22). -/
def GLB_ADMIN_HASH_HASH (n : Nat) : Fld := ⟨0x48 + 8 * n, 63, 0, .rws, .num 0, .any⟩
/-- The fields of GLB_ADMIN_HASH. -/
def GLB_ADMIN_HASH (n : Nat) : List Fld := [GLB_ADMIN_HASH_HASH n]

/-! GLB_ADMIN_CTL (spec chapter 22). -/
def GLB_ADMIN_CTL_LOCK : Fld := ⟨0x68, 0, 0, .rws, .num 0, .any⟩
/-- The fields of GLB_ADMIN_CTL. -/
def GLB_ADMIN_CTL : List Fld := [GLB_ADMIN_CTL_LOCK]

/-! GLB_AUTH_NONCE (spec chapter 22). -/
def GLB_AUTH_NONCE_NONCE (n : Nat) : Fld := ⟨0x70 + 8 * n, 63, 0, .ro, .num 0, .any⟩
/-- The fields of GLB_AUTH_NONCE. -/
def GLB_AUTH_NONCE (n : Nat) : List Fld := [GLB_AUTH_NONCE_NONCE n]

/-! GLB_AUTH_KEY (spec chapter 22). -/
def GLB_AUTH_KEY_KEY (n : Nat) : Fld := ⟨0x90 + 8 * n, 63, 0, .rw, .num 0, .any⟩
/-- The fields of GLB_AUTH_KEY. -/
def GLB_AUTH_KEY (n : Nat) : List Fld := [GLB_AUTH_KEY_KEY n]

/-! GLB_AUTH_SIG (spec chapter 22). -/
def GLB_AUTH_SIG_SIG (n : Nat) : Fld := ⟨0xd0 + 8 * n, 63, 0, .rw, .num 0, .any⟩
/-- The fields of GLB_AUTH_SIG. -/
def GLB_AUTH_SIG (n : Nat) : List Fld := [GLB_AUTH_SIG_SIG n]

/-! GLB_AUTH_CTL (spec chapter 22). -/
def GLB_AUTH_CTL_STATUS : Fld := ⟨0x110, 55, 48, .ro, .num 0x00, .any⟩
def GLB_AUTH_CTL_ADMIN : Fld := ⟨0x110, 1, 1, .ro, .num 0, .any⟩
def GLB_AUTH_CTL_PROVE : Fld := ⟨0x110, 0, 0, .wo, .num 0, .any⟩
/-- The fields of GLB_AUTH_CTL. -/
def GLB_AUTH_CTL : List Fld := [GLB_AUTH_CTL_STATUS, GLB_AUTH_CTL_ADMIN, GLB_AUTH_CTL_PROVE]

/-! CLK_CTL (spec chapter 20). -/
def CLK_CTL_MGMT_DIV_NEXT : Fld := ⟨0x10000, 11, 10, .rws, .num 0, .between 0 1⟩
def CLK_CTL_NOC_DIV_NEXT : Fld := ⟨0x10000, 9, 8, .rws, .num 0, .between 0 1⟩
def CLK_CTL_ENG_DIV_NEXT : Fld := ⟨0x10000, 5, 4, .rws, .num 0, .any⟩
def CLK_CTL_REVERT : Fld := ⟨0x10000, 1, 1, .rws, .num 0, .any⟩
def CLK_CTL_PREF : Fld := ⟨0x10000, 0, 0, .rws, .num 0, .any⟩
/-- The fields of CLK_CTL. -/
def CLK_CTL : List Fld := [CLK_CTL_MGMT_DIV_NEXT, CLK_CTL_NOC_DIV_NEXT, CLK_CTL_ENG_DIV_NEXT, CLK_CTL_REVERT, CLK_CTL_PREF]

/-! CLK_STATUS (spec chapter 20). -/
def CLK_STATUS_MGMT_DIV : Fld := ⟨0x10008, 13, 12, .ro, .num 0, .any⟩
def CLK_STATUS_NOC_DIV : Fld := ⟨0x10008, 11, 10, .ro, .num 0, .any⟩
def CLK_STATUS_ENG_DIV : Fld := ⟨0x10008, 9, 8, .ro, .num 0, .any⟩
def CLK_STATUS_RACK_VALID : Fld := ⟨0x10008, 4, 4, .ro, .num 0, .any⟩
def CLK_STATUS_ACTIVE : Fld := ⟨0x10008, 3, 3, .ro, .num 0, .any⟩
def CLK_STATUS_B_GOOD : Fld := ⟨0x10008, 2, 2, .ro, .num 0, .any⟩
def CLK_STATUS_A_GOOD : Fld := ⟨0x10008, 1, 1, .ro, .num 0, .any⟩
def CLK_STATUS_ROOT_LOCK : Fld := ⟨0x10008, 0, 0, .ro, .num 0, .any⟩
/-- The fields of CLK_STATUS. -/
def CLK_STATUS : List Fld := [CLK_STATUS_MGMT_DIV, CLK_STATUS_NOC_DIV, CLK_STATUS_ENG_DIV, CLK_STATUS_RACK_VALID, CLK_STATUS_ACTIVE, CLK_STATUS_B_GOOD, CLK_STATUS_A_GOOD, CLK_STATUS_ROOT_LOCK]

/-! CLK_RACK (spec chapter 20). -/
def CLK_RACK_TIME : Fld := ⟨0x10010, 63, 0, .ro, .num 0, .any⟩
/-- The fields of CLK_RACK. -/
def CLK_RACK : List Fld := [CLK_RACK_TIME]

/-! CLK_TREF (spec chapter 20). -/
def CLK_TREF_CODE_ERR (n : Nat) : Fld := ⟨0x10018 + 8 * n, 63, 48, .rc, .num 0, .any⟩
def CLK_TREF_LOSS (n : Nat) : Fld := ⟨0x10018 + 8 * n, 47, 32, .rc, .num 0, .any⟩
def CLK_TREF_MISMATCH (n : Nat) : Fld := ⟨0x10018 + 8 * n, 31, 16, .rc, .num 0, .any⟩
def CLK_TREF_DELAY_NS (n : Nat) : Fld := ⟨0x10018 + 8 * n, 11, 0, .rws, .num 0, .any⟩
/-- The fields of CLK_TREF. -/
def CLK_TREF (n : Nat) : List Fld := [CLK_TREF_CODE_ERR n, CLK_TREF_LOSS n, CLK_TREF_MISMATCH n, CLK_TREF_DELAY_NS n]

/-! CLK_EVENT (spec chapter 20). -/
def CLK_EVENT_DIV_DONE : Fld := ⟨0x10028, 7, 7, .w1c, .num 0, .any⟩
def CLK_EVENT_SKEW : Fld := ⟨0x10028, 6, 6, .w1c, .num 0, .any⟩
def CLK_EVENT_SLEW : Fld := ⟨0x10028, 5, 5, .w1c, .num 0, .any⟩
def CLK_EVENT_STEP : Fld := ⟨0x10028, 4, 4, .w1c, .num 0, .any⟩
def CLK_EVENT_BOTH_LOST : Fld := ⟨0x10028, 3, 3, .w1c, .num 0, .any⟩
def CLK_EVENT_SWITCHED : Fld := ⟨0x10028, 2, 2, .w1c, .num 0, .any⟩
def CLK_EVENT_B_LOST : Fld := ⟨0x10028, 1, 1, .w1c, .num 0, .any⟩
def CLK_EVENT_A_LOST : Fld := ⟨0x10028, 0, 0, .w1c, .num 0, .any⟩
/-- The fields of CLK_EVENT. -/
def CLK_EVENT : List Fld := [CLK_EVENT_DIV_DONE, CLK_EVENT_SKEW, CLK_EVENT_SLEW, CLK_EVENT_STEP, CLK_EVENT_BOTH_LOST, CLK_EVENT_SWITCHED, CLK_EVENT_B_LOST, CLK_EVENT_A_LOST]

/-! CLK_CMD (spec chapter 20). -/
def CLK_CMD_STATUS : Fld := ⟨0x10030, 55, 48, .ro, .num 0x00, .any⟩
def CLK_CMD_DETAIL : Fld := ⟨0x10030, 43, 40, .ro, .num 0, .any⟩
def CLK_CMD_BUSY : Fld := ⟨0x10030, 8, 8, .ro, .num 0, .any⟩
def CLK_CMD_OPCODE : Fld := ⟨0x10030, 3, 0, .wo, .num 0, .any⟩
/-- The fields of CLK_CMD. -/
def CLK_CMD : List Fld := [CLK_CMD_STATUS, CLK_CMD_DETAIL, CLK_CMD_BUSY, CLK_CMD_OPCODE]

/-! CLK_GATE (spec chapter 20). -/
def CLK_GATE_MGMT_DEEP : Fld := ⟨0x10038, 11, 11, .ro, .num 1, .any⟩
def CLK_GATE_MGMT_SLEEP : Fld := ⟨0x10038, 10, 10, .rws, .num 1, .any⟩
def CLK_GATE_MGMT_RUN : Fld := ⟨0x10038, 9, 9, .ro, .num 1, .any⟩
def CLK_GATE_SWITCH_DEEP : Fld := ⟨0x10038, 8, 8, .ro, .num 0, .any⟩
def CLK_GATE_SWITCH_SLEEP : Fld := ⟨0x10038, 7, 7, .rws, .num 0, .any⟩
def CLK_GATE_SWITCH_RUN : Fld := ⟨0x10038, 6, 6, .ro, .num 1, .any⟩
def CLK_GATE_NOC_DEEP : Fld := ⟨0x10038, 5, 5, .ro, .num 0, .any⟩
def CLK_GATE_NOC_SLEEP : Fld := ⟨0x10038, 4, 4, .ro, .num 1, .any⟩
def CLK_GATE_NOC_RUN : Fld := ⟨0x10038, 3, 3, .ro, .num 1, .any⟩
def CLK_GATE_ENG_DEEP : Fld := ⟨0x10038, 2, 2, .ro, .num 0, .any⟩
def CLK_GATE_ENG_SLEEP : Fld := ⟨0x10038, 1, 1, .ro, .num 0, .any⟩
def CLK_GATE_ENG_RUN : Fld := ⟨0x10038, 0, 0, .ro, .num 1, .any⟩
/-- The fields of CLK_GATE. -/
def CLK_GATE : List Fld := [CLK_GATE_MGMT_DEEP, CLK_GATE_MGMT_SLEEP, CLK_GATE_MGMT_RUN, CLK_GATE_SWITCH_DEEP, CLK_GATE_SWITCH_SLEEP, CLK_GATE_SWITCH_RUN, CLK_GATE_NOC_DEEP, CLK_GATE_NOC_SLEEP, CLK_GATE_NOC_RUN, CLK_GATE_ENG_DEEP, CLK_GATE_ENG_SLEEP, CLK_GATE_ENG_RUN]

/-! PWR_STATE (spec chapter 20). -/
def PWR_STATE_LAST_WAKE : Fld := ⟨0x20000, 11, 8, .ro, .num 0, .any⟩
def PWR_STATE_STATE : Fld := ⟨0x20000, 2, 0, .ro, .num 0, .any⟩
/-- The fields of PWR_STATE. -/
def PWR_STATE : List Fld := [PWR_STATE_LAST_WAKE, PWR_STATE_STATE]

/-! PWR_CMD (spec chapter 20). -/
def PWR_CMD_STATUS : Fld := ⟨0x20008, 55, 48, .ro, .num 0x00, .any⟩
def PWR_CMD_DETAIL : Fld := ⟨0x20008, 43, 40, .ro, .num 0, .any⟩
def PWR_CMD_BUSY : Fld := ⟨0x20008, 8, 8, .ro, .num 0, .any⟩
def PWR_CMD_OPCODE : Fld := ⟨0x20008, 3, 0, .wo, .num 0, .any⟩
/-- The fields of PWR_CMD. -/
def PWR_CMD : List Fld := [PWR_CMD_STATUS, PWR_CMD_DETAIL, PWR_CMD_BUSY, PWR_CMD_OPCODE]

/-! PWR_WAKE_EN (spec chapter 20). -/
def PWR_WAKE_EN_TIMER : Fld := ⟨0x20010, 4, 4, .rw, .num 0, .any⟩
def PWR_WAKE_EN_SIDEBAND : Fld := ⟨0x20010, 3, 3, .rw, .num 1, .any⟩
def PWR_WAKE_EN_LOCAL : Fld := ⟨0x20010, 2, 2, .rw, .num 1, .any⟩
def PWR_WAKE_EN_LANE : Fld := ⟨0x20010, 1, 1, .rw, .num 1, .any⟩
/-- The fields of PWR_WAKE_EN. -/
def PWR_WAKE_EN : List Fld := [PWR_WAKE_EN_TIMER, PWR_WAKE_EN_SIDEBAND, PWR_WAKE_EN_LOCAL, PWR_WAKE_EN_LANE]

/-! PWR_WAKE_TIME (spec chapter 20). -/
def PWR_WAKE_TIME_TIME : Fld := ⟨0x20018, 63, 0, .rw, .num 0, .any⟩
/-- The fields of PWR_WAKE_TIME. -/
def PWR_WAKE_TIME : List Fld := [PWR_WAKE_TIME_TIME]

/-! PWR_UNIT (spec chapter 20). -/
def PWR_UNIT_DDR5 : Fld := ⟨0x20020, 47, 24, .ro, .num 0, .any⟩
def PWR_UNIT_MGMT : Fld := ⟨0x20020, 22, 22, .ro, .num 0, .any⟩
def PWR_UNIT_IODIE : Fld := ⟨0x20020, 21, 16, .ro, .num 0, .any⟩
def PWR_UNIT_HBM : Fld := ⟨0x20020, 15, 0, .ro, .num 0, .any⟩
/-- The fields of PWR_UNIT. -/
def PWR_UNIT : List Fld := [PWR_UNIT_DDR5, PWR_UNIT_MGMT, PWR_UNIT_IODIE, PWR_UNIT_HBM]

/-! PWR_EVENT (spec chapter 20). -/
def PWR_EVENT_ENTRY_CANCELLED : Fld := ⟨0x20028, 3, 3, .w1c, .num 0, .any⟩
def PWR_EVENT_WOKE : Fld := ⟨0x20028, 2, 2, .w1c, .num 0, .any⟩
def PWR_EVENT_DEEP : Fld := ⟨0x20028, 1, 1, .w1c, .num 0, .any⟩
def PWR_EVENT_SLEEP : Fld := ⟨0x20028, 0, 0, .w1c, .num 0, .any⟩
/-- The fields of PWR_EVENT. -/
def PWR_EVENT : List Fld := [PWR_EVENT_ENTRY_CANCELLED, PWR_EVENT_WOKE, PWR_EVENT_DEEP, PWR_EVENT_SLEEP]

/-! PWR_CFG (spec chapter 20). -/
def PWR_CFG_QUIET_US : Fld := ⟨0x20030, 15, 0, .rw, .num 10, .between 1 65535⟩
/-- The fields of PWR_CFG. -/
def PWR_CFG : List Fld := [PWR_CFG_QUIET_US]

/-! RST_STATUS (spec chapter 20). -/
def RST_STATUS_WARM_COUNT : Fld := ⟨0x30000, 63, 48, .ro, .num 0, .any⟩
def RST_STATUS_LAST_KIND : Fld := ⟨0x30000, 15, 8, .ro, .num 0x01, .any⟩
def RST_STATUS_PHASE : Fld := ⟨0x30000, 3, 0, .ro, .num 0, .any⟩
/-- The fields of RST_STATUS. -/
def RST_STATUS : List Fld := [RST_STATUS_WARM_COUNT, RST_STATUS_LAST_KIND, RST_STATUS_PHASE]

/-! RST_CMD (spec chapter 20). -/
def RST_CMD_WARM : Fld := ⟨0x30008, 0, 0, .wo, .num 0, .any⟩
/-- The fields of RST_CMD. -/
def RST_CMD : List Fld := [RST_CMD_WARM]

/-! RST_TIME (spec chapter 20). -/
def RST_TIME_READY : Fld := ⟨0x30010, 63, 0, .ro, .num 0, .any⟩
/-- The fields of RST_TIME. -/
def RST_TIME : List Fld := [RST_TIME_READY]

/-! FAB_CFG (spec chapter 14). -/
def FAB_CFG_INCARN : Fld := ⟨0x800000, 63, 48, .rw, .num 0, .any⟩
def FAB_CFG_SELF_AGENT : Fld := ⟨0x800000, 43, 32, .rw, .num 0, .any⟩
def FAB_CFG_HOP_LIMIT : Fld := ⟨0x800000, 28, 24, .rw, .num 8, .between 2 31⟩
def FAB_CFG_PUSH_HOLD : Fld := ⟨0x800000, 2, 2, .rw, .num 0, .any⟩
def FAB_CFG_TX_EPOCH : Fld := ⟨0x800000, 1, 1, .rw, .num 0, .any⟩
def FAB_CFG_ENABLE : Fld := ⟨0x800000, 0, 0, .rw, .num 0, .any⟩
/-- The fields of FAB_CFG. -/
def FAB_CFG : List Fld := [FAB_CFG_INCARN, FAB_CFG_SELF_AGENT, FAB_CFG_HOP_LIMIT, FAB_CFG_PUSH_HOLD, FAB_CFG_TX_EPOCH, FAB_CFG_ENABLE]

/-! FAB_TIMERS (spec chapter 14). -/
def FAB_TIMERS_REORDER_US : Fld := ⟨0x800008, 63, 48, .rw, .num 50, .between 2 10000⟩
def FAB_TIMERS_ROUTE_WAIT_US : Fld := ⟨0x800008, 47, 32, .rw, .num 10, .between 1 10000⟩
def FAB_TIMERS_RETRY_MAX : Fld := ⟨0x800008, 19, 16, .rw, .num 3, .any⟩
def FAB_TIMERS_RETRY_US : Fld := ⟨0x800008, 15, 0, .rw, .num 10, .between 1 1000⟩
/-- The fields of FAB_TIMERS. -/
def FAB_TIMERS : List Fld := [FAB_TIMERS_REORDER_US, FAB_TIMERS_ROUTE_WAIT_US, FAB_TIMERS_RETRY_MAX, FAB_TIMERS_RETRY_US]

/-! FAB_EPOCH (spec chapter 14). -/
def FAB_EPOCH_ENTERED (n : Nat) : Fld := ⟨0x800010 + 8 * n, 63, 32, .ro, .num 0, .any⟩
def FAB_EPOCH_COUNT (n : Nat) : Fld := ⟨0x800010 + 8 * n, 23, 0, .ro, .num 0, .any⟩
/-- The fields of FAB_EPOCH. -/
def FAB_EPOCH (n : Nat) : List Fld := [FAB_EPOCH_ENTERED n, FAB_EPOCH_COUNT n]

/-! FAB_PUSH (spec chapter 14). -/
def FAB_PUSH_COUNT : Fld := ⟨0x800020, 23, 0, .ro, .num 0, .any⟩
/-- The fields of FAB_PUSH. -/
def FAB_PUSH : List Fld := [FAB_PUSH_COUNT]

/-! FAB_SPARE0 (spec chapter 14). -/
def FAB_SPARE0_SPARE : Fld := ⟨0x800028, 63, 0, .rw, .dev (.spare0), .any⟩
/-- The fields of FAB_SPARE0. -/
def FAB_SPARE0 : List Fld := [FAB_SPARE0_SPARE]

/-! FAB_SPARE1 (spec chapter 14). -/
def FAB_SPARE1_SPARE : Fld := ⟨0x800030, 7, 0, .rw, .dev (.spare1), .any⟩
/-- The fields of FAB_SPARE1. -/
def FAB_SPARE1 : List Fld := [FAB_SPARE1_SPARE]

/-! FAB_EVENT (spec chapter 14). -/
def FAB_EVENT_SRC_RESTART : Fld := ⟨0x800038, 4, 4, .w1c, .num 0, .any⟩
def FAB_EVENT_GRP_TIMEOUT : Fld := ⟨0x800038, 3, 3, .w1c, .num 0, .any⟩
def FAB_EVENT_REORDER_SKIP : Fld := ⟨0x800038, 2, 2, .w1c, .num 0, .any⟩
def FAB_EVENT_NO_ROUTE : Fld := ⟨0x800038, 1, 1, .w1c, .num 0, .any⟩
def FAB_EVENT_DOUBT_SENT : Fld := ⟨0x800038, 0, 0, .w1c, .num 0, .any⟩
/-- The fields of FAB_EVENT. -/
def FAB_EVENT : List Fld := [FAB_EVENT_SRC_RESTART, FAB_EVENT_GRP_TIMEOUT, FAB_EVENT_REORDER_SKIP, FAB_EVENT_NO_ROUTE, FAB_EVENT_DOUBT_SENT]

/-! FAB_CNT0 (spec chapter 14). -/
def FAB_CNT0_HDR_BAD : Fld := ⟨0x800040, 63, 48, .rc, .num 0, .any⟩
def FAB_CNT0_HOP_DROP : Fld := ⟨0x800040, 47, 32, .rc, .num 0, .any⟩
def FAB_CNT0_NO_ROUTE : Fld := ⟨0x800040, 31, 16, .rc, .num 0, .any⟩
def FAB_CNT0_DUPLICATES : Fld := ⟨0x800040, 15, 0, .rc, .num 0, .any⟩
/-- The fields of FAB_CNT0. -/
def FAB_CNT0 : List Fld := [FAB_CNT0_HDR_BAD, FAB_CNT0_HOP_DROP, FAB_CNT0_NO_ROUTE, FAB_CNT0_DUPLICATES]

/-! FAB_CNT1 (spec chapter 14). -/
def FAB_CNT1_CONTRIB_REFUSED : Fld := ⟨0x800048, 63, 48, .rc, .num 0, .any⟩
def FAB_CNT1_CONTRIB_POISONED : Fld := ⟨0x800048, 47, 32, .rc, .num 0, .any⟩
def FAB_CNT1_CONTRIB_DUP : Fld := ⟨0x800048, 31, 16, .rc, .num 0, .any⟩
def FAB_CNT1_CHUNK_TIMEOUTS : Fld := ⟨0x800048, 15, 0, .rc, .num 0, .any⟩
/-- The fields of FAB_CNT1. -/
def FAB_CNT1 : List Fld := [FAB_CNT1_CONTRIB_REFUSED, FAB_CNT1_CONTRIB_POISONED, FAB_CNT1_CONTRIB_DUP, FAB_CNT1_CHUNK_TIMEOUTS]

/-! FAB_RT_SEL (spec chapter 14). -/
def FAB_RT_SEL_STATUS : Fld := ⟨0x800050, 55, 48, .ro, .num 0x00, .any⟩
def FAB_RT_SEL_TABLE : Fld := ⟨0x800050, 17, 16, .rw, .num 0, .between 0 2⟩
def FAB_RT_SEL_AGENT : Fld := ⟨0x800050, 11, 0, .rw, .num 0, .any⟩
/-- The fields of FAB_RT_SEL. -/
def FAB_RT_SEL : List Fld := [FAB_RT_SEL_STATUS, FAB_RT_SEL_TABLE, FAB_RT_SEL_AGENT]

/-! FAB_RT_DATA (spec chapter 14). -/
def FAB_RT_DATA_ENTRY : Fld := ⟨0x800058, 63, 0, .rw, .num 0, .any⟩
/-- The fields of FAB_RT_DATA. -/
def FAB_RT_DATA : List Fld := [FAB_RT_DATA_ENTRY]

/-! FAB_GRP_CMD (spec chapter 14). -/
def FAB_GRP_CMD_STATUS : Fld := ⟨0x800060, 55, 48, .ro, .num 0x00, .any⟩
def FAB_GRP_CMD_GROUP : Fld := ⟨0x800060, 24, 16, .rw, .num 0, .any⟩
def FAB_GRP_CMD_BUSY : Fld := ⟨0x800060, 8, 8, .ro, .num 0, .any⟩
def FAB_GRP_CMD_OPCODE : Fld := ⟨0x800060, 3, 0, .wo, .num 0, .any⟩
/-- The fields of FAB_GRP_CMD. -/
def FAB_GRP_CMD : List Fld := [FAB_GRP_CMD_STATUS, FAB_GRP_CMD_GROUP, FAB_GRP_CMD_BUSY, FAB_GRP_CMD_OPCODE]

/-! FAB_GRP (spec chapter 14). -/
def FAB_GRP_DATA (n : Nat) : Fld := ⟨0x800068 + 8 * n, 63, 0, .rw, .num 0, .any⟩
/-- The fields of FAB_GRP. -/
def FAB_GRP (n : Nat) : List Fld := [FAB_GRP_DATA n]

/-! FAB_FLT_SEL (spec chapter 14). -/
def FAB_FLT_SEL_RULE : Fld := ⟨0x8000a8, 5, 0, .rw, .num 0, .any⟩
/-- The fields of FAB_FLT_SEL. -/
def FAB_FLT_SEL : List Fld := [FAB_FLT_SEL_RULE]

/-! FAB_FLT_CTL (spec chapter 14). -/
def FAB_FLT_CTL_OFFSET (r : Nat) : Fld := ⟨0x200800000 + 0x20 * r + 0, 8, 6, .rw, .num 0, .any⟩
def FAB_FLT_CTL_CMP (r : Nat) : Fld := ⟨0x200800000 + 0x20 * r + 0, 5, 3, .rw, .num 0, .between 0 3⟩
def FAB_FLT_CTL_ACTION (r : Nat) : Fld := ⟨0x200800000 + 0x20 * r + 0, 2, 1, .rw, .num 0, .between 0 1⟩
def FAB_FLT_CTL_ENABLE (r : Nat) : Fld := ⟨0x200800000 + 0x20 * r + 0, 0, 0, .rw, .num 0, .any⟩
/-- The fields of FAB_FLT_CTL. -/
def FAB_FLT_CTL (r : Nat) : List Fld := [FAB_FLT_CTL_OFFSET r, FAB_FLT_CTL_CMP r, FAB_FLT_CTL_ACTION r, FAB_FLT_CTL_ENABLE r]

/-! FAB_FLT_MASK (spec chapter 14). -/
def FAB_FLT_MASK_MASK (r : Nat) : Fld := ⟨0x200800000 + 0x20 * r + 8, 63, 0, .rw, .num 0, .any⟩
/-- The fields of FAB_FLT_MASK. -/
def FAB_FLT_MASK (r : Nat) : List Fld := [FAB_FLT_MASK_MASK r]

/-! FAB_FLT_VALUE (spec chapter 14). -/
def FAB_FLT_VALUE_VALUE (r : Nat) : Fld := ⟨0x200800000 + 0x20 * r + 16, 63, 0, .rw, .num 0, .any⟩
/-- The fields of FAB_FLT_VALUE. -/
def FAB_FLT_VALUE (r : Nat) : List Fld := [FAB_FLT_VALUE_VALUE r]

/-! FAB_FLT_HITS (spec chapter 14). -/
def FAB_FLT_HITS_HITS (r : Nat) : Fld := ⟨0x200800000 + 0x20 * r + 24, 63, 0, .rc, .num 0, .any⟩
/-- The fields of FAB_FLT_HITS. -/
def FAB_FLT_HITS (r : Nat) : List Fld := [FAB_FLT_HITS_HITS r]

/-! LNK_CTL (spec chapter 13). -/
def LNK_CTL_LANE_MASK (p : Nat) : Fld := ⟨0x900000 + 0x400 * p + 0, 39, 36, .rw, .num 0xf, .any⟩
def LNK_CTL_MIN_WIDTH (p : Nat) : Fld := ⟨0x900000 + 0x400 * p + 0, 33, 32, .rw, .num 1, .between 0 2⟩
def LNK_CTL_SPEED (p : Nat) : Fld := ⟨0x900000 + 0x400 * p + 0, 29, 28, .rw, .num 0, .between 0 1⟩
def LNK_CTL_SLEEP_EN (p : Nat) : Fld := ⟨0x900000 + 0x400 * p + 0, 3, 3, .rw, .num 1, .any⟩
def LNK_CTL_AUTO_RETRAIN (p : Nat) : Fld := ⟨0x900000 + 0x400 * p + 0, 2, 2, .rw, .num 1, .any⟩
def LNK_CTL_ENABLE (p : Nat) : Fld := ⟨0x900000 + 0x400 * p + 0, 0, 0, .rw, .num 0, .any⟩
/-- The fields of LNK_CTL. -/
def LNK_CTL (p : Nat) : List Fld := [LNK_CTL_LANE_MASK p, LNK_CTL_MIN_WIDTH p, LNK_CTL_SPEED p, LNK_CTL_SLEEP_EN p, LNK_CTL_AUTO_RETRAIN p, LNK_CTL_ENABLE p]

/-! LNK_STATUS (spec chapter 13). -/
def LNK_STATUS_LANES_UP (p : Nat) : Fld := ⟨0x900000 + 0x400 * p + 8, 39, 36, .ro, .num 0, .any⟩
def LNK_STATUS_WIDTH (p : Nat) : Fld := ⟨0x900000 + 0x400 * p + 8, 33, 32, .ro, .num 0, .any⟩
def LNK_STATUS_SPEED_NOW (p : Nat) : Fld := ⟨0x900000 + 0x400 * p + 8, 29, 28, .ro, .num 0, .any⟩
def LNK_STATUS_STATE (p : Nat) : Fld := ⟨0x900000 + 0x400 * p + 8, 3, 0, .ro, .num 0, .any⟩
/-- The fields of LNK_STATUS. -/
def LNK_STATUS (p : Nat) : List Fld := [LNK_STATUS_LANES_UP p, LNK_STATUS_WIDTH p, LNK_STATUS_SPEED_NOW p, LNK_STATUS_STATE p]

/-! LNK_TIMERS (spec chapter 13). -/
def LNK_TIMERS_REPLAY_TMO_100NS (p : Nat) : Fld := ⟨0x900000 + 0x400 * p + 16, 63, 48, .rw, .num 30, .between 10 1000⟩
def LNK_TIMERS_ACK_TMO_10NS (p : Nat) : Fld := ⟨0x900000 + 0x400 * p + 16, 47, 32, .rw, .num 50, .between 5 100⟩
def LNK_TIMERS_ACK_COUNT (p : Nat) : Fld := ⟨0x900000 + 0x400 * p + 16, 31, 24, .rw, .num 32, .between 1 128⟩
def LNK_TIMERS_DOWN_SHORT (p : Nat) : Fld := ⟨0x900000 + 0x400 * p + 16, 23, 16, .rw, .num 16, .between 1 255⟩
def LNK_TIMERS_DOWN_LONG (p : Nat) : Fld := ⟨0x900000 + 0x400 * p + 16, 15, 0, .rw, .num 1000, .between 1 65535⟩
/-- The fields of LNK_TIMERS. -/
def LNK_TIMERS (p : Nat) : List Fld := [LNK_TIMERS_REPLAY_TMO_100NS p, LNK_TIMERS_ACK_TMO_10NS p, LNK_TIMERS_ACK_COUNT p, LNK_TIMERS_DOWN_SHORT p, LNK_TIMERS_DOWN_LONG p]

/-! LNK_CREDIT (spec chapter 13). -/
def LNK_CREDIT_VC3 (p : Nat) : Fld := ⟨0x900000 + 0x400 * p + 24, 47, 36, .rw, .num 512, .any⟩
def LNK_CREDIT_VC2 (p : Nat) : Fld := ⟨0x900000 + 0x400 * p + 24, 35, 24, .rw, .num 256, .any⟩
def LNK_CREDIT_VC1 (p : Nat) : Fld := ⟨0x900000 + 0x400 * p + 24, 23, 12, .rw, .num 512, .any⟩
def LNK_CREDIT_VC0 (p : Nat) : Fld := ⟨0x900000 + 0x400 * p + 24, 11, 0, .rw, .num 256, .any⟩
/-- The fields of LNK_CREDIT. -/
def LNK_CREDIT (p : Nat) : List Fld := [LNK_CREDIT_VC3 p, LNK_CREDIT_VC2 p, LNK_CREDIT_VC1 p, LNK_CREDIT_VC0 p]

/-! LNK_TXSTATE (spec chapter 13). -/
def LNK_TXSTATE_NEXT_SEQ (p : Nat) : Fld := ⟨0x900000 + 0x400 * p + 32, 59, 48, .ro, .num 0, .any⟩
def LNK_TXSTATE_ACKED (p : Nat) : Fld := ⟨0x900000 + 0x400 * p + 32, 43, 32, .ro, .num 0, .any⟩
def LNK_TXSTATE_OUTSTANDING (p : Nat) : Fld := ⟨0x900000 + 0x400 * p + 32, 11, 0, .ro, .num 0, .any⟩
/-- The fields of LNK_TXSTATE. -/
def LNK_TXSTATE (p : Nat) : List Fld := [LNK_TXSTATE_NEXT_SEQ p, LNK_TXSTATE_ACKED p, LNK_TXSTATE_OUTSTANDING p]

/-! LNK_RXSTATE (spec chapter 13). -/
def LNK_RXSTATE_EXP (p : Nat) : Fld := ⟨0x900000 + 0x400 * p + 40, 43, 32, .ro, .num 0, .any⟩
def LNK_RXSTATE_PUB_V (p : Nat) : Fld := ⟨0x900000 + 0x400 * p + 40, 12, 12, .ro, .num 0, .any⟩
def LNK_RXSTATE_PUBLISHED (p : Nat) : Fld := ⟨0x900000 + 0x400 * p + 40, 11, 0, .ro, .num 0, .any⟩
/-- The fields of LNK_RXSTATE. -/
def LNK_RXSTATE (p : Nat) : List Fld := [LNK_RXSTATE_EXP p, LNK_RXSTATE_PUB_V p, LNK_RXSTATE_PUBLISHED p]

/-! LNK_TXCRED (spec chapter 13). -/
def LNK_TXCRED_MRSP (p : Nat) : Fld := ⟨0x900000 + 0x400 * p + 48, 63, 58, .ro, .num 0, .any⟩
def LNK_TXCRED_MREQ (p : Nat) : Fld := ⟨0x900000 + 0x400 * p + 48, 57, 52, .ro, .num 0, .any⟩
def LNK_TXCRED_VC3 (p : Nat) : Fld := ⟨0x900000 + 0x400 * p + 48, 47, 36, .ro, .num 0, .any⟩
def LNK_TXCRED_VC2 (p : Nat) : Fld := ⟨0x900000 + 0x400 * p + 48, 35, 24, .ro, .num 0, .any⟩
def LNK_TXCRED_VC1 (p : Nat) : Fld := ⟨0x900000 + 0x400 * p + 48, 23, 12, .ro, .num 0, .any⟩
def LNK_TXCRED_VC0 (p : Nat) : Fld := ⟨0x900000 + 0x400 * p + 48, 11, 0, .ro, .num 0, .any⟩
/-- The fields of LNK_TXCRED. -/
def LNK_TXCRED (p : Nat) : List Fld := [LNK_TXCRED_MRSP p, LNK_TXCRED_MREQ p, LNK_TXCRED_VC3 p, LNK_TXCRED_VC2 p, LNK_TXCRED_VC1 p, LNK_TXCRED_VC0 p]

/-! LNK_CNT0 (spec chapter 13). -/
def LNK_CNT0_BAD (p : Nat) : Fld := ⟨0x900000 + 0x400 * p + 56, 63, 32, .rc, .num 0, .any⟩
def LNK_CNT0_REPLAYS (p : Nat) : Fld := ⟨0x900000 + 0x400 * p + 56, 31, 0, .rc, .num 0, .any⟩
/-- The fields of LNK_CNT0. -/
def LNK_CNT0 (p : Nat) : List Fld := [LNK_CNT0_BAD p, LNK_CNT0_REPLAYS p]

/-! LNK_CNT1 (spec chapter 13). -/
def LNK_CNT1_FEC_CORR (p : Nat) : Fld := ⟨0x900000 + 0x400 * p + 64, 63, 32, .rc, .num 0, .any⟩
def LNK_CNT1_FEC_UNCORR (p : Nat) : Fld := ⟨0x900000 + 0x400 * p + 64, 31, 16, .rc, .num 0, .any⟩
def LNK_CNT1_LINK_DOWNS (p : Nat) : Fld := ⟨0x900000 + 0x400 * p + 64, 15, 0, .rc, .num 0, .any⟩
/-- The fields of LNK_CNT1. -/
def LNK_CNT1 (p : Nat) : List Fld := [LNK_CNT1_FEC_CORR p, LNK_CNT1_FEC_UNCORR p, LNK_CNT1_LINK_DOWNS p]

/-! LNK_CNT2 (spec chapter 13). -/
def LNK_CNT2_DUP (p : Nat) : Fld := ⟨0x900000 + 0x400 * p + 72, 63, 32, .rc, .num 0, .any⟩
def LNK_CNT2_AHEAD (p : Nat) : Fld := ⟨0x900000 + 0x400 * p + 72, 31, 0, .rc, .num 0, .any⟩
/-- The fields of LNK_CNT2. -/
def LNK_CNT2 (p : Nat) : List Fld := [LNK_CNT2_DUP p, LNK_CNT2_AHEAD p]

/-! LNK_EVENT (spec chapter 13). -/
def LNK_EVENT_DOWN_CAUSE (p : Nat) : Fld := ⟨0x900000 + 0x400 * p + 80, 11, 8, .ro, .num 0, .any⟩
def LNK_EVENT_WINDOW_FULL (p : Nat) : Fld := ⟨0x900000 + 0x400 * p + 80, 4, 4, .w1c, .num 0, .any⟩
def LNK_EVENT_DEGRADED (p : Nat) : Fld := ⟨0x900000 + 0x400 * p + 80, 3, 3, .w1c, .num 0, .any⟩
def LNK_EVENT_TRAIN_FAIL (p : Nat) : Fld := ⟨0x900000 + 0x400 * p + 80, 2, 2, .w1c, .num 0, .any⟩
def LNK_EVENT_UP (p : Nat) : Fld := ⟨0x900000 + 0x400 * p + 80, 1, 1, .w1c, .num 0, .any⟩
def LNK_EVENT_DOWN (p : Nat) : Fld := ⟨0x900000 + 0x400 * p + 80, 0, 0, .w1c, .num 0, .any⟩
/-- The fields of LNK_EVENT. -/
def LNK_EVENT (p : Nat) : List Fld := [LNK_EVENT_DOWN_CAUSE p, LNK_EVENT_WINDOW_FULL p, LNK_EVENT_DEGRADED p, LNK_EVENT_TRAIN_FAIL p, LNK_EVENT_UP p, LNK_EVENT_DOWN p]

/-! LNK_CMD (spec chapter 13). -/
def LNK_CMD_STATUS (p : Nat) : Fld := ⟨0x900000 + 0x400 * p + 88, 55, 48, .ro, .num 0x00, .any⟩
def LNK_CMD_DETAIL (p : Nat) : Fld := ⟨0x900000 + 0x400 * p + 88, 43, 40, .ro, .num 0, .any⟩
def LNK_CMD_BUSY (p : Nat) : Fld := ⟨0x900000 + 0x400 * p + 88, 8, 8, .ro, .num 0, .any⟩
def LNK_CMD_OPCODE (p : Nat) : Fld := ⟨0x900000 + 0x400 * p + 88, 3, 0, .wo, .num 0, .any⟩
/-- The fields of LNK_CMD. -/
def LNK_CMD (p : Nat) : List Fld := [LNK_CMD_STATUS p, LNK_CMD_DETAIL p, LNK_CMD_BUSY p, LNK_CMD_OPCODE p]

/-! QOS_CFG (spec chapter 15). -/
def QOS_CFG_SHAPE_EN : Fld := ⟨0xa00000, 1, 1, .rw, .num 1, .any⟩
def QOS_CFG_HIST_EN : Fld := ⟨0xa00000, 0, 0, .rw, .num 1, .any⟩
/-- The fields of QOS_CFG. -/
def QOS_CFG : List Fld := [QOS_CFG_SHAPE_EN, QOS_CFG_HIST_EN]

/-! QOS_EVENT (spec chapter 15). -/
def QOS_EVENT_HIST_SAT : Fld := ⟨0xa00008, 2, 2, .w1c, .num 0, .any⟩
def QOS_EVENT_POL_DROP : Fld := ⟨0xa00008, 1, 1, .w1c, .num 0, .any⟩
def QOS_EVENT_CH_DEFER : Fld := ⟨0xa00008, 0, 0, .w1c, .num 0, .any⟩
/-- The fields of QOS_EVENT. -/
def QOS_EVENT : List Fld := [QOS_EVENT_HIST_SAT, QOS_EVENT_POL_DROP, QOS_EVENT_CH_DEFER]

/-! QOS_CH_SEL (spec chapter 15). -/
def QOS_CH_SEL_CHANNEL : Fld := ⟨0xa00010, 11, 0, .rw, .num 0, .any⟩
/-- The fields of QOS_CH_SEL. -/
def QOS_CH_SEL : List Fld := [QOS_CH_SEL_CHANNEL]

/-! QOS_TP_SEL (spec chapter 15). -/
def QOS_TP_SEL_POLICER : Fld := ⟨0xa00050, 5, 0, .rw, .num 0, .any⟩
/-- The fields of QOS_TP_SEL. -/
def QOS_TP_SEL : List Fld := [QOS_TP_SEL_POLICER]

/-! QOS_PORT_SEL (spec chapter 15). -/
def QOS_PORT_SEL_PORT : Fld := ⟨0xa00080, 6, 0, .rw, .num 0, .between 0 87⟩
/-- The fields of QOS_PORT_SEL. -/
def QOS_PORT_SEL : List Fld := [QOS_PORT_SEL_PORT]

/-! QOS_SHAPE (spec chapter 15). -/
def QOS_SHAPE_BURST (u : Nat) : Fld := ⟨u, 63, 40, .rw, .num 0, .any⟩
def QOS_SHAPE_RATE (u : Nat) : Fld := ⟨u, 31, 12, .rw, .num 0, .any⟩
/-- The fields of QOS_SHAPE. -/
def QOS_SHAPE (u : Nat) : List Fld := [QOS_SHAPE_BURST u, QOS_SHAPE_RATE u]

/-! QOS_SHSTATE (spec chapter 15). -/
def QOS_SHSTATE_TOKENS (u : Nat) : Fld := ⟨u + 8, 63, 32, .ro, .num 0, .any⟩
/-- The fields of QOS_SHSTATE. -/
def QOS_SHSTATE (u : Nat) : List Fld := [QOS_SHSTATE_TOKENS u]

/-! POLA (spec chapter 15). -/
def POLA_CBS (u : Nat) : Fld := ⟨u + 16, 63, 40, .rw, .num 0, .any⟩
def POLA_CIR (u : Nat) : Fld := ⟨u + 16, 31, 12, .rw, .num 0, .any⟩
def POLA_ALGO (u : Nat) : Fld := ⟨u + 16, 5, 4, .rw, .num 0, .between 0 2⟩
def POLA_AWARE (u : Nat) : Fld := ⟨u + 16, 3, 3, .rw, .num 0, .any⟩
def POLA_RED_ACT (u : Nat) : Fld := ⟨u + 16, 2, 1, .rw, .num 0, .between 0 1⟩
/-- The fields of POLA. -/
def POLA (u : Nat) : List Fld := [POLA_CBS u, POLA_CIR u, POLA_ALGO u, POLA_AWARE u, POLA_RED_ACT u]

/-! POLB (spec chapter 15). -/
def POLB_EBS_PBS (u : Nat) : Fld := ⟨u + 24, 63, 40, .rw, .num 0, .any⟩
def POLB_PIR (u : Nat) : Fld := ⟨u + 24, 31, 12, .rw, .num 0, .any⟩
/-- The fields of POLB. -/
def POLB (u : Nat) : List Fld := [POLB_EBS_PBS u, POLB_PIR u]

/-! POLSTATE (spec chapter 15). -/
def POLSTATE_TC (u : Nat) : Fld := ⟨u + 32, 63, 40, .ro, .num 0, .any⟩
def POLSTATE_TE_TP (u : Nat) : Fld := ⟨u + 32, 39, 16, .ro, .num 0, .any⟩
/-- The fields of POLSTATE. -/
def POLSTATE (u : Nat) : List Fld := [POLSTATE_TC u, POLSTATE_TE_TP u]

/-! POLCNT0 (spec chapter 15). -/
def POLCNT0_GREEN (u : Nat) : Fld := ⟨u + 40, 63, 32, .rc, .num 0, .any⟩
def POLCNT0_YELLOW (u : Nat) : Fld := ⟨u + 40, 31, 0, .rc, .num 0, .any⟩
/-- The fields of POLCNT0. -/
def POLCNT0 (u : Nat) : List Fld := [POLCNT0_GREEN u, POLCNT0_YELLOW u]

/-! POLCNT1 (spec chapter 15). -/
def POLCNT1_RED (u : Nat) : Fld := ⟨u + 48, 63, 32, .rc, .num 0, .any⟩
def POLCNT1_DROPPED (u : Nat) : Fld := ⟨u + 48, 31, 0, .rc, .num 0, .any⟩
/-- The fields of POLCNT1. -/
def POLCNT1 (u : Nat) : List Fld := [POLCNT1_RED u, POLCNT1_DROPPED u]

/-! QOS_PORT_WT (spec chapter 15). -/
def QOS_PORT_WT_VC3 (p : Nat) : Fld := ⟨0x200c00000 + 0x40 * p + 56, 31, 24, .rw, .num 16, .between 1 255⟩
def QOS_PORT_WT_VC2 (p : Nat) : Fld := ⟨0x200c00000 + 0x40 * p + 56, 23, 16, .rw, .num 64, .between 1 255⟩
def QOS_PORT_WT_VC1 (p : Nat) : Fld := ⟨0x200c00000 + 0x40 * p + 56, 15, 8, .rw, .num 16, .between 1 255⟩
def QOS_PORT_WT_VC0 (p : Nat) : Fld := ⟨0x200c00000 + 0x40 * p + 56, 7, 0, .rw, .num 64, .between 1 255⟩
/-- The fields of QOS_PORT_WT. -/
def QOS_PORT_WT (p : Nat) : List Fld := [QOS_PORT_WT_VC3 p, QOS_PORT_WT_VC2 p, QOS_PORT_WT_VC1 p, QOS_PORT_WT_VC0 p]

/-! QOS_PORT_DEFER (spec chapter 15). -/
def QOS_PORT_DEFER_YELLOW_DEFER (p : Nat) : Fld := ⟨0x200c00000 + 0x40 * p + 16, 47, 32, .rw, .num 0, .between 0 8192⟩
def QOS_PORT_DEFER_RED_DEFER (p : Nat) : Fld := ⟨0x200c00000 + 0x40 * p + 16, 15, 0, .rw, .num 0, .between 0 8192⟩
/-- The fields of QOS_PORT_DEFER. -/
def QOS_PORT_DEFER (p : Nat) : List Fld := [QOS_PORT_DEFER_YELLOW_DEFER p, QOS_PORT_DEFER_RED_DEFER p]

/-! QOS_HIST_SEL (spec chapter 15). -/
def QOS_HIST_SEL_SNAP : Fld := ⟨0xa000a8, 63, 63, .w1s, .num 0, .any⟩
def QOS_HIST_SEL_KIND : Fld := ⟨0xa000a8, 17, 16, .rw, .num 0, .any⟩
def QOS_HIST_SEL_CLASS : Fld := ⟨0xa000a8, 14, 12, .rw, .num 0, .between 0 5⟩
def QOS_HIST_SEL_INDEX : Fld := ⟨0xa000a8, 11, 0, .rw, .num 0, .any⟩
/-- The fields of QOS_HIST_SEL. -/
def QOS_HIST_SEL : List Fld := [QOS_HIST_SEL_SNAP, QOS_HIST_SEL_KIND, QOS_HIST_SEL_CLASS, QOS_HIST_SEL_INDEX]

/-! QOS_HIST_DATA (spec chapter 15). -/
def QOS_HIST_DATA_BIN_HI (n : Nat) : Fld := ⟨0xa000b0 + 8 * n, 63, 32, .ro, .num 0, .any⟩
def QOS_HIST_DATA_BIN_LO (n : Nat) : Fld := ⟨0xa000b0 + 8 * n, 31, 0, .ro, .num 0, .any⟩
/-- The fields of QOS_HIST_DATA. -/
def QOS_HIST_DATA (n : Nat) : List Fld := [QOS_HIST_DATA_BIN_HI n, QOS_HIST_DATA_BIN_LO n]

/-! QOS_TMAP (spec chapter 15). -/
def QOS_TMAP_MAP (n : Nat) : Fld := ⟨0xa00400 + 8 * n, 63, 0, .rw, .num 0, .any⟩
/-- The fields of QOS_TMAP. -/
def QOS_TMAP (n : Nat) : List Fld := [QOS_TMAP_MAP n]

/-! SEC_CFG (spec chapter 16). -/
def SEC_CFG_LIFECYCLE : Fld := ⟨0xb00000, 3, 0, .ro, .dev (.lifecycle), .any⟩
/-- The fields of SEC_CFG. -/
def SEC_CFG : List Fld := [SEC_CFG_LIFECYCLE]

/-! SEC_STATUS (spec chapter 16). -/
def SEC_STATUS_SLOTS_USED : Fld := ⟨0xb00008, 6, 0, .ro, .num 0, .any⟩
/-- The fields of SEC_STATUS. -/
def SEC_STATUS : List Fld := [SEC_STATUS_SLOTS_USED]

/-! SEC_EVENT (spec chapter 16). -/
def SEC_EVENT_LAST_SLOT : Fld := ⟨0xb00010, 13, 8, .ro, .num 0, .any⟩
def SEC_EVENT_STALE_EPOCH : Fld := ⟨0xb00010, 7, 7, .w1c, .num 0, .any⟩
def SEC_EVENT_TENANT_FAULT : Fld := ⟨0xb00010, 6, 6, .w1c, .num 0, .any⟩
def SEC_EVENT_UNSEAL_FAIL : Fld := ⟨0xb00010, 5, 5, .w1c, .num 0, .any⟩
def SEC_EVENT_UNSEAL_DONE : Fld := ⟨0xb00010, 4, 4, .w1c, .num 0, .any⟩
def SEC_EVENT_RESET_DONE : Fld := ⟨0xb00010, 3, 3, .w1c, .num 0, .any⟩
def SEC_EVENT_REMOVE_DONE : Fld := ⟨0xb00010, 2, 2, .w1c, .num 0, .any⟩
def SEC_EVENT_ERASE_DONE : Fld := ⟨0xb00010, 1, 1, .w1c, .num 0, .any⟩
def SEC_EVENT_FENCE_DONE : Fld := ⟨0xb00010, 0, 0, .w1c, .num 0, .any⟩
/-- The fields of SEC_EVENT. -/
def SEC_EVENT : List Fld := [SEC_EVENT_LAST_SLOT, SEC_EVENT_STALE_EPOCH, SEC_EVENT_TENANT_FAULT, SEC_EVENT_UNSEAL_FAIL, SEC_EVENT_UNSEAL_DONE, SEC_EVENT_RESET_DONE, SEC_EVENT_REMOVE_DONE, SEC_EVENT_ERASE_DONE, SEC_EVENT_FENCE_DONE]

/-! SEC_CNT (spec chapter 16). -/
def SEC_CNT_STALE_EPOCH : Fld := ⟨0xb00018, 63, 32, .rc, .num 0, .any⟩
def SEC_CNT_FENCED_REPLIES : Fld := ⟨0xb00018, 31, 0, .rc, .num 0, .any⟩
/-- The fields of SEC_CNT. -/
def SEC_CNT : List Fld := [SEC_CNT_STALE_EPOCH, SEC_CNT_FENCED_REPLIES]

/-! SEC_CMD0 (spec chapter 16). -/
def SEC_CMD0_EXTENT_ID : Fld := ⟨0xb00020, 63, 32, .rw, .num 0, .any⟩
def SEC_CMD0_RACK_TENANT : Fld := ⟨0xb00020, 25, 16, .rw, .num 0, .any⟩
def SEC_CMD0_SLOT : Fld := ⟨0xb00020, 5, 0, .rw, .num 0, .any⟩
/-- The fields of SEC_CMD0. -/
def SEC_CMD0 : List Fld := [SEC_CMD0_EXTENT_ID, SEC_CMD0_RACK_TENANT, SEC_CMD0_SLOT]

/-! SEC_CMD1 (spec chapter 16). -/
def SEC_CMD1_ADDR : Fld := ⟨0xb00028, 55, 0, .rw, .num 0, .any⟩
/-- The fields of SEC_CMD1. -/
def SEC_CMD1 : List Fld := [SEC_CMD1_ADDR]

/-! SEC_CMD2 (spec chapter 16). -/
def SEC_CMD2_EPOCH : Fld := ⟨0xb00030, 63, 48, .rw, .num 0, .any⟩
def SEC_CMD2_OFFSET : Fld := ⟨0xb00030, 43, 0, .rw, .num 0, .any⟩
/-- The fields of SEC_CMD2. -/
def SEC_CMD2 : List Fld := [SEC_CMD2_EPOCH, SEC_CMD2_OFFSET]

/-! SEC_CMD_CTL (spec chapter 16). -/
def SEC_CMD_CTL_STATUS : Fld := ⟨0xb00038, 55, 48, .ro, .num 0x00, .any⟩
def SEC_CMD_CTL_DETAIL : Fld := ⟨0xb00038, 43, 40, .ro, .num 0, .any⟩
def SEC_CMD_CTL_BUSY : Fld := ⟨0xb00038, 8, 8, .ro, .num 0, .any⟩
def SEC_CMD_CTL_OPCODE : Fld := ⟨0xb00038, 3, 0, .wo, .num 0, .any⟩
/-- The fields of SEC_CMD_CTL. -/
def SEC_CMD_CTL : List Fld := [SEC_CMD_CTL_STATUS, SEC_CMD_CTL_DETAIL, SEC_CMD_CTL_BUSY, SEC_CMD_CTL_OPCODE]

/-! SEC_RT_SEL (spec chapter 16). -/
def SEC_RT_SEL_RACK_TENANT : Fld := ⟨0xb00040, 9, 0, .rw, .num 0, .any⟩
/-- The fields of SEC_RT_SEL. -/
def SEC_RT_SEL : List Fld := [SEC_RT_SEL_RACK_TENANT]

/-! SEC_RT_VIEW (spec chapter 16). -/
def SEC_RT_VIEW_FLOOR : Fld := ⟨0xb00048, 63, 48, .ro, .num 0, .any⟩
def SEC_RT_VIEW_CUR : Fld := ⟨0xb00048, 47, 32, .ro, .num 0, .any⟩
def SEC_RT_VIEW_SLOT : Fld := ⟨0xb00048, 13, 8, .ro, .num 0, .any⟩
def SEC_RT_VIEW_STATE : Fld := ⟨0xb00048, 2, 0, .ro, .num 0, .any⟩
/-- The fields of SEC_RT_VIEW. -/
def SEC_RT_VIEW : List Fld := [SEC_RT_VIEW_FLOOR, SEC_RT_VIEW_CUR, SEC_RT_VIEW_SLOT, SEC_RT_VIEW_STATE]

/-! SEC_AGENT_SEL (spec chapter 16). -/
def SEC_AGENT_SEL_AGENT : Fld := ⟨0xb00050, 11, 0, .rw, .num 0, .any⟩
/-- The fields of SEC_AGENT_SEL. -/
def SEC_AGENT_SEL : List Fld := [SEC_AGENT_SEL_AGENT]

/-! SEC_AGENT_DATA (spec chapter 16). -/
def SEC_AGENT_DATA_VALID : Fld := ⟨0xb00058, 10, 10, .rw, .num 0, .any⟩
def SEC_AGENT_DATA_RACK_TENANT : Fld := ⟨0xb00058, 9, 0, .rw, .num 0, .any⟩
/-- The fields of SEC_AGENT_DATA. -/
def SEC_AGENT_DATA : List Fld := [SEC_AGENT_DATA_VALID, SEC_AGENT_DATA_RACK_TENANT]

/-! SEC_IDHASH (spec chapter 16). -/
def SEC_IDHASH_HASH (n : Nat) : Fld := ⟨0xb00060 + 8 * n, 63, 0, .ro, .dev (.idHash n), .any⟩
/-- The fields of SEC_IDHASH. -/
def SEC_IDHASH (n : Nat) : List Fld := [SEC_IDHASH_HASH n]

/-! SEC_SVN (spec chapter 16). -/
def SEC_SVN_SERDES : Fld := ⟨0xb00080, 39, 32, .ro, .dev (.svnSerdes), .any⟩
def SEC_SVN_DDR5_PHY : Fld := ⟨0xb00080, 31, 24, .ro, .dev (.svnDdr5), .any⟩
def SEC_SVN_HBM_PHY : Fld := ⟨0xb00080, 23, 16, .ro, .dev (.svnHbm), .any⟩
def SEC_SVN_MICROCODE : Fld := ⟨0xb00080, 15, 8, .ro, .dev (.svnMicrocode), .any⟩
def SEC_SVN_MGMT : Fld := ⟨0xb00080, 7, 0, .ro, .dev (.svnMgmt), .any⟩
/-- The fields of SEC_SVN. -/
def SEC_SVN : List Fld := [SEC_SVN_SERDES, SEC_SVN_DDR5_PHY, SEC_SVN_HBM_PHY, SEC_SVN_MICROCODE, SEC_SVN_MGMT]

/-! MIR_CFG (spec chapter 17). -/
def MIR_CFG_SVC_AGENT : Fld := ⟨0xc00000, 63, 52, .rw, .num 0, .any⟩
def MIR_CFG_PEER_AGENT : Fld := ⟨0xc00000, 51, 40, .rw, .num 0, .any⟩
def MIR_CFG_WITNESS_AGENT : Fld := ⟨0xc00000, 39, 28, .rw, .num 0, .any⟩
def MIR_CFG_HANDOFF_MS : Fld := ⟨0xc00000, 27, 16, .rw, .num 10, .between 1 4095⟩
/-- The fields of MIR_CFG. -/
def MIR_CFG : List Fld := [MIR_CFG_SVC_AGENT, MIR_CFG_PEER_AGENT, MIR_CFG_WITNESS_AGENT, MIR_CFG_HANDOFF_MS]

/-! MIR_TIMERS (spec chapter 17). -/
def MIR_TIMERS_LEASE_MS : Fld := ⟨0xc00008, 63, 56, .rw, .num 20, .between 10 100⟩
def MIR_TIMERS_FENCE_MS : Fld := ⟨0xc00008, 55, 48, .rw, .num 15, .any⟩
def MIR_TIMERS_RENEW_MS : Fld := ⟨0xc00008, 47, 40, .rw, .num 5, .between 1 50⟩
def MIR_TIMERS_DETECT_MS : Fld := ⟨0xc00008, 39, 32, .rw, .num 10, .between 2 100⟩
def MIR_TIMERS_HB_100US : Fld := ⟨0xc00008, 31, 24, .rw, .num 10, .between 1 100⟩
def MIR_TIMERS_MIRROR_TMO_100US : Fld := ⟨0xc00008, 23, 16, .rw, .num 10, .between 1 100⟩
def MIR_TIMERS_RESYNC_GBPS : Fld := ⟨0xc00008, 15, 8, .rw, .num 100, .between 1 200⟩
def MIR_TIMERS_COMPARE_GBPS : Fld := ⟨0xc00008, 7, 0, .rw, .num 10, .between 0 100⟩
/-- The fields of MIR_TIMERS. -/
def MIR_TIMERS : List Fld := [MIR_TIMERS_LEASE_MS, MIR_TIMERS_FENCE_MS, MIR_TIMERS_RENEW_MS, MIR_TIMERS_DETECT_MS, MIR_TIMERS_HB_100US, MIR_TIMERS_MIRROR_TMO_100US, MIR_TIMERS_RESYNC_GBPS, MIR_TIMERS_COMPARE_GBPS]

/-! MIR_STATUS (spec chapter 17). -/
def MIR_STATUS_SVC_EPOCH : Fld := ⟨0xc00010, 63, 32, .ro, .num 0, .any⟩
def MIR_STATUS_COH_RECOVER : Fld := ⟨0xc00010, 3, 3, .ro, .num 0, .any⟩
def MIR_STATUS_STATE : Fld := ⟨0xc00010, 2, 0, .ro, .num 0, .any⟩
/-- The fields of MIR_STATUS. -/
def MIR_STATUS : List Fld := [MIR_STATUS_SVC_EPOCH, MIR_STATUS_COH_RECOVER, MIR_STATUS_STATE]

/-! MIR_SEQ (spec chapter 17). -/
def MIR_SEQ_WRITE_SEQ : Fld := ⟨0xc00018, 63, 0, .ro, .num 0, .any⟩
/-- The fields of MIR_SEQ. -/
def MIR_SEQ : List Fld := [MIR_SEQ_WRITE_SEQ]

/-! MIR_LEASE (spec chapter 17). -/
def MIR_LEASE_ANCHOR : Fld := ⟨0xc00020, 63, 0, .ro, .num 0, .any⟩
/-- The fields of MIR_LEASE. -/
def MIR_LEASE : List Fld := [MIR_LEASE_ANCHOR]

/-! MIR_PROGRESS (spec chapter 17). -/
def MIR_PROGRESS_PEER_CAP : Fld := ⟨0xc00028, 55, 32, .ro, .num 0, .any⟩
def MIR_PROGRESS_BLOCKS_LEFT : Fld := ⟨0xc00028, 23, 0, .ro, .num 0, .any⟩
/-- The fields of MIR_PROGRESS. -/
def MIR_PROGRESS : List Fld := [MIR_PROGRESS_PEER_CAP, MIR_PROGRESS_BLOCKS_LEFT]

/-! MIR_EVENT (spec chapter 17). -/
def MIR_EVENT_COH_RECOVER_DONE : Fld := ⟨0xc00030, 7, 7, .w1c, .num 0, .any⟩
def MIR_EVENT_OWN_TIMEOUT : Fld := ⟨0xc00030, 6, 6, .w1c, .num 0, .any⟩
def MIR_EVENT_PEER_LOST : Fld := ⟨0xc00030, 5, 5, .w1c, .num 0, .any⟩
def MIR_EVENT_DIVERGED : Fld := ⟨0xc00030, 4, 4, .w1c, .num 0, .any⟩
def MIR_EVENT_RESYNC_DONE : Fld := ⟨0xc00030, 3, 3, .w1c, .num 0, .any⟩
def MIR_EVENT_SOLO : Fld := ⟨0xc00030, 2, 2, .w1c, .num 0, .any⟩
def MIR_EVENT_TAKEOVER : Fld := ⟨0xc00030, 1, 1, .w1c, .num 0, .any⟩
def MIR_EVENT_FENCED : Fld := ⟨0xc00030, 0, 0, .w1c, .num 0, .any⟩
/-- The fields of MIR_EVENT. -/
def MIR_EVENT : List Fld := [MIR_EVENT_COH_RECOVER_DONE, MIR_EVENT_OWN_TIMEOUT, MIR_EVENT_PEER_LOST, MIR_EVENT_DIVERGED, MIR_EVENT_RESYNC_DONE, MIR_EVENT_SOLO, MIR_EVENT_TAKEOVER, MIR_EVENT_FENCED]

/-! MIR_CNT (spec chapter 17). -/
def MIR_CNT_BAD_MSG : Fld := ⟨0xc00038, 63, 48, .rc, .num 0, .any⟩
def MIR_CNT_DIVERGED : Fld := ⟨0xc00038, 47, 32, .rc, .num 0, .any⟩
def MIR_CNT_EPOCH_STALE : Fld := ⟨0xc00038, 31, 0, .rc, .num 0, .any⟩
/-- The fields of MIR_CNT. -/
def MIR_CNT : List Fld := [MIR_CNT_BAD_MSG, MIR_CNT_DIVERGED, MIR_CNT_EPOCH_STALE]

/-! MIR_CMD (spec chapter 17). -/
def MIR_CMD_STATUS : Fld := ⟨0xc00040, 55, 48, .ro, .num 0x00, .any⟩
def MIR_CMD_DETAIL : Fld := ⟨0xc00040, 43, 40, .ro, .num 0, .any⟩
def MIR_CMD_BUSY : Fld := ⟨0xc00040, 8, 8, .ro, .num 0, .any⟩
def MIR_CMD_OPCODE : Fld := ⟨0xc00040, 3, 0, .wo, .num 0, .any⟩
/-- The fields of MIR_CMD. -/
def MIR_CMD : List Fld := [MIR_CMD_STATUS, MIR_CMD_DETAIL, MIR_CMD_BUSY, MIR_CMD_OPCODE]

/-! MIR_OWN_SEL (spec chapter 17). -/
def MIR_OWN_SEL_SLOT : Fld := ⟨0xc00048, 13, 0, .rw, .num 0, .any⟩
/-- The fields of MIR_OWN_SEL. -/
def MIR_OWN_SEL : List Fld := [MIR_OWN_SEL_SLOT]

/-! MIR_OWN0 (spec chapter 17). -/
def MIR_OWN0_STATE_ID : Fld := ⟨0xc00050, 63, 0, .rw, .num 0, .any⟩
/-- The fields of MIR_OWN0. -/
def MIR_OWN0 : List Fld := [MIR_OWN0_STATE_ID]

/-! MIR_OWN1 (spec chapter 17). -/
def MIR_OWN1_EXTENT_ID : Fld := ⟨0xc00058, 63, 32, .rw, .num 0, .any⟩
/-- The fields of MIR_OWN1. -/
def MIR_OWN1 : List Fld := [MIR_OWN1_EXTENT_ID]

/-! MIR_OWN2 (spec chapter 17). -/
def MIR_OWN2_COUNT : Fld := ⟨0xc00060, 50, 32, .rw, .num 0, .any⟩
def MIR_OWN2_FIRST_PAGE : Fld := ⟨0xc00060, 17, 0, .rw, .num 0, .any⟩
/-- The fields of MIR_OWN2. -/
def MIR_OWN2 : List Fld := [MIR_OWN2_COUNT, MIR_OWN2_FIRST_PAGE]

/-! MIR_OWN3 (spec chapter 17). -/
def MIR_OWN3_GEN : Fld := ⟨0xc00068, 63, 32, .ro, .num 0, .any⟩
def MIR_OWN3_HOME_AGENT : Fld := ⟨0xc00068, 31, 20, .rw, .num 0, .any⟩
def MIR_OWN3_TARGET_AGENT : Fld := ⟨0xc00068, 19, 8, .rw, .num 0, .any⟩
def MIR_OWN3_HOLD : Fld := ⟨0xc00068, 1, 1, .ro, .num 0, .any⟩
def MIR_OWN3_VALID : Fld := ⟨0xc00068, 0, 0, .ro, .num 0, .any⟩
/-- The fields of MIR_OWN3. -/
def MIR_OWN3 : List Fld := [MIR_OWN3_GEN, MIR_OWN3_HOME_AGENT, MIR_OWN3_TARGET_AGENT, MIR_OWN3_HOLD, MIR_OWN3_VALID]

/-! ERR_CFG (spec chapter 18). -/
def ERR_CFG_AUTO_RESET_MS : Fld := ⟨0xd00000, 63, 48, .rw, .num 0, .any⟩
def ERR_CFG_CORR_MERGE_US : Fld := ⟨0xd00000, 47, 32, .rw, .num 1000, .any⟩
def ERR_CFG_MOR_POST : Fld := ⟨0xd00000, 31, 16, .rw, .num 256, .between 0 4096⟩
def ERR_CFG_MOR_CORR : Fld := ⟨0xd00000, 2, 2, .rw, .num 0, .any⟩
def ERR_CFG_NOTIFY_MIN : Fld := ⟨0xd00000, 1, 0, .rw, .num 1, .any⟩
/-- The fields of ERR_CFG. -/
def ERR_CFG : List Fld := [ERR_CFG_AUTO_RESET_MS, ERR_CFG_CORR_MERGE_US, ERR_CFG_MOR_POST, ERR_CFG_MOR_CORR, ERR_CFG_NOTIFY_MIN]

/-! ERR_STATUS (spec chapter 18). -/
def ERR_STATUS_OPEN : Fld := ⟨0xd00008, 23, 20, .ro, .num 0, .any⟩
def ERR_STATUS_DEVICE_FATAL : Fld := ⟨0xd00008, 16, 16, .ro, .num 0, .any⟩
def ERR_STATUS_RING_COUNT : Fld := ⟨0xd00008, 12, 0, .ro, .num 0, .any⟩
/-- The fields of ERR_STATUS. -/
def ERR_STATUS : List Fld := [ERR_STATUS_OPEN, ERR_STATUS_DEVICE_FATAL, ERR_STATUS_RING_COUNT]

/-! ERR_EVENT (spec chapter 18). -/
def ERR_EVENT_PRIOR_FATAL : Fld := ⟨0xd00010, 7, 7, .rws, .num 0, .any⟩
def ERR_EVENT_MOR_FROZEN : Fld := ⟨0xd00010, 6, 6, .w1c, .num 0, .any⟩
def ERR_EVENT_DEPTH_SAT : Fld := ⟨0xd00010, 5, 5, .w1c, .num 0, .any⟩
def ERR_EVENT_RING_OVERWRITE : Fld := ⟨0xd00010, 4, 4, .w1c, .num 0, .any⟩
def ERR_EVENT_UNIT_OFFLINE : Fld := ⟨0xd00010, 2, 2, .w1c, .num 0, .any⟩
def ERR_EVENT_UNIT_FATAL : Fld := ⟨0xd00010, 1, 1, .w1c, .num 0, .any⟩
def ERR_EVENT_UNCORR : Fld := ⟨0xd00010, 0, 0, .w1c, .num 0, .any⟩
/-- The fields of ERR_EVENT. -/
def ERR_EVENT : List Fld := [ERR_EVENT_PRIOR_FATAL, ERR_EVENT_MOR_FROZEN, ERR_EVENT_DEPTH_SAT, ERR_EVENT_RING_OVERWRITE, ERR_EVENT_UNIT_OFFLINE, ERR_EVENT_UNIT_FATAL, ERR_EVENT_UNCORR]

/-! ERR_SEQ (spec chapter 18). -/
def ERR_SEQ_NEWEST : Fld := ⟨0xd00018, 63, 0, .ro, .num 0, .any⟩
/-- The fields of ERR_SEQ. -/
def ERR_SEQ : List Fld := [ERR_SEQ_NEWEST]

/-! ERR_CNT0 (spec chapter 18). -/
def ERR_CNT0_CORRECTED : Fld := ⟨0xd00020, 63, 32, .rc, .num 0, .any⟩
def ERR_CNT0_UNCORR : Fld := ⟨0xd00020, 31, 0, .rc, .num 0, .any⟩
/-- The fields of ERR_CNT0. -/
def ERR_CNT0 : List Fld := [ERR_CNT0_CORRECTED, ERR_CNT0_UNCORR]

/-! ERR_CNT1 (spec chapter 18). -/
def ERR_CNT1_UNIT_FATAL : Fld := ⟨0xd00028, 63, 48, .rc, .num 0, .any⟩
def ERR_CNT1_OFFLINE : Fld := ⟨0xd00028, 47, 32, .rc, .num 0, .any⟩
def ERR_CNT1_POISON_CONSUMED : Fld := ⟨0xd00028, 31, 0, .rc, .num 0, .any⟩
/-- The fields of ERR_CNT1. -/
def ERR_CNT1 : List Fld := [ERR_CNT1_UNIT_FATAL, ERR_CNT1_OFFLINE, ERR_CNT1_POISON_CONSUMED]

/-! ERR_ATOM_CNT (spec chapter 18). -/
def ERR_ATOM_CNT_DUPLICATE : Fld := ⟨0xd00030, 63, 32, .rc, .num 0, .any⟩
def ERR_ATOM_CNT_UNCERTAIN : Fld := ⟨0xd00030, 31, 16, .rc, .num 0, .any⟩
def ERR_ATOM_CNT_EVICTED_EARLY : Fld := ⟨0xd00030, 15, 0, .rc, .num 0, .any⟩
/-- The fields of ERR_ATOM_CNT. -/
def ERR_ATOM_CNT : List Fld := [ERR_ATOM_CNT_DUPLICATE, ERR_ATOM_CNT_UNCERTAIN, ERR_ATOM_CNT_EVICTED_EARLY]

/-! ERR_VIEW_SEL (spec chapter 18). -/
def ERR_VIEW_SEL_UNIT_TYPE : Fld := ⟨0xd00038, 55, 48, .rw, .num 0, .any⟩
def ERR_VIEW_SEL_UNIT_INDEX : Fld := ⟨0xd00038, 47, 32, .rw, .num 0, .any⟩
def ERR_VIEW_SEL_SOURCE : Fld := ⟨0xd00038, 31, 30, .rw, .num 0, .between 0 2⟩
def ERR_VIEW_SEL_INDEX : Fld := ⟨0xd00038, 15, 0, .rw, .num 0, .any⟩
/-- The fields of ERR_VIEW_SEL. -/
def ERR_VIEW_SEL : List Fld := [ERR_VIEW_SEL_UNIT_TYPE, ERR_VIEW_SEL_UNIT_INDEX, ERR_VIEW_SEL_SOURCE, ERR_VIEW_SEL_INDEX]

/-! ERR_VIEW (spec chapter 18). -/
def ERR_VIEW_DATA (n : Nat) : Fld := ⟨0xd00040 + 8 * n, 63, 0, .ro, .num 0, .any⟩
/-- The fields of ERR_VIEW. -/
def ERR_VIEW (n : Nat) : List Fld := [ERR_VIEW_DATA n]

/-! ERR_MOR_CTL (spec chapter 18). -/
def ERR_MOR_CTL_UNFREEZE : Fld := ⟨0xd00080, 1, 1, .w1s, .num 0, .any⟩
def ERR_MOR_CTL_FREEZE : Fld := ⟨0xd00080, 0, 0, .w1s, .num 0, .any⟩
/-- The fields of ERR_MOR_CTL. -/
def ERR_MOR_CTL : List Fld := [ERR_MOR_CTL_UNFREEZE, ERR_MOR_CTL_FREEZE]

/-! ERR_MOR_STATUS (spec chapter 18). -/
def ERR_MOR_STATUS_BOOTS : Fld := ⟨0xd00088, 63, 48, .ro, .num 0, .any⟩
def ERR_MOR_STATUS_WRAPPED : Fld := ⟨0xd00088, 17, 17, .ro, .num 0, .any⟩
def ERR_MOR_STATUS_FROZEN : Fld := ⟨0xd00088, 16, 16, .ro, .num 0, .any⟩
def ERR_MOR_STATUS_NEWEST : Fld := ⟨0xd00088, 15, 0, .ro, .num 0, .any⟩
/-- The fields of ERR_MOR_STATUS. -/
def ERR_MOR_STATUS : List Fld := [ERR_MOR_STATUS_BOOTS, ERR_MOR_STATUS_WRAPPED, ERR_MOR_STATUS_FROZEN, ERR_MOR_STATUS_NEWEST]

/-! DBG_TCFG (spec chapter 19). -/
def DBG_TCFG_EVENTS : Fld := ⟨0xe00000, 43, 33, .rw, .num 0, .any⟩
def DBG_TCFG_STREAM_100MBPS : Fld := ⟨0xe00000, 31, 24, .rw, .num 20, .between 1 28⟩
def DBG_TCFG_SAMPLE_LOG2 : Fld := ⟨0xe00000, 20, 16, .rw, .num 16, .between 8 24⟩
def DBG_TCFG_ERR_MIN : Fld := ⟨0xe00000, 13, 12, .rw, .num 1, .any⟩
def DBG_TCFG_ALL_TENANTS : Fld := ⟨0xe00000, 2, 2, .rw, .num 0, .any⟩
def DBG_TCFG_MODE : Fld := ⟨0xe00000, 1, 0, .rw, .num 0, .any⟩
/-- The fields of DBG_TCFG. -/
def DBG_TCFG : List Fld := [DBG_TCFG_EVENTS, DBG_TCFG_STREAM_100MBPS, DBG_TCFG_SAMPLE_LOG2, DBG_TCFG_ERR_MIN, DBG_TCFG_ALL_TENANTS, DBG_TCFG_MODE]

/-! DBG_TBUF (spec chapter 19). -/
def DBG_TBUF_EXTENT_ID : Fld := ⟨0xe00008, 63, 32, .rw, .num 0, .any⟩
def DBG_TBUF_SIZE_MIB : Fld := ⟨0xe00008, 12, 0, .rw, .num 256, .between 1 4096⟩
/-- The fields of DBG_TBUF. -/
def DBG_TBUF : List Fld := [DBG_TBUF_EXTENT_ID, DBG_TBUF_SIZE_MIB]

/-! DBG_TPOS (spec chapter 19). -/
def DBG_TPOS_WRITTEN : Fld := ⟨0xe00010, 63, 0, .ro, .num 0, .any⟩
/-- The fields of DBG_TPOS. -/
def DBG_TPOS : List Fld := [DBG_TPOS_WRITTEN]

/-! DBG_TSTAT (spec chapter 19). -/
def DBG_TSTAT_SOURCE_DROPS : Fld := ⟨0xe00018, 63, 32, .rc, .num 0, .any⟩
def DBG_TSTAT_WRITER_DROPS : Fld := ⟨0xe00018, 31, 8, .rc, .num 0, .any⟩
def DBG_TSTAT_BUF_LOST : Fld := ⟨0xe00018, 0, 0, .w1c, .num 0, .any⟩
/-- The fields of DBG_TSTAT. -/
def DBG_TSTAT : List Fld := [DBG_TSTAT_SOURCE_DROPS, DBG_TSTAT_WRITER_DROPS, DBG_TSTAT_BUF_LOST]

/-! DBG_TWIN (spec chapter 19). -/
def DBG_TWIN_PRE : Fld := ⟨0xe00020, 63, 32, .rw, .num 1048576, .any⟩
def DBG_TWIN_POST : Fld := ⟨0xe00020, 31, 0, .rw, .num 1048576, .any⟩
/-- The fields of DBG_TWIN. -/
def DBG_TWIN : List Fld := [DBG_TWIN_PRE, DBG_TWIN_POST]

/-! DBG_TRIG_STATUS (spec chapter 19). -/
def DBG_TRIG_STATUS_TRIG_POS : Fld := ⟨0xe00028, 63, 32, .ro, .num 0, .any⟩
def DBG_TRIG_STATUS_FIRED : Fld := ⟨0xe00028, 5, 4, .ro, .num 0, .any⟩
def DBG_TRIG_STATUS_STATE : Fld := ⟨0xe00028, 1, 0, .ro, .num 0, .any⟩
/-- The fields of DBG_TRIG_STATUS. -/
def DBG_TRIG_STATUS : List Fld := [DBG_TRIG_STATUS_TRIG_POS, DBG_TRIG_STATUS_FIRED, DBG_TRIG_STATUS_STATE]

/-! DBG_TRIG_CTL (spec chapter 19). -/
def DBG_TRIG_CTL_TYPE (n : Nat) : Fld := ⟨0xe00030 + 0x18 * n, 63, 56, .rw, .num 0, .any⟩
def DBG_TRIG_CTL_UNIT_TYPE (n : Nat) : Fld := ⟨0xe00030 + 0x18 * n, 55, 48, .rw, .num 0xff, .any⟩
def DBG_TRIG_CTL_UNIT_INDEX (n : Nat) : Fld := ⟨0xe00030 + 0x18 * n, 47, 32, .rw, .num 0, .any⟩
def DBG_TRIG_CTL_UNIT_MASK (n : Nat) : Fld := ⟨0xe00030 + 0x18 * n, 31, 16, .rw, .num 0, .any⟩
def DBG_TRIG_CTL_TENANT (n : Nat) : Fld := ⟨0xe00030 + 0x18 * n, 13, 4, .rw, .num 0, .any⟩
def DBG_TRIG_CTL_TENANT_MATCH (n : Nat) : Fld := ⟨0xe00030 + 0x18 * n, 3, 3, .rw, .num 0, .any⟩
def DBG_TRIG_CTL_SNAP (n : Nat) : Fld := ⟨0xe00030 + 0x18 * n, 2, 2, .rw, .num 0, .any⟩
def DBG_TRIG_CTL_MORAINE (n : Nat) : Fld := ⟨0xe00030 + 0x18 * n, 1, 1, .rw, .num 0, .any⟩
def DBG_TRIG_CTL_ENABLE (n : Nat) : Fld := ⟨0xe00030 + 0x18 * n, 0, 0, .rw, .num 0, .any⟩
/-- The fields of DBG_TRIG_CTL. -/
def DBG_TRIG_CTL (n : Nat) : List Fld := [DBG_TRIG_CTL_TYPE n, DBG_TRIG_CTL_UNIT_TYPE n, DBG_TRIG_CTL_UNIT_INDEX n, DBG_TRIG_CTL_UNIT_MASK n, DBG_TRIG_CTL_TENANT n, DBG_TRIG_CTL_TENANT_MATCH n, DBG_TRIG_CTL_SNAP n, DBG_TRIG_CTL_MORAINE n, DBG_TRIG_CTL_ENABLE n]

/-! DBG_TRIG_MASK (spec chapter 19). -/
def DBG_TRIG_MASK_MASK (n : Nat) : Fld := ⟨0xe00038 + 0x18 * n, 63, 0, .rw, .num 0, .any⟩
/-- The fields of DBG_TRIG_MASK. -/
def DBG_TRIG_MASK (n : Nat) : List Fld := [DBG_TRIG_MASK_MASK n]

/-! DBG_TRIG_VALUE (spec chapter 19). -/
def DBG_TRIG_VALUE_VALUE (n : Nat) : Fld := ⟨0xe00040 + 0x18 * n, 63, 0, .rw, .num 0, .any⟩
/-- The fields of DBG_TRIG_VALUE. -/
def DBG_TRIG_VALUE (n : Nat) : List Fld := [DBG_TRIG_VALUE_VALUE n]

/-! DBG_SNAP_CTL (spec chapter 19). -/
def DBG_SNAP_CTL_EXTENT_ID : Fld := ⟨0xe00090, 63, 32, .rw, .num 0, .any⟩
def DBG_SNAP_CTL_DEST : Fld := ⟨0xe00090, 1, 1, .rw, .num 0, .any⟩
def DBG_SNAP_CTL_TAKE : Fld := ⟨0xe00090, 0, 0, .w1s, .num 0, .any⟩
/-- The fields of DBG_SNAP_CTL. -/
def DBG_SNAP_CTL : List Fld := [DBG_SNAP_CTL_EXTENT_ID, DBG_SNAP_CTL_DEST, DBG_SNAP_CTL_TAKE]

/-! DBG_SNAP_STATUS (spec chapter 19). -/
def DBG_SNAP_STATUS_NUMBER : Fld := ⟨0xe00098, 63, 32, .ro, .num 0, .any⟩
def DBG_SNAP_STATUS_ENTRIES : Fld := ⟨0xe00098, 23, 8, .ro, .num 0, .any⟩
def DBG_SNAP_STATUS_MISSED : Fld := ⟨0xe00098, 2, 2, .w1c, .num 0, .any⟩
def DBG_SNAP_STATUS_ABORTED : Fld := ⟨0xe00098, 1, 1, .w1c, .num 0, .any⟩
def DBG_SNAP_STATUS_BUSY : Fld := ⟨0xe00098, 0, 0, .ro, .num 0, .any⟩
/-- The fields of DBG_SNAP_STATUS. -/
def DBG_SNAP_STATUS : List Fld := [DBG_SNAP_STATUS_NUMBER, DBG_SNAP_STATUS_ENTRIES, DBG_SNAP_STATUS_MISSED, DBG_SNAP_STATUS_ABORTED, DBG_SNAP_STATUS_BUSY]

/-! DBG_GAP (spec chapter 19). -/
def DBG_GAP_FROST : Fld := ⟨0xe000a0, 39, 32, .ro, .num 0, .any⟩
def DBG_GAP_MGMT : Fld := ⟨0xe000a0, 31, 24, .ro, .num 0, .any⟩
def DBG_GAP_SWITCH : Fld := ⟨0xe000a0, 23, 16, .ro, .num 0, .any⟩
def DBG_GAP_NOC : Fld := ⟨0xe000a0, 15, 8, .ro, .num 0, .any⟩
def DBG_GAP_ENGINE : Fld := ⟨0xe000a0, 7, 0, .ro, .num 0, .any⟩
/-- The fields of DBG_GAP. -/
def DBG_GAP : List Fld := [DBG_GAP_FROST, DBG_GAP_MGMT, DBG_GAP_SWITCH, DBG_GAP_NOC, DBG_GAP_ENGINE]

/-! DBG_CNT_SEL (spec chapter 19). -/
def DBG_CNT_SEL_SNAP : Fld := ⟨0xe000a8, 63, 63, .w1s, .num 0, .any⟩
def DBG_CNT_SEL_SET : Fld := ⟨0xe000a8, 13, 12, .rw, .num 0, .between 0 2⟩
def DBG_CNT_SEL_INDEX : Fld := ⟨0xe000a8, 9, 0, .rw, .num 0, .any⟩
/-- The fields of DBG_CNT_SEL. -/
def DBG_CNT_SEL : List Fld := [DBG_CNT_SEL_SNAP, DBG_CNT_SEL_SET, DBG_CNT_SEL_INDEX]

/-! DBG_CNT_TIME (spec chapter 19). -/
def DBG_CNT_TIME_TIME : Fld := ⟨0xe000b0, 63, 0, .ro, .num 0, .any⟩
/-- The fields of DBG_CNT_TIME. -/
def DBG_CNT_TIME : List Fld := [DBG_CNT_TIME_TIME]

/-! DBG_CNT (spec chapter 19). -/
def DBG_CNT_COUNT (n : Nat) : Fld := ⟨0xe00100 + 8 * n, 63, 0, .ro, .num 0, .any⟩
/-- The fields of DBG_CNT. -/
def DBG_CNT (n : Nat) : List Fld := [DBG_CNT_COUNT n]

/-! MGT_CFG (spec chapter 21). -/
def MGT_CFG_NOTIFY_AGENT : Fld := ⟨0xf00000, 63, 52, .rw, .num 0, .any⟩
def MGT_CFG_REPORT_AGENT : Fld := ⟨0xf00000, 51, 40, .rw, .num 0, .any⟩
def MGT_CFG_HOLDOFF_US : Fld := ⟨0xf00000, 39, 24, .rw, .num 100, .between 1 65535⟩
def MGT_CFG_RESEND_MS : Fld := ⟨0xf00000, 23, 16, .rw, .num 10, .between 1 255⟩
def MGT_CFG_REPORT_S : Fld := ⟨0xf00000, 15, 4, .rw, .num 60, .between 1 3600⟩
def MGT_CFG_REPORT_ETH : Fld := ⟨0xf00000, 3, 3, .rw, .num 0, .any⟩
def MGT_CFG_NOTIFY_ETH : Fld := ⟨0xf00000, 2, 2, .rw, .num 0, .any⟩
def MGT_CFG_REPORT_EN : Fld := ⟨0xf00000, 1, 1, .rw, .num 1, .any⟩
def MGT_CFG_NOTIFY_EN : Fld := ⟨0xf00000, 0, 0, .rw, .num 1, .any⟩
/-- The fields of MGT_CFG. -/
def MGT_CFG : List Fld := [MGT_CFG_NOTIFY_AGENT, MGT_CFG_REPORT_AGENT, MGT_CFG_HOLDOFF_US, MGT_CFG_RESEND_MS, MGT_CFG_REPORT_S, MGT_CFG_REPORT_ETH, MGT_CFG_NOTIFY_ETH, MGT_CFG_REPORT_EN, MGT_CFG_NOTIFY_EN]

/-! MGT_NOTIFY (spec chapter 21). -/
def MGT_NOTIFY_PENDING : Fld := ⟨0xf00008, 16, 0, .w1c, .num 0, .any⟩
/-- The fields of MGT_NOTIFY. -/
def MGT_NOTIFY : List Fld := [MGT_NOTIFY_PENDING]

/-! MGT_STATUS (spec chapter 21). -/
def MGT_STATUS_RESTARTS : Fld := ⟨0xf00010, 63, 48, .ro, .num 0, .any⟩
def MGT_STATUS_STATE : Fld := ⟨0xf00010, 2, 0, .ro, .num 1, .any⟩
/-- The fields of MGT_STATUS. -/
def MGT_STATUS : List Fld := [MGT_STATUS_RESTARTS, MGT_STATUS_STATE]

/-! MGT_WDOG (spec chapter 21). -/
def MGT_WDOG_TIMEOUT_MS : Fld := ⟨0xf00018, 63, 48, .rw, .num 1000, .zeroOr 100 60000⟩
def MGT_WDOG_KICK : Fld := ⟨0xf00018, 0, 0, .wo, .num 0, .any⟩
/-- The fields of MGT_WDOG. -/
def MGT_WDOG : List Fld := [MGT_WDOG_TIMEOUT_MS, MGT_WDOG_KICK]

/-! MGT_FW (spec chapter 21). -/
def MGT_FW_BOOT_LIMIT_MS : Fld := ⟨0xf00020, 63, 48, .rw, .num 5000, .between 1000 60000⟩
def MGT_FW_SVN : Fld := ⟨0xf00020, 47, 40, .ro, .num 0, .any⟩
def MGT_FW_SOURCE : Fld := ⟨0xf00020, 9, 8, .ro, .num 0, .any⟩
def MGT_FW_BOOT_OK : Fld := ⟨0xf00020, 0, 0, .w1s, .num 0, .any⟩
/-- The fields of MGT_FW. -/
def MGT_FW : List Fld := [MGT_FW_BOOT_LIMIT_MS, MGT_FW_SVN, MGT_FW_SOURCE, MGT_FW_BOOT_OK]

/-! MGT_CMD (spec chapter 21). -/
def MGT_CMD_RESTART : Fld := ⟨0xf00028, 0, 0, .wo, .num 0, .any⟩
/-- The fields of MGT_CMD. -/
def MGT_CMD : List Fld := [MGT_CMD_RESTART]

/-! MGT_UPD0 (spec chapter 21). -/
def MGT_UPD0_EXTENT_ID : Fld := ⟨0xf00030, 63, 32, .rw, .num 0, .any⟩
def MGT_UPD0_OFFSET_4K : Fld := ⟨0xf00030, 31, 0, .rw, .num 0, .any⟩
/-- The fields of MGT_UPD0. -/
def MGT_UPD0 : List Fld := [MGT_UPD0_EXTENT_ID, MGT_UPD0_OFFSET_4K]

/-! MGT_UPD_CTL (spec chapter 21). -/
def MGT_UPD_CTL_STATUS : Fld := ⟨0xf00038, 55, 48, .ro, .num 0x00, .any⟩
def MGT_UPD_CTL_DETAIL : Fld := ⟨0xf00038, 43, 40, .ro, .num 0, .any⟩
def MGT_UPD_CTL_TYPE : Fld := ⟨0xf00038, 11, 8, .rw, .num 0, .any⟩
def MGT_UPD_CTL_APPLY : Fld := ⟨0xf00038, 0, 0, .wo, .num 0, .any⟩
/-- The fields of MGT_UPD_CTL. -/
def MGT_UPD_CTL : List Fld := [MGT_UPD_CTL_STATUS, MGT_UPD_CTL_DETAIL, MGT_UPD_CTL_TYPE, MGT_UPD_CTL_APPLY]

/-! MGT_UPD_STATUS (spec chapter 21). -/
def MGT_UPD_STATUS_PENDING : Fld := ⟨0xf00040, 15, 0, .ro, .num 0, .any⟩
/-- The fields of MGT_UPD_STATUS. -/
def MGT_UPD_STATUS : List Fld := [MGT_UPD_STATUS_PENDING]

/-! MGT_CAL_SEL (spec chapter 21). -/
def MGT_CAL_SEL_ID : Fld := ⟨0xf00048, 15, 0, .rw, .num 0, .any⟩
/-- The fields of MGT_CAL_SEL. -/
def MGT_CAL_SEL : List Fld := [MGT_CAL_SEL_ID]

/-! MGT_CAL_VIEW (spec chapter 21). -/
def MGT_CAL_VIEW_FACTORY (q : Nat) : Fld := ⟨0x200f00000 + 8 * q, 63, 48, .ro, .num 0, .any⟩
def MGT_CAL_VIEW_USER (q : Nat) : Fld := ⟨0x200f00000 + 8 * q, 47, 32, .rws, .num 0, .any⟩
def MGT_CAL_VIEW_EFFECTIVE (q : Nat) : Fld := ⟨0x200f00000 + 8 * q, 31, 16, .ro, .num 0, .any⟩
def MGT_CAL_VIEW_LIMIT (q : Nat) : Fld := ⟨0x200f00000 + 8 * q, 15, 0, .ro, .num 0, .any⟩
/-- The fields of MGT_CAL_VIEW. -/
def MGT_CAL_VIEW (q : Nat) : List Fld := [MGT_CAL_VIEW_FACTORY q, MGT_CAL_VIEW_USER q, MGT_CAL_VIEW_EFFECTIVE q, MGT_CAL_VIEW_LIMIT q]

/-! MGT_METER_SEL (spec chapter 21). -/
def MGT_METER_SEL_SLOT : Fld := ⟨0xf00058, 5, 0, .rw, .num 0, .any⟩
/-- The fields of MGT_METER_SEL. -/
def MGT_METER_SEL : List Fld := [MGT_METER_SEL_SLOT]

/-! MGT_METER_CFG (spec chapter 21). -/
def MGT_METER_CFG_COMP_ID (m : Nat) : Fld := ⟨0x200f10000 + 0x40 * m, 63, 32, .rw, .num 0, .any⟩
def MGT_METER_CFG_BIND (m : Nat) : Fld := ⟨0x200f10000 + 0x40 * m, 0, 0, .rw, .num 0, .any⟩
/-- The fields of MGT_METER_CFG. -/
def MGT_METER_CFG (m : Nat) : List Fld := [MGT_METER_CFG_COMP_ID m, MGT_METER_CFG_BIND m]

/-! MGT_METER (spec chapter 21). -/
def MGT_METER_COUNT (m n : Nat) : Fld := ⟨0x200f10008 + 0x40 * m + 8 * n, 63, 0, .ro, .num 0, .any⟩
/-- The fields of MGT_METER. -/
def MGT_METER (m n : Nat) : List Fld := [MGT_METER_COUNT m n]

/-! MGT_REPORT (spec chapter 21). -/
def MGT_REPORT_SEQ : Fld := ⟨0xf00090, 63, 0, .ro, .num 0, .any⟩
/-- The fields of MGT_REPORT. -/
def MGT_REPORT : List Fld := [MGT_REPORT_SEQ]

/-! MGT_ETH (spec chapter 21). -/
def MGT_ETH_LINK_UP : Fld := ⟨0xf00098, 63, 63, .ro, .num 0, .any⟩
def MGT_ETH_HOST_MAC : Fld := ⟨0xf00098, 47, 0, .rw, .num 0, .any⟩
/-- The fields of MGT_ETH. -/
def MGT_ETH : List Fld := [MGT_ETH_LINK_UP, MGT_ETH_HOST_MAC]

/-! MGT_TELEM0 (spec chapter 21). -/
def MGT_TELEM0_VIN_100MV : Fld := ⟨0xf000a0, 63, 48, .ro, .num 0, .any⟩
def MGT_TELEM0_IIN_100MA : Fld := ⟨0xf000a0, 47, 32, .ro, .num 0, .any⟩
def MGT_TELEM0_POWER_W : Fld := ⟨0xf000a0, 31, 16, .ro, .num 0, .any⟩
/-- The fields of MGT_TELEM0. -/
def MGT_TELEM0 : List Fld := [MGT_TELEM0_VIN_100MV, MGT_TELEM0_IIN_100MA, MGT_TELEM0_POWER_W]

/-! MGT_TELEM1 (spec chapter 21). -/
def MGT_TELEM1_TJ_MAX_C : Fld := ⟨0xf000a8, 63, 56, .ro, .num 0, .any⟩
def MGT_TELEM1_HBM_MAX_C : Fld := ⟨0xf000a8, 55, 48, .ro, .num 0, .any⟩
def MGT_TELEM1_ALERT_W : Fld := ⟨0xf000a8, 15, 0, .rw, .num 0, .any⟩
/-- The fields of MGT_TELEM1. -/
def MGT_TELEM1 : List Fld := [MGT_TELEM1_TJ_MAX_C, MGT_TELEM1_HBM_MAX_C, MGT_TELEM1_ALERT_W]

/-! MGT_EVENT (spec chapter 21). -/
def MGT_EVENT_POWER_ALERT : Fld := ⟨0xf000b0, 5, 5, .w1c, .num 0, .any⟩
def MGT_EVENT_ETH_DOWN : Fld := ⟨0xf000b0, 4, 4, .w1c, .num 0, .any⟩
def MGT_EVENT_UPD_FAIL : Fld := ⟨0xf000b0, 3, 3, .w1c, .num 0, .any⟩
def MGT_EVENT_UPD_DONE : Fld := ⟨0xf000b0, 2, 2, .w1c, .num 0, .any⟩
def MGT_EVENT_REFETCH : Fld := ⟨0xf000b0, 1, 1, .w1c, .num 0, .any⟩
def MGT_EVENT_RESTARTED : Fld := ⟨0xf000b0, 0, 0, .w1c, .num 0, .any⟩
/-- The fields of MGT_EVENT. -/
def MGT_EVENT : List Fld := [MGT_EVENT_POWER_ALERT, MGT_EVENT_ETH_DOWN, MGT_EVENT_UPD_FAIL, MGT_EVENT_UPD_DONE, MGT_EVENT_REFETCH, MGT_EVENT_RESTARTED]

/-! TEN_ID (spec chapter 16). -/
def TEN_ID_EPOCH (w : Nat) : Fld := ⟨0x8000000 + 0x10000 * w + 0, 63, 48, .ro, .num 0, .any⟩
def TEN_ID_SLOT (w : Nat) : Fld := ⟨0x8000000 + 0x10000 * w + 0, 37, 32, .ro, .num 0, .any⟩
def TEN_ID_STATE (w : Nat) : Fld := ⟨0x8000000 + 0x10000 * w + 0, 18, 16, .ro, .num 0, .any⟩
def TEN_ID_RACK_TENANT (w : Nat) : Fld := ⟨0x8000000 + 0x10000 * w + 0, 9, 0, .ro, .num 0, .any⟩
/-- The fields of TEN_ID. -/
def TEN_ID (w : Nat) : List Fld := [TEN_ID_EPOCH w, TEN_ID_SLOT w, TEN_ID_STATE w, TEN_ID_RACK_TENANT w]

/-! TEN_CTL (spec chapter 16). -/
def TEN_CTL_RESET (w : Nat) : Fld := ⟨0x8000000 + 0x10000 * w + 8, 0, 0, .wo, .num 0, .any⟩
/-- The fields of TEN_CTL. -/
def TEN_CTL (w : Nat) : List Fld := [TEN_CTL_RESET w]

/-! TEN_FAULT (spec chapter 16). -/
def TEN_FAULT_COUNT (w : Nat) : Fld := ⟨0x8000000 + 0x10000 * w + 16, 31, 16, .rc, .num 0, .any⟩
def TEN_FAULT_FAULT (w : Nat) : Fld := ⟨0x8000000 + 0x10000 * w + 16, 0, 0, .w1c, .num 0, .any⟩
/-- The fields of TEN_FAULT. -/
def TEN_FAULT (w : Nat) : List Fld := [TEN_FAULT_COUNT w, TEN_FAULT_FAULT w]

/-! TEN_CNT_CTL (spec chapter 19). -/
def TEN_CNT_CTL_SNAP (w : Nat) : Fld := ⟨0x8000000 + 0x10000 * w + 768, 0, 0, .wo, .num 0, .any⟩
/-- The fields of TEN_CNT_CTL. -/
def TEN_CNT_CTL (w : Nat) : List Fld := [TEN_CNT_CTL_SNAP w]

/-! TEN_CNT_TIME (spec chapter 19). -/
def TEN_CNT_TIME_TIME (w : Nat) : Fld := ⟨0x8000000 + 0x10000 * w + 776, 63, 0, .ro, .num 0, .any⟩
/-- The fields of TEN_CNT_TIME. -/
def TEN_CNT_TIME (w : Nat) : List Fld := [TEN_CNT_TIME_TIME w]

/-! TEN_CNT (spec chapter 19). -/
def TEN_CNT_COUNT (w n : Nat) : Fld := ⟨0x8000000 + 0x10000 * w + 0x400 + 8 * n, 63, 0, .ro, .num 0, .any⟩
/-- The fields of TEN_CNT. -/
def TEN_CNT (w n : Nat) : List Fld := [TEN_CNT_COUNT w n]

end Sys2Proof.Machine.Reg
end

