-- ==== Sys2Proof/Machine/State.lean ====
section
/-! DEFINITION. The state of the block as plain data: the register bank, pool memory, and what each unit
holds beside its registers; the reasons a step can stop; and the state right after a cold reset. -/

namespace Sys2Proof.Machine

/-! Extents and leases (chapter 02). -/

/-- Extent states of Table 2.3; FREE is absence from the table. -/
inductive ExtState where
  | active | grace | fencing | scrubbing
  deriving DecidableEq, Repr

/-- The STATE codes of Table 2.3. -/
def ExtState.code : ExtState → Nat
  | .active => 1 | .grace => 2 | .fencing => 3 | .scrubbing => 4

/-- The MODE codes of Tables 2.2 and 3.1. -/
inductive RMode where
  | coherent | published | software | reserved
  deriving DecidableEq, Repr

/-- The code of a mode. -/
def RMode.code : RMode → Nat
  | .coherent => 0 | .published => 1 | .software => 2 | .reserved => 3

/-- The mode of a code. -/
def RMode.ofCode (n : Nat) : RMode :=
  if n = 0 then .coherent else if n = 1 then .published else if n = 2 then .software else .reserved

/-- An extent table entry (Table 2.2). `onAdm` says that step 2 of Table 2.4 has run for its fence. -/
structure Extent where
  tenant : Nat
  st : ExtState
  mode : RMode
  mirrored : Bool
  rights : Nat
  base : Nat
  length : Nat
  holder : Nat
  createTime : Nat
  fenceTime : Nat
  fenceGen : Nat
  regionId : Nat
  cause : Nat
  deriving DecidableEq, Repr

/-- Lease states (Table 2.15); NONE is absence. -/
inductive LeaseState where
  | held | grace | expired
  deriving DecidableEq, Repr

/-- A lease record (R33 to R35). `graceFrom` is the rack time from which the grace period counts. -/
structure Lease where
  st : LeaseState
  expiry : Nat
  term : Nat
  graceFrom : Nat
  deriving DecidableEq, Repr

/-- The extent unit: the extent table by EXTENT_ID, lease records by agent, requests in flight by fence
generation (R38) with the replies that have not left the node yet, the scrub queue (R32), and a REVOKE that R42 keeps
waiting. -/
structure ExtUnit where
  table : NMap Extent
  leases : NMap Lease
  inflight : NMap Nat
  leaving : List (Nat × Pkt)
  scrubQ : List Nat
  revokeWait : Option Nat
  deriving DecidableEq, Repr

/-! Regions and the firn directory (chapter 03). -/

/-- Version slot roles (Table 3.8). -/
inductive Role where
  | empty | staging | current | retained | publishing
  deriving DecidableEq, Repr

/-- The ROLE codes of Table 3.2. -/
def Role.code : Role → Nat
  | .empty => 0 | .staging => 1 | .current => 2 | .retained => 3 | .publishing => 4

/-- A version slot (Table 3.2). -/
structure Slot where
  extent : Nat
  version : Nat
  role : Role
  readers : Nat
  deriving DecidableEq, Repr

/-- A LIVE region record (Table 3.1). -/
structure Region where
  mode : RMode
  grantE : Bool
  hold : Nat
  curVersion : Nat
  tenant : Nat
  slots : List Slot
  deriving DecidableEq, Repr

/-- A directory entry's state (Table 3.4); U is absence of an entry. -/
inductive DirSt where
  | shared | ownedEx | ownedSh
  deriving DecidableEq, Repr

/-- The sharer field (R49): at most eight exact IDs, or a vector of agent groups. -/
inductive Sharers where
  | exact (ids : List Nat)
  | coarse (groups : List Nat)
  deriving DecidableEq, Repr

/-- A directory entry. `alloc` orders allocation for R64. -/
structure DirEntry where
  st : DirSt
  owner : Nat
  sharers : Sharers
  alloc : Nat
  deriving DecidableEq, Repr

/-- Snoops of Table 3.5. -/
inductive SnoopKind where
  | fwdCopy | fwdOwn | fwdPeek | kill | retrieve
  deriving DecidableEq, Repr

/-- A snoop sent and not yet answered: its kind, its target, the rack time of its sending, and the TAG that it carries
and that its answer returns (R66). -/
structure Snoop where
  kind : SnoopKind
  agent : Nat
  sent : Nat
  tag : Nat
  deriving DecidableEq, Repr

/-- The per-line requests of R54: Table 3.6's rows, and a home-side access (R59). -/
inductive TxnKind where
  | loadCopy | loadOwn | claim | peek | putLine | putMasked | dropClean | dropDirty
  | homeRead | homeWrite | backInv | sweep
  deriving DecidableEq, Repr

/-- Where a home-side access comes from: a fabric request, an atomic answered with the current value alone (step 4 of
Table 18.5), an engine's tag, a descriptor's tile, the channel front end. -/
inductive Origin where
  | fabric (p : Pkt)
  | uncertain (p : Pkt)
  | engine (e tag : Nat)
  | tile (ch slot tile : Nat)
  | front (ch : Nat)
  deriving DecidableEq, Repr

/-- A transaction of a line (R60): queued, then started once its line is free and no hold window
stands against it; `result` and `missed` hold what the owner's answer said. -/
structure Txn where
  line : Nat
  kind : TxnKind
  req : Pkt
  acc : Nat
  gen : Nat
  agent : Nat
  started : Bool
  waits : List Snoop
  result : Nat
  missed : Bool
  ready : Bool
  deriving DecidableEq, Repr

/-- A home-side access accepted at its home slices and not yet performed: one that waits for lines of a
COHERENT extent (R59) or for a ZERO fill (R107). -/
structure HomeAcc where
  org : Origin
  gen : Nat
  write : Bool
  off : Nat
  len : Nat
  lines : List Nat
  pages : List Nat
  fetch : List Nat
  deriving DecidableEq, Repr

/-- The posted writes of one source in one order domain since its last FlushReq (R73). -/
structure Posted where
  bad : Nat
  deriving DecidableEq, Repr

/-- A FlushReq waiting for the posted writes it covers. -/
structure Flush where
  req : Pkt
  status : Nat
  covers : List Nat
  deriving DecidableEq, Repr

/-- A PUBLISH accepted or waiting at a region home (Table 3.9); `accepted` says steps 1 to 4 have run. -/
structure Publish where
  region : Nat
  expect : Nat
  extent : Nat
  ch : Nat
  slot : Nat
  accepted : Bool
  gen : Nat
  deriving DecidableEq, Repr

/-- A directory-entry recovery (R67). `later` holds the agent whose RETRIEVE waits for the end of its hold window (R61). -/
structure EntryLost where
  tenant : Nat
  waits : List Snoop
  later : List Nat
  dirty : Nat
  timedOut : Bool
  deriving DecidableEq, Repr

/-- The firn directory and the region homes. `nextTag` numbers the snoops of the home's own transactions; `lostDue` holds
the lines whose entry was found unreadable while a transaction ran on them (R60, R67). -/
structure DirUnit where
  regions : NMap Region
  entries : NMap DirEntry
  holds : NMap (Nat × Nat)
  txns : List Txn
  accs : NMap HomeAcc
  nextAcc : Nat
  allocCtr : Nat
  sweepAgents : List Nat
  sweepEnd : Nat
  lost : NMap EntryLost
  pubs : List Publish
  posted : NMap Posted
  flushes : List Flush
  nextTag : Nat
  lostDue : List Nat
  deriving DecidableEq, Repr

/-! Memory tiers (chapter 04). A unit is named by its UNIT_INDEX of Table 18.3: site × 64 +
pseudo-channel in HBM, channel × 4 + rank in DDR5. -/

/-- Where a part of a retiring unit goes (R94): part number and donor unit index. -/
structure Hosted where
  part : Nat
  donor : Nat
  deriving DecidableEq, Repr

/-- A retirement in progress (Table 4.4): the unit, the donors of its parts, and the part being copied; part
D is the part that the unit itself hosts. -/
structure Retire where
  unit : Nat
  donors : List Hosted
  part : Nat
  deriving DecidableEq, Repr

/-- Granules of a retiring or retired unit, from `lo` to below `hi`, that a donor's spare area holds (R96, R97). -/
structure Piece where
  lo : Nat
  hi : Nat
  donor : Nat
  deriving DecidableEq, Repr

/-- A request waiting in a controller port (R83), for a granule of its unit. Ports: 0 fabric, 1 engine, 2 placement, 3 scrub.
`subs` holds the DDR5 subchannels that its chunks use, a bit each (R79), `addr` its tier address. -/
structure MemReq where
  port : Nat
  unit : Nat
  bank : Nat
  row : Nat
  granule : Nat
  subs : Nat
  addr : Nat
  arrive : Nat
  deriving DecidableEq, Repr

/-- One controller's scheduling state: waiting requests, open rows by unit and bank, last port served,
until when each unit refreshes, until when the channel pauses, the R86 limit, the last command issued, and the last activate by unit (R442). -/
structure MemCtl where
  queue : List MemReq
  openRow : NMap Nat
  lastPort : Nat
  refreshEnd : NMap Nat
  nextRefresh : NMap Nat
  pauseEnd : NMap Nat
  nextRetrain : NMap Nat
  fullRetrain : List Nat
  throttled : Bool
  lastIssue : Nat
  lastAct : NMap Nat
  deriving DecidableEq, Repr

/-- A DDR5 set's evacuation or re-form: the channel of EVACUATE, or the rank of R99. -/
inductive Drain where
  | evacuate (ch : Nat)
  | reform (rank : Nat)
  deriving DecidableEq, Repr

/-- The memory tiers: controllers (HBM site s as s, DDR5 channel c as 16 + c), retirement queues (stacks
as site, sets as 16 + set), retirements running, the DIMMs of each channel, spare divisors in force per set, the sites that
form the HBM interleave and each set's ranks in slot order, drains, restores running, each unit's corrections of the last
second by time (R91), last parity errors and reissues due, the patrol scrub's next granule of a unit and when its pass
began, the granules whose corrected errors the next pass rewrites (R88), and the granules of a unit that donors hold. -/
structure MemTiers where
  ctl : NMap MemCtl
  retireQ : NMap (List Nat)
  retiring : NMap Retire
  dimm : NMap (List Dimm)
  formDiv : NMap Nat
  hbmForm : List Nat
  setForm : NMap (List Nat)
  drains : NMap Drain
  restoring : List Nat
  corr : NMap (List (Nat × Nat))
  parity : NMap Nat
  reissue : NMap Nat
  scrubPos : NMap Nat
  scrubFrom : NMap Nat
  rewrite : NMap (List Nat)
  pieces : NMap (List Piece)
  deriving DecidableEq, Repr

/-! Placement (chapter 05). -/

/-- The tier of a frame (Table 5.1). -/
inductive Tier where
  | hbm | ddr5 | remote
  deriving DecidableEq, Repr

/-- The TIER codes of Table 5.1. -/
def Tier.code : Tier → Nat
  | .hbm => 0 | .ddr5 => 1 | .remote => 2

/-- A frame map entry (Table 5.1). -/
structure Frame where
  frame : Nat
  tier : Tier
  set : Nat
  zero : Bool
  moving : Bool
  holder : Nat
  hint : Nat
  heat : Nat
  deriving DecidableEq, Repr

/-- Why a page moves: the counter or event that its end updates. -/
inductive MoveWhy where
  | promote | demote | lodge | recall | command | drain | relief
  deriving DecidableEq, Repr

/-- Where a page goes: tier, DDR5 set, holder. -/
structure Dest where
  tier : Tier
  set : Nat
  holder : Nat
  deriving DecidableEq, Repr

/-- A move in progress (Table 5.2): destination, its frame, the line cursor. -/
structure Move where
  dest : Dest
  frame : Nat
  cursor : Nat
  why : MoveWhy
  deriving DecidableEq, Repr

/-- A frame this node holds for another (R109): its owner, the owner's page and whose tenant's. -/
structure Lodged where
  owner : Nat
  page : Nat
  tenant : Nat
  deriving DecidableEq, Repr

/-- A frame named by tier, set and index. -/
structure FrameId where
  tier : Tier
  set : Nat
  frame : Nat
  deriving DecidableEq, Repr

/-- A ciphertext line that this node keeps for another: a lodged frame's, or a peer's. -/
structure CLine where
  data : List Byte
  poison : Bool
  deriving DecidableEq, Repr

/-- What this node tells another of lodged pages, in messages whose form no rule gives (DESIGN CHOICE, log entry 178): a return request
(R113), or the release of the frame that a node holds for a page (R117). -/
inductive Notice where
  | giveBack (node : Nat)
  | release (node page : Nat)
  deriving DecidableEq, Repr

/-- A placement command whose moves still run. -/
inductive PlcCmd where
  | none
  | pages (ps : List Nat) (d : Option Dest) (notes : Bool)
  | recall (node : Nat)
  | release (node : Nat)
  deriving DecidableEq, Repr

/-- The icefall engine: frame map by node-local page, promotion queue and cold list (R112), moves by page,
frames awaiting scrub (R117), ZERO fills asked for (R107), lines of REMOTE pages in rime (R109), frames
lodged here by HBM frame and their lines by frame × 16,384 + line, holders found lost (R119), holders that
asked for their frames back and owners asked for theirs (R113), a command whose moves still run, the last
decay, the bytes moved lately by rack time (R118), the samples of the running 10 ns, the pages that admission points have
sampled and the sampling opportunities so far (R110), the queued page whose exchange has demoted a page (R112), the
messages sent about lodged pages, and the placement requests to an agent that ended one after another with no reply (R119). -/
structure PlcUnit where
  map : NMap Frame
  promQ : List Nat
  cold : List Nat
  moves : NMap Move
  scrub : List FrameId
  fills : List Nat
  filled : List Nat
  lodgedIn : NMap Lodged
  lodgedMem : NMap CLine
  lost : List Nat
  returns : List Nat
  asked : List Nat
  cmd : PlcCmd
  lastDecay : Nat
  budget : NMap Nat
  sampleTime : Nat
  sampleCnt : Nat
  samples : List Nat
  drawn : Nat
  swap : Option Nat
  notices : List Notice
  silent : NMap Nat
  deriving DecidableEq, Repr

/-! Translation (chapter 06). -/

/-- A translation entry (Table 6.2) and the pins it carries; `inval` is step 2 of Table 6.5. -/
structure XEntry where
  small : Bool
  rights : Nat
  rpa : Nat
  pins : Nat
  inval : Bool
  deriving DecidableEq, Repr

/-- A conversion window (R129). -/
structure XWindow where
  va : Nat
  rpa : Nat
  count : Nat
  pins : Nat
  inval : Bool
  deriving DecidableEq, Repr

/-- A translation context (R124): its tenant, whether it is POOL, its entries by VA div 64 KiB (a 2 MiB
entry at its first slot) and its windows. -/
structure XCtx where
  tenant : Nat
  pool : Bool
  entries : NMap XEntry
  windows : List XWindow
  deriving DecidableEq, Repr

/-- What an invalidation will apply at step 6 of Table 6.5. -/
inductive XChange where
  | unmap (ctx : Nat) (slots : List Nat)
  | protect (ctx : Nat) (slots : List Nat) (rights : Nat)
  | remap (ctx : Nat) (slots : List Nat) (rpa : Nat)
  | removeWindow (ctx va : Nat)
  deriving DecidableEq, Repr

/-- A hot-page record (R137). -/
structure HotRec where
  time : Nat
  group : Nat
  count : Nat
  page : Nat
  deriving DecidableEq, Repr

/-- A page's counter record (R136): counters by group and NOTIFIED bits. -/
structure PageCnt where
  cnt : NMap Nat
  notified : List Nat
  deriving DecidableEq, Repr

/-- A line of a cirque's translation cache (R132): context, VA slot of 64 KiB and the entry. -/
structure XCached where
  ctx : Nat
  slot : Nat
  small : Bool
  rights : Nat
  rpa : Nat
  deriving DecidableEq, Repr

/-- The translation unit: contexts, the invalidation running, cirque caches, counters, the hot-page queue. -/
structure XltUnit where
  ctxs : NMap XCtx
  change : Option XChange
  cache : NMap (List XCached)
  counters : NMap PageCnt
  hotQ : List HotRec
  lastEpoch : Nat
  deriving DecidableEq, Repr

/-! Channels (chapter 07). -/

/-- A work descriptor (Table 7.2). `cnt` is COUNT0 to COUNT4, `start` START2 to START4, `ss` and `ds` the
source and destination strides as their 48-bit fields; `rsvd` gathers the reserved bytes. -/
structure Desc where
  op : Nat
  flags : Nat
  fmt : Nat
  opx : Nat
  cnt : List Nat
  userTag : Nat
  src : Nat
  dst : Nat
  aux : Nat
  start : List Nat
  rsvd : Nat
  imm : Nat
  ss : List Nat
  ds : List Nat
  xlate : Nat
  imm2 : Nat
  deriving DecidableEq, Repr

/-- A record of a translation list (R130): the page's first 64 KiB slot of address space, and its entry. -/
structure XRec where
  slot : Nat
  small : Bool
  rights : Nat
  rpa : Nat
  deriving DecidableEq, Repr

/-- A tile in flight (R152): ordinal, accesses opened, fence generation, colour, whether its work is done,
whether it is delivered, PUSH_WRs that wait for their acknowledgement, when it started, what it adds to RESULT, and,
of a FILTER, whether its source has been read and the rows still to be written. -/
structure Tile where
  ord : Nat
  accs : List Nat
  gen : Nat
  colour : Nat
  performed : Bool
  delivered : Bool
  due : Nat
  began : Nat
  res : Nat
  taken : Bool
  out : List (Nat × List (Byte × Bool))
  deriving DecidableEq, Repr

/-- How a descriptor ends: STATUS, or the CAUSE of a stop, with its DETAIL (Table 7.6). -/
structure DStop where
  status : Nat
  detail : Nat
  deriving DecidableEq, Repr

/-- A live descriptor: its ring index, whether its ring slot has been read, its fields, whether it has been
checked and translated, whether it has started; its translation list; gather and scatter rows; the first stop; poison met; next tile to start, tiles
delivered as a prefix, tiles in flight; RESULT so far; its end, once known; accesses the front end waits for;
posted writes a FLUSH covers; counter writes not yet performed, and the accesses of one on this node (R164); the engines
that a LAUNCH selects (R188); the front end's own XLATE field: the list's handle and length (R150); whether its completion
record's access is open. -/
structure LiveDesc where
  idx : Nat
  read : Bool
  d : Desc
  ready : Bool
  started : Bool
  xl : List XRec
  pinned : Bool
  rows : List Nat
  stop : Option DStop
  poison : Bool
  next : Nat
  delivered : Nat
  tiles : List Tile
  result : Nat
  ended : Option DStop
  accs : List Nat
  covers : List Nat
  ctrDue : Nat
  ctrAccs : List Nat
  engines : List Nat
  xlate : Option (Nat × Nat)
  recording : Bool
  deriving DecidableEq, Repr

/-- A channel (Table 7.1); `live` holds its live descriptors, oldest first; `rings` the doorbells whose
descriptors have not all started, as new tail and rack time. -/
structure Chan where
  tenant : Nat
  ctx : Nat
  st : Nat
  stopOnErr : Bool
  sqLog : Nat
  cqLog : Nat
  sqBase : Nat
  cqBase : Nat
  liveMax : Nat
  prio : Nat
  weight : Nat
  sqHead : Nat
  sqTail : Nat
  cqTail : Nat
  cqHead : Nat
  phase : Bool
  fStatus : Nat
  fDetail : Nat
  fIndex : Nat
  descDone : Nat
  bytesDone : Nat
  live : List LiveDesc
  rings : List (Nat × Nat)
  deriving DecidableEq, Repr

/-- A doorbell that waits for its channel's entry (R141): tenant window, channel, value, and the agent that wrote
it (0 for a write of no agent). -/
structure Bell where
  win : Nat
  ch : Nat
  val : Nat
  agent : Nat
  deriving DecidableEq, Repr

/-- The unit that the channel scheduler selected last and that has not started yet (R295): the channel, the
descriptor of a tile or none for a descriptor's start, and the unit's colour. -/
structure Sel where
  ch : Nat
  tileOf : Option Nat
  colour : Nat
  deriving DecidableEq, Repr

/-- The channel-engine front end: created channels by number, the CDT cache (least recently used first),
waiting doorbells, the selected unit. -/
structure ChnUnit where
  chans : NMap Chan
  cache : List Nat
  bells : List Bell
  sel : Option Sel
  deriving DecidableEq, Repr

/-! Serac engines and cirques (chapter 08). -/

/-- What an async request does (R181, R246, R248). -/
inductive AKind where
  | get | put
  | atom (arg aux : Nat) (ret : Bool)
  | cred (group chunk fmt : Nat)
  | cgath (group chunk : Nat)
  deriving DecidableEq, Repr

/-- How one line of an async request stands: to be admitted, accepted at its home slice, on its way to another
node, performed and waiting for the standby, or done with its status. -/
inductive LineSt where
  | new
  | waits (acc : Nat)
  | remote
  | held
  | done (status detail : Nat)
  deriving DecidableEq, Repr

/-- One line of an async request: its rack pool address (or VA until translated), its bytes' place in the
request, and its state. -/
structure ALine where
  addr : Nat
  pos : Nat
  len : Nat
  st : LineSt
  poison : Bool
  deriving DecidableEq, Repr

/-- An outstanding async request: kind, local address, pool address, length, the bytes it sends, whether a
translation miss keeps it, the translation slot it used, its lines, and the fence generations that count them. `result` is the local address of an
atomic's or CRED's result. -/
structure AReq where
  kind : AKind
  loc : Nat
  pool : Nat
  len : Nat
  data : List Byte
  poison : List Nat
  missing : Bool
  slot : Option Nat
  lines : List ALine
  gens : List Nat
  seq : Nat
  deriving DecidableEq, Repr

/-- A tag (R183): the request outstanding on it, or the status kept. -/
inductive ATag where
  | out (r : AReq)
  | kept (status detail : Nat)
  deriving DecidableEq, Repr

/-- What a WAITING engine waits for. -/
inductive EWait where
  | tag (t : Nat)
  | all
  | most (n : Nat)
  | bar (b : Nat)
  | sem (m n : Nat)
  | halt
  | hold (t : Nat)
  deriving DecidableEq, Repr

/-- A neighbour store that has not completed (R187): the owner engine, its store address, the bytes. -/
structure NStore where
  owner : Nat
  addr : Nat
  data : List Byte
  deriving DecidableEq, Repr

/-- An accumulator tile (R178): elements by 16 × row + column, an unlisted one 0; whether its kind is INT. -/
structure ATile where
  int : Bool
  el : NMap Nat
  deriving DecidableEq, Repr

/-- An engine beside its registers: program counter, index of the instruction before, scalar registers and
vector registers by number (unlisted: 0), predicates, tiles, neve store and its poisoned chunks, instruction
memory (64-bit words) and its length in use, stochastic-rounding source, tags, wait, neighbour stores. -/
structure Eng where
  pc : Nat
  from_ : Nat
  s : NMap Nat
  p : NMap Nat
  v : NMap Nat
  t : NMap ATile
  neve : List Host.Cell
  poison : List Nat
  imem : List Nat
  prog : Nat
  rnd : Nat
  tags : NMap ATag
  wait : Option EWait
  nst : List NStore
  deriving DecidableEq, Repr

/-- How an engine's part in a LAUNCH ended: its fault's cause, status and detail, zeros at a HALT (R190, R191). -/
structure EngEnd where
  cause : Nat
  status : Nat
  detail : Nat
  deriving DecidableEq, Repr

/-- A LAUNCH that holds or awaits its engines: descriptor, its tenant and context, engines launched, whether
they are held, whether they have been loaded, and how each engine that has ended did so. -/
structure Launch where
  ch : Nat
  idx : Nat
  tenant : Nat
  ctx : Nat
  engines : List Nat
  held : Bool
  loaded : Bool
  ends : NMap EngEnd
  deriving DecidableEq, Repr

/-- The engines by number, the launches, semaphore waiters by cirque × 32 + semaphore in arrival order (engine,
n), and the tenant of each cirque's last LAUNCH. -/
structure EngUnit where
  engs : NMap Eng
  launches : List Launch
  semQ : NMap (List (Nat × Nat))
  lastTen : NMap Nat
  deriving DecidableEq, Repr

/-! Psiop links (chapter 13). -/

/-- A packet held until every graupel of it is acknowledged (R258, R262): its class, first SEQ and graupels. -/
structure TxPkt where
  pkt : Pkt
  cls : Nat
  seq : Nat
  k : Nat
  deriving DecidableEq, Repr

/-- A packet being received: its class and the bytes so far. -/
structure RxOpen where
  cls : Nat
  bytes : List Byte
  deriving DecidableEq, Repr

/-- A port's link layer beside its registers. `step` is the step of Table 13.10 (0 when none runs), `began` the rack
time its attempt started, `trained` the lanes that trained, `partner` the lanes, speed and width of the partner's PARAM,
`fails` attempts failed in a row; `buf` the replay buffer, `timer` when the replay timer started, `replays` the rack times
of replay events; by class: `alloc` receive slots, `used` credits consumed and not returned, `seen`, `ret`, `occ` slots
taken and not yet passed on; `sincePub` and `oldest` what is accepted and not published; `good` the last good graupel;
`idleAt` when the lanes went idle after a link down that retrains; `sentInit` the last INIT; `gotInit`, `gotAck` step 6;
`sleepReq`, `sleepSent` and `waking` R269; `replay` the SEQ that a replay in progress resends next (R263); `mask`, `minW`, `speed` the settings this reset took; `cr` which classes the next header returns; `out` the graupels that the last event put on
the lanes. -/
structure LnkPort where
  step : Nat
  began : Nat
  trained : Nat
  partner : Option (Nat × Nat × Nat)
  fails : Nat
  buf : List TxPkt
  timer : Nat
  replays : List Nat
  alloc : List Nat
  used : List Nat
  seen : List Nat
  ret : List Nat
  occ : List Nat
  rx : Option RxOpen
  sincePub : Nat
  oldest : Option Nat
  good : Nat
  idleAt : Option Nat
  sentInit : Nat
  gotInit : Bool
  gotAck : Bool
  sleepReq : Bool
  sleepSent : Bool
  waking : Option Nat
  replay : Option Nat
  mask : Nat
  minW : Nat
  speed : Nat
  cr : Nat
  out : List (List Byte)
  deriving DecidableEq, Repr

/-- The links, by port. -/
structure LnkUnit where
  ports : NMap LnkPort
  deriving DecidableEq, Repr

/-! The floe switch (chapter 14). -/

/-- What one of this node's own requests is for, so that its reply goes home (R274, R282). -/
inductive Purpose where
  | mirror (id : Nat)
  | fetch (acc line : Nat)
  | engine (e tag part : Nat)
  | tile (c slot tile : Nat)
  | place (page line : Nat)
  | writeBack (line : Nat)
  | parent (group chunk : Nat)
  | gather (group chunk index : Nat)
  | snoop (line : Nat)
  | mgmt
  deriving DecidableEq, Repr

/-- A request of this node that waits for its reply (R282). -/
structure OwnReq where
  pkt : Pkt
  sent : Nat
  tries : Nat
  purpose : Purpose
  deriving DecidableEq, Repr

/-- The status of a first delivery, kept 200 µs for duplicates (R282). -/
structure FirstStatus where
  domain : Nat
  psn : Nat
  tag : Nat
  status : Nat
  time : Nat
  deriving DecidableEq, Repr

/-- The outcome of a coherence transaction, kept 200 µs for duplicates (R282). -/
structure CohOutcome where
  domain : Nat
  psn : Nat
  replies : List Pkt
  time : Nat
  deriving DecidableEq, Repr

/-- A group record (Table 14.6); `expect` lists the contributor indices whose EXPECT bit is set. -/
structure Group where
  kind : Nat
  op : Nat
  fmt : Nat
  tenant : Nat
  slots : Nat
  root : Bool
  rootAgent : Nat
  parentIndex : Nat
  engBase : Nat
  chunkBytes : Nat
  timeout : Nat
  gatherAgent : Nat
  gatherAddr : Nat
  expect : List Nat
  deriving DecidableEq, Repr

/-- A contribution taken (R289): who sent it, so that the result goes back. -/
structure Taken where
  index : Nat
  pkt : Pkt
  deriving DecidableEq, Repr

/-- A chunk in progress (R289): chunk number, its combined FP32 elements, contributors taken, the format or poison
anomaly of Table 14.7, its start, whether a non-root waits for its parent, WRs of a gather not yet acknowledged. -/
structure Chunk where
  chunk : Nat
  acc : List Nat
  taken : List Taken
  bad : Bool
  began : Nat
  sent : Bool
  writing : List Nat
  deriving DecidableEq, Repr

/-- A packet the switch holds: its input port, the rack time of its acceptance, whether the ingress rules have been
applied to it, since when no usable port has been found (R276), the class it came in and the receive slots it holds until
it leaves for the next hop (R264, R271). -/
structure QPkt where
  pkt : Pkt
  port : Nat
  at_ : Nat
  seen : Bool
  noRoute : Option Nat
  cls : Nat
  slots : Nat
  deriving DecidableEq, Repr

/-- The switch: packets its units have handed over, PSN counters by destination × 8 + domain, this node's
outstanding requests by destination × 4,096 + tag and those that wait for a tag (R279), snoops not yet
answered, first-delivery statuses and coherence outcomes by source; packets at the
inputs (`inq`), at the outputs by 8 × port + class (`outq`), and selected for an external port (`sel`); routing tables by
4,096 × table + agent and their rotation pointers; the reorder state of R280 by 8 × source + domain: EXPECT, held packets,
skipped PSNs, and whether a source's first packet sets EXPECT (R344); incarnations by source (R281); when ENABLE was
set. -/
structure FabUnit where
  tx : List Pkt
  inq : List QPkt
  outq : NMap (List QPkt)
  sel : NMap QPkt
  rt : NMap Nat
  rot : NMap Nat
  expect : NMap Nat
  held : List QPkt
  skipped : NMap (List Nat)
  adopt : Bool
  incs : NMap Nat
  enabledAt : Nat
  psn : NMap Nat
  reqs : NMap OwnReq
  waitTag : List (Pkt × Purpose)
  snoops : List OwnReq
  first : NMap (List FirstStatus)
  coh : NMap (List CohOutcome)
  groups : NMap Group
  chunks : NMap Chunk
  deriving DecidableEq, Repr

/-! Scheduling, shaping and policing (chapter 15). -/

/-- A queue's tags (R297), whether it was backlogged when last looked at, and the server it stands at. -/
structure QTag where
  start : Nat
  finish : Nat
  backlogged : Bool
  level : Nat
  deriving DecidableEq, Repr

/-- A policer's parameters in force (R303). -/
structure Policer where
  algo : Nat
  aware : Bool
  cir : Nat
  cbs : Nat
  pir : Nat
  ebs : Nat
  deriving DecidableEq, Repr

/-- Schedulers: virtual time of each PRIORITY level and of each output port (4 + port), tags of channels by
number and of output classes by 4,096 + 8 × port + class; shaper rate and burst in force by channel, and by
4,096 + port; policers in force by channel, and by 4,096 + tenant policer; channels deferred until the next
refill; histogram bins by 65,536 × KIND + channel, or
+ 8 × port + class (Tables 15.2, 15.3, 15.8); rack time of the last refills and sample. -/
structure QosUnit where
  vt : NMap Nat
  tags : NMap QTag
  shape : NMap (Nat × Nat)
  police : NMap Policer
  deferred : List Nat
  hist : NMap (NMap Nat)
  shapedAt : Nat
  policedAt : Nat
  sampledAt : Nat
  deriving DecidableEq, Repr

/-! Tenants and keys (chapter 16). -/

/-- Tenant states (Table 16.1). -/
inductive TenSt where
  | none | keyless | live | resetting | fenced | drained | erased
  deriving DecidableEq, Repr

/-- The STATE codes of Table 16.1. -/
def TenSt.code : TenSt → Nat
  | .none => 0 | .keyless => 1 | .live => 2 | .resetting => 3 | .fenced => 4 | .drained => 5 | .erased => 6

/-- A rack tenant's record on this node (R311). -/
structure TenRec where
  st : TenSt
  slot : Nat
  cur : Nat
  floor : Nat
  deriving DecidableEq, Repr

/-- A PURGE sent for a removal (Table 16.7 step 4): the holders that have not acknowledged, by node, when it was
last sent, and whether step 7 has run. -/
structure Purge where
  waits : List Nat
  sent : Nat
  ended : Bool
  deriving DecidableEq, Repr

/-- A PURGE taken as a holder (R328): the owner's agent and node, and the frames still to be scrubbed. -/
structure PurgeDue where
  agent : Nat
  node : Nat
  tenant : Nat
  frames : List FrameId
  deriving DecidableEq, Repr

/-- An SPDM session (R421, Table 22.5): whether FINISH has completed it; its nonce's four words once drawn; its copies
of GLB_AUTH_KEY and GLB_AUTH_SIG; STATUS and ADMIN; failed PROVEs; when it was last heard of. -/
structure Session where
  up : Bool
  nonce : Option (List Nat)
  key : NMap Nat
  sig : NMap Nat
  status : Nat
  admin : Bool
  fails : Nat
  heard : Nat
  deriving DecidableEq, Repr

/-- The security engine: tenant records and the agent map by number, RACK_TENANT of map entries that are not VALID,
tenant keys, removals' PURGEs by tenant, PURGEs taken, SPDM sessions by session ID and the last ID given. -/
structure SecUnit where
  tenants : NMap TenRec
  agents : NMap Nat
  idleMap : NMap Nat
  keys : NMap (List Byte)
  purges : NMap Purge
  purgeDue : List PurgeDue
  sess : NMap Session
  lastSess : Nat
  deriving DecidableEq, Repr

/-! Mirror pair and ownership (chapter 17). -/

/-- What a mirrored write completes once the standby has committed it (R335). -/
inductive HeldFor where
  | reply (p : Pkt) (gen : Nat)
  | acc (id gen dom : Nat)
  | engine (e tag : Nat)
  | tile (c slot tile : Nat)
  | nobody
  deriving DecidableEq, Repr

/-- A mirrored write waiting for the PL_ACKs of its lines: its first byte, how many are still due, since when. -/
structure Held where
  off : Nat
  len : Nat
  due : Nat
  since : Nat
  forWhom : HeldFor
  deriving DecidableEq, Repr

/-- A bound ownership slot (R349): the state, its extent and pages, its range as offset and bytes, the home's agent,
the token's last generation, whether this node holds it, and whether the home last reported it HANDING. -/
structure OwnSlot where
  stateId : Nat
  extent : Nat
  first : Nat
  count : Nat
  base : Nat
  bytes : Nat
  home : Nat
  gen : Nat
  hold : Bool
  handing : Bool
  deriving DecidableEq, Repr

/-- The ownership requests of R349 and R350. -/
inductive OwnKind where
  | query | transfer | claim
  deriving DecidableEq, Repr

/-- An ownership request not yet answered (R350): TARGET_AGENT of a transfer, the accesses it must first see
drained, and when it was last sent. -/
structure OwnMsg where
  kind : OwnKind
  target : Nat
  waits : List Nat
  sent : Option Nat
  deriving DecidableEq, Repr

/-- The mirror unit: held writes; ownership slots, staged MIR_OWN registers by 4 × slot + n, unanswered requests by
slot, and home records by STATE_ID; a standby's ciphertext by line; on the serving node, whether the peer is STANDBY,
the next line of a resync, TIMEs of RENEWs not granted, when RENEW was last sent, whether SOLO was asked for, when the
self-fence began, the compare's last block and the blocks it takes next; on a standby, the last sign of the peer, the
last PL_WR or HEARTBEAT sent, the last TAKEOVER_REQ, whether a DENY ended them; and the OPCODE of a FORM that waits for what its pair node does. -/
structure MirUnit where
  held : NMap Held
  nextHeld : Nat
  slots : NMap OwnSlot
  staged : NMap Nat
  msgs : NMap OwnMsg
  recs : NMap PeerTok
  cipher : NMap CLine
  synced : Bool
  copyPos : Option Nat
  renewals : List Nat
  renewAt : Nat
  soloAsked : Bool
  fencedAt : Option Nat
  cmpPos : Nat
  cmpNext : List Nat
  peerSeen : Nat
  beatAt : Nat
  takeAt : Nat
  denied : Bool
  forming : Nat
  deriving DecidableEq, Repr

/-! Errors (chapter 18). -/

/-- An error record, event entry or snapshot entry (Table 18.2). `kind`: 0 error, 1 event, 2 snapshot. -/
structure ErrRec where
  seq : Nat
  time : Nat
  cls : Nat
  tenant : Option Nat
  addr : Option Nat
  kind : Nat
  depth : Nat
  unitType : Nat
  status : Nat
  unitIndex : Nat
  cause : Nat
  agent : Nat
  parent : Nat
  info : Nat
  count : Nat
  deriving DecidableEq, Repr

/-- An open recovery (R356): its unit and the SEQ of the record that opened it. -/
structure Recovery where
  unitType : Nat
  unitIndex : Nat
  seq : Nat
  deriving DecidableEq, Repr

/-- A retention record of a remote atomic (R360). -/
structure Retained where
  tag : Nat
  psn : Nat
  domain : Nat
  status : Nat
  value : Option Nat
  time : Nat
  deriving DecidableEq, Repr

/-- The error unit and the moraine log: ring by slot, unit logs by type × 65,536 + index (newest first),
moraine entries by index, entries left before a triggered freeze, open recoveries (newest first),
retention tables by source agent (oldest first), retries that wait for the end of the request they repeat (R282, R362), when an automatic reset falls due, how far a device-fatal stop has run, the units taken offline, and the sideband's own
ERR_VIEW_SEL and ERR_VIEW (R426). -/
structure ErrUnit where
  ring : NMap ErrRec
  logs : NMap (List ErrRec)
  moraine : NMap ErrRec
  postLeft : Option Nat
  openRecs : List Recovery
  retention : NMap (List Retained)
  waitDup : List Pkt
  resetDue : Option Nat
  stopStep : Nat
  offline : List Nat
  sbSel : Nat
  sbView : List Nat
  deriving DecidableEq, Repr

/-! Trace, counters and snapshot (chapter 19). -/

/-- A trace record (Table 19.1). -/
structure TraceRec where
  time : Nat
  type : Nat
  unitType : Nat
  unitIndex : Nat
  tenant : Option Nat
  arg0 : Nat
  arg1 : Nat
  deriving DecidableEq, Repr

/-- A source's queue of 64 records (R373), and what it has dropped since: count and first time. -/
structure TraceSrc where
  queue : List TraceRec
  drops : Nat
  firstDrop : Nat
  deriving DecidableEq, Repr

/-- The trace facility: source queues by unit type × 65,536 + index; operation counters (R377) by engine, by
rack tenant, and for the node; records still to be written before the buffer freezes (R375), records that STREAM has
sent, snapshot entries latched and not yet written, with the pool offset they go to or none for the moraine log (R379), and the rack time at which a domain of
Table 19.4 stopped. -/
structure DbgUnit where
  srcs : NMap TraceSrc
  engCnt : NMap (NMap Nat)
  tenCnt : NMap (NMap Nat)
  nodeCnt : NMap Nat
  postLeft : Nat
  streamed : Nat
  snap : List ErrRec
  snapTo : Option Nat
  stopped : NMap Nat
  deriving DecidableEq, Repr

/-! Clocks, reset and power (chapter 20). -/

/-- The clock and power unit. Timing inputs: the rack time since which each input has been free of loss conditions, the
last difference of its codes from the counter (two's complement, 64 bits), differences of the active input's last
mismatching codes (R384), ns still to slew. `bothLost` is when both inputs were lost, `stopped` that the frost group has
stopped (R385), `memHeld` that the memories are in self-refresh. `pll` lists the PHY PLLs in lock by 256 × kind + unit
(kind 1 HBM, 2 DDR5, 3 SerDes port, 4 Ethernet). `quietFrom` is since when the node has been quiescent (R392). `pinLow` says that RST_IN_N is low,
`hot` that a thermal trip holds start-up at step 1 (R443),
`latched` the kind of a reset asked for while the frost group is stopped (R385). -/
structure ClkUnit where
  goodFrom : NMap Nat
  diff : NMap Nat
  misses : List Nat
  slew : Nat
  bothLost : Option Nat
  stopped : Bool
  memHeld : Bool
  pll : List Nat
  quietFrom : Nat
  pinLow : Bool
  hot : Bool
  latched : Option Nat
  deriving DecidableEq, Repr

/-! The management complex (chapter 21). -/

/-- A firmware image that has been verified (R324): its SVN and its SHA-256. -/
structure Image where
  svn : Nat
  digest : List Byte
  deriving DecidableEq, Repr

/-- A host fetch in progress (R406): bytes so far, TOTAL once known, when it last advanced, frames of the last request
still to come. -/
structure Fetch where
  got : List Byte
  total : Option Nat
  at_ : Nat
  left : Nat
  deriving DecidableEq, Repr

/-- A mailbox response kept for a repeated TAG (R403). -/
structure MboxKept where
  agent : Option Nat
  sess : Option Nat
  tag : Nat
  time : Nat
  resp : List Byte
  deriving DecidableEq, Repr

/-- What waits for a Deep node to wake (R391): a mailbox request, or a core's write. -/
inductive Waiting where
  | mbox (r : MboxReq)
  | write (path : Path) (off : Nat) (v : Word64)
  deriving DecidableEq, Repr

/-- A meter (R409): TIME_START, ns of activity, engine ns, the tenant's MACS and BYTES counts when it was bound, granule
ns held, whether the frost group stopped since its last report. -/
structure Meter where
  start : Nat
  active : Nat
  engine : Nat
  macs0 : Nat
  bytes0 : Nat
  held : Nat
  gap : Bool
  deriving DecidableEq, Repr

/-- A usage report built and not yet sent (Table 21.7): slot, GAP, FINAL, COMP_ID, TIME_START, TIME_END, RACK_TENANT, the
five counts. -/
structure Report where
  slot : Nat
  gap : Bool
  final : Bool
  comp : Nat
  start : Nat
  stop : Nat
  tenant : Nat
  counts : List Nat
  deriving DecidableEq, Repr

/-- The management complex: the watchdog's last kick; the step of Table 21.1 that runs (0: none), when its image was
started and whether that image came from the host after BOOT_LIMIT; the image in the slot; a host fetch; images in force by type, the image a
unit update puts in and the units that still wait for it; ETHERNET frames sent, as destination MAC and bytes; mailbox responses kept and
accesses that wait for a wake; PENDING as last notified and when (R402), when OWNER was last asked for; meters by slot,
the rack time of the last multiple of REPORT_S reported, reports that wait for a restart to end, when the complex last went down and came
back; the sideband's I3C address, whether it fell back to SMBus, its in-band interrupts and the word of its last READ; the user offsets in
force; the end of the pause in which a channel loads its image. -/
structure MgtUnit where
  kicked : Nat
  step : Nat
  started : Nat
  refetched : Bool
  slot : Option (List Byte)
  fetch : Option Fetch
  images : NMap Image
  next : Option (Nat × Image)
  units : List Nat
  eth : List (Nat × List Byte)
  kept : List MboxKept
  waits : List Waiting
  told : Nat
  toldAt : Option Nat
  asked : Option Nat
  meters : NMap Meter
  reported : Nat
  due : List Report
  downAt : Nat
  upAt : Nat
  i3c : Option Nat
  smbus : Bool
  ibi : List Nat
  sbData : Nat
  calIn : NMap Nat
  loadEnd : Nat
  deriving DecidableEq, Repr

/-! Pins, power and temperature (chapter 23). -/

/-- The TAP (R444): instruction, boundary register, and pins captured. -/
structure Tap where
  ir : Nat
  bound : List Bool
  captured : List Bool
  deriving DecidableEq, Repr

/-- The board side: PWR_GOOD, and since when it is high; the last 100 power samples of 100 µs in watts, newest first; the power limit n
of R438; the last samples of the 64 sensors in quarters of a degree, steps in force for the junction and by stack
(R442), and since when a sensor has been at its trip value (R443); when power and sensors were last read; the TAP. -/
structure BrdUnit where
  pwrGood : Bool
  goodAt : Nat
  power : List Nat
  limit : Nat
  temps : List Int
  jStep : Nat
  hStep : NMap Nat
  tripFrom : Option Nat
  governed : Nat
  sampled : Nat
  tap : Tap
  deriving DecidableEq, Repr

/-! The network-on-chip (chapter 01). -/

/-- A packet that waits in a router's request plane (R16, R60): the tile it comes from, its home tile, its bytes, since
when, and the line of an engine's request that it carries. -/
structure NocPkt where
  src : Nat
  dst : Nat
  bytes : Nat
  since : Nat
  eng : Nat
  tag : Nat
  pos : Nat
  deriving DecidableEq, Repr

/-- The tile routers' buffers, by 2 × router + plane (0 request, 1 reply); an empty one is unlisted. -/
structure NocUnit where
  bufs : NMap (List NocPkt)
  deriving DecidableEq, Repr

/-- The state of the block. -/
structure State where
  /-- Fuses and straps. -/
  dev : Device
  /-- The register bank: field values by key, a field at its reset value unlisted. -/
  regs : NMap Nat
  /-- Pool memory by node-local offset (plaintext, R15); an unlisted byte reads 0 (R29). -/
  mem : List Host.Cell
  /-- Poisoned 64-byte chunks (offset div 64), rising (R90). -/
  poison : List Nat
  /-- Extents and leases. -/
  ext : ExtUnit
  /-- Regions, directory, posted writes. -/
  dir : DirUnit
  /-- Tile routers. -/
  noc : NocUnit
  /-- Memory controllers, retirement, DIMMs. -/
  mch : MemTiers
  /-- Frame map and moves. -/
  plc : PlcUnit
  /-- Translation contexts, invalidation, counters. -/
  xlt : XltUnit
  /-- Links. -/
  lnk : LnkUnit
  /-- Switch. -/
  fab : FabUnit
  /-- Tenants, agent map, keys. -/
  sec : SecUnit
  /-- Channels and descriptors. -/
  chn : ChnUnit
  /-- Engines and cirques. -/
  eng : EngUnit
  /-- Schedulers, shapers, policers, histograms. -/
  qos : QosUnit
  /-- Mirror pair. -/
  mir : MirUnit
  /-- Error logs, recoveries, atomic retention. -/
  err : ErrUnit
  /-- Trace, counters, snapshot. -/
  dbg : DbgUnit
  /-- Timing inputs, reset and power states. -/
  clk : ClkUnit
  /-- Management complex. -/
  mgt : MgtUnit
  /-- Pins, power and temperature. -/
  brd : BrdUnit
  /-- The model's own count of free values taken (no state of the spec; log entry 2). -/
  fresh : Nat
  /-- Commands waiting, first in first out. -/
  pending : List Instr
  deriving DecidableEq, Repr

/-- Reasons a step faults: none is left in this model. -/
inductive Fault where
  /-- Raised by nothing: kept so that the type is not empty; safe. -/
  | none
  deriving DecidableEq, Repr

/-- Reasons a step refuses. -/
inductive Refusal where
  /-- Raised by an arm of exec whose meaning is not written; safe: the step stops. -/
  | notModelled (mnemonic : String)
  deriving DecidableEq, Repr

/-- The device of State.reset: an HLD-1606 (DESIGN CHOICE, log entry 1: the spec covers five parts and
fuses the choice; every statement about every state covers all five). -/
def Device.default : Device :=
  { part := .hld1606, stepMajor := 0xa, stepMinor := 0, serial := 1, mac := 0, lifecycle := 1,
    idHash := [], svnSerdes := 0, svnDdr5 := 0, svnHbm := 0, svnMicrocode := 0, svnMgmt := 0,
    trayPos := 0, smbAddr := 0 }

/-- The state right after a cold reset: every register field at its Reset column (R428), every table and
queue empty, no command waiting. -/
def State.reset : State where
  dev := Device.default
  regs := []
  mem := []
  poison := []
  ext := { table := [], leases := [], inflight := [], leaving := [], scrubQ := [], revokeWait := none }
  dir := { regions := [], entries := [], holds := [], txns := [], accs := [], nextAcc := 1, allocCtr := 0, sweepAgents := [], sweepEnd := 0, lost := [], pubs := [], posted := [], flushes := [], nextTag := 0, lostDue := [] }
  noc := { bufs := [] }
  mch := { ctl := [], retireQ := [], retiring := [], dimm := [], formDiv := [], hbmForm := [], setForm := [], drains := [], restoring := [], corr := [], parity := [], reissue := [], scrubPos := [], scrubFrom := [], rewrite := [], pieces := [] }
  plc := { map := [], promQ := [], cold := [], moves := [], scrub := [], fills := [], filled := [], lodgedIn := [], lodgedMem := [], lost := [], returns := [], asked := [], cmd := .none, lastDecay := 0, budget := [], sampleTime := 0, sampleCnt := 0, samples := [], drawn := 0, swap := none, notices := [], silent := [] }
  xlt := { ctxs := [], change := none, cache := [], counters := [], hotQ := [], lastEpoch := 0 }
  lnk := { ports := [] }
  fab := { tx := [], inq := [], outq := [], sel := [], rt := [], rot := [], expect := [], held := [], skipped := [], adopt := false, incs := [], enabledAt := 0, psn := [], reqs := [], waitTag := [], snoops := [], first := [], coh := [], groups := [], chunks := [] }
  sec := { tenants := [], agents := [], idleMap := [], keys := [], purges := [], purgeDue := [], sess := [], lastSess := 0 }
  chn := { chans := [], cache := [], bells := [], sel := none }
  eng := { engs := [], launches := [], semQ := [], lastTen := [] }
  qos := { vt := [], tags := [], shape := [], police := [], deferred := [], hist := [], shapedAt := 0, policedAt := 0, sampledAt := 0 }
  mir := { held := [], nextHeld := 1, slots := [], staged := [], msgs := [], recs := [], cipher := [], synced := false, copyPos := none, renewals := [], renewAt := 0, soloAsked := false, fencedAt := none, cmpPos := 0, cmpNext := [], peerSeen := 0, beatAt := 0, takeAt := 0, denied := false, forming := 0 }
  err := { ring := [], logs := [], moraine := [], postLeft := none, openRecs := [], retention := [], waitDup := [], resetDue := none, stopStep := 0, offline := [], sbSel := 0, sbView := [] }
  dbg := { srcs := [], engCnt := [], tenCnt := [], nodeCnt := [], postLeft := 0, streamed := 0, snap := [], snapTo := none, stopped := [] }
  clk := { goodFrom := [], diff := [], misses := [], slew := 0, bothLost := none, stopped := false, memHeld := false, pll := [], quietFrom := 0, pinLow := false, hot := false, latched := none }
  mgt := { kicked := 0, step := 0, started := 0, refetched := false, slot := none, fetch := none, images := [], next := none, units := [], eth := [], kept := [], waits := [], told := 0, toldAt := none, asked := none, meters := [], reported := 0, due := [], downAt := 0, upAt := 0, i3c := none, smbus := false, ibi := [], sbData := 0, calIn := [], loadEnd := 0 }
  brd := { pwrGood := true, goodAt := 0, power := [], limit := 8, temps := [], jStep := 0, hStep := [], tripFrom := none, governed := 0, sampled := 0, tap := { ir := 0xff, bound := [], captured := [] } }
  fresh := 0
  pending := []

end Sys2Proof.Machine
end

