-- ==== Sys2Proof/Machine/Ops.lean ====
section
/-! DEFINITION. The named operations over registers, rack time, free values, outgoing packets and trace
sources, which every meaning is written over. -/

namespace Sys2Proof.Machine

open Reg

/-- Status codes of Table 0.8 (R8). -/
abbrev stOK : Nat := 0x00
abbrev stPartial : Nat := 0x01
abbrev stDuplicate : Nat := 0x02
abbrev stXlate : Nat := 0x10
abbrev stRevoked : Nat := 0x11
abbrev stPermission : Nat := 0x12
abbrev stConflict : Nat := 0x13
abbrev stNotOwner : Nat := 0x14
abbrev stPoisoned : Nat := 0x20
abbrev stUncertain : Nat := 0x21
abbrev stFenced : Nat := 0x30
abbrev stEpoch : Nat := 0x31
abbrev stAborted : Nat := 0x32
abbrev stDevErr : Nat := 0x3f

/-- The value of a register field (R7, R428: its reset value until something changes it). -/
def State.get (s : State) (f : Fld) : Nat := NMap.getD s.regs f.key (f.reset s.dev)

/-- The state with a register field set to `v`, cut to the field's width. A value equal to the reset value
is not listed, so that equal banks are equal data. -/
def State.put (s : State) (f : Fld) (v : Nat) : State :=
  let v := v % 2 ^ f.width
  { s with regs := if v = f.reset s.dev then NMap.erase s.regs f.key else NMap.insert s.regs f.key v }

/-- Whether a field reads nonzero. -/
def State.flag (s : State) (f : Fld) : Bool := s.get f != 0

/-- A field counted up by `d`, saturating (the RC counters of the register tables). -/
def State.count (s : State) (f : Fld) (d : Nat) : State := s.put f (satAdd f.top (s.get f) d)

/-- A field raised by `d` modulo its width. -/
def State.bump (s : State) (f : Fld) (d : Nat) : State := s.put f (s.get f + d)

/-- The PENDING bit of the block that a control-space offset lies in (Table 21.3). -/
def notifyBit (off : Nat) : Nat :=
  if off < 0x20000 then 0 else if off < 0x100000 then 1
  else if off < 0x200000 then 2 else if off < 0x300000 then 3
  else if off < 0x400000 then 4 else if off < 0x500000 then 5
  else if off < 0x580000 then 6 else if off < 0x600000 then 7
  else if off < 0x800000 then 8 else if off < 0x900000 then 9
  else if off < 0xA00000 then 10 else if off < 0xB00000 then 11
  else if off < 0xC00000 then 12 else if off < 0xD00000 then 13
  else if off < 0xE00000 then 14 else if off < 0xF00000 then 15 else 16

/-- PENDING with one more bit set (R402). -/
def State.notify (s : State) (b : Nat) : State :=
  s.put MGT_NOTIFY_PENDING (Nat.lor (s.get MGT_NOTIFY_PENDING) (2 ^ b))

/-- An event bit set; PENDING follows when it goes from 0 to 1 (R402). -/
def State.raise (s : State) (f : Fld) : State :=
  if s.get f = 0 then (s.put f 1).notify (notifyBit f.off) else s

/-- A register's value: its fields in their places. -/
def regVal (s : State) (fs : List Fld) : Nat := fs.foldl (fun v f => v + s.get f * 2 ^ f.lo) 0

/-- The value that a register write gives to a field. -/
def Fld.of (f : Fld) (v : Nat) : Nat := bits v f.hi f.lo

/-- One field of a register write, under its access type (R7, R424): a value outside the stated range is not stored. -/
def State.wrField (s : State) (v : Nat) (f : Fld) : State :=
  match f.acc with
  | .rw | .rws => if f.rng.ok (f.of v) then s.put f (f.of v) else s
  | .w1c => if f.of v = 0 then s else s.put f (Nat.xor (s.get f) (Nat.land (s.get f) (f.of v)))
  | _ => s

/-- A register write, every field at one instant (R424). -/
def State.wrFields (s : State) (fs : List Fld) (v : Nat) : State := fs.foldl (fun s f => s.wrField v f) s

/-- Whether the admission points admit nothing and no unit takes up work: a device-fatal error (R364), or both timing
inputs lost (R385). -/
def shut (s : State) : Bool := s.flag ERR_STATUS_DEVICE_FATAL || s.clk.bothLost.isSome

/-- Rack time, ns. -/
def State.now (s : State) : Nat := s.get CLK_RACK_TIME

/-- The next free value's number, and the state that has taken it (log entry 2). -/
def State.take (s : State) : Nat × State := (s.fresh, { s with fresh := s.fresh + 1 })

/-- A packet handed by a unit of this node to the switch. -/
def State.send (s : State) (p : Pkt) : State := { s with fab := { s.fab with tx := s.fab.tx ++ [p] } }

/-- This node's number and agent. -/
def State.node (s : State) : Nat := s.get EXT_CFG_NODE_ID
def State.self (s : State) : Nat := s.get FAB_CFG_SELF_AGENT

/-- The header that a reply to `q` starts from: it goes back to the source with the request's tag, class
and tenant; PSN 0, green, the transmit epoch of this node's sources (R273, R279, R284, R296). -/
def replyTo (s : State) (q : Pkt) (op st : Nat) : Pkt :=
  { Pkt.zero with
    opcode := op, status := st, mclass := q.mclass, domain := q.domain,
    tblEpoch := s.get FAB_CFG_TX_EPOCH, src := q.dst, dst := q.src, tenant := q.tenant, tag := q.tag,
    addr := q.addr, svcEpoch := q.svcEpoch, tenEpoch := q.tenEpoch,
    poison := st == stPoisoned }

/-- A packet of this node to an agent (R279, R281, R284 stamp it when the switch takes it). -/
def request (s : State) (op mclass dst tenant : Nat) : Pkt :=
  { Pkt.zero with
    opcode := op, mclass := mclass, src := s.self, dst := dst, tenant := tenant,
    tblEpoch := s.get FAB_CFG_TX_EPOCH, srcInc := s.get FAB_CFG_INCARN }

/-- The key of a unit: type and index of Table 18.3. -/
def unitKey (t i : Nat) : Nat := t * 65536 + i

/-- Whether a record type is written: types 0x01 to 0x0B by their EVENTS bit, 0x0C to 0x0E always, and
nothing while MODE is 0 (R370, R372). EVENTS holds register bits [43:33], bit n − 1 for TYPE n. -/
def traceOn (s : State) (ty : Nat) : Bool :=
  s.get DBG_TCFG_MODE != 0 && (12 ≤ ty || bit (s.get DBG_TCFG_EVENTS) (ty - 1))

/-- A record put into its source's queue; a full queue drops it and counts it (R373). -/
def State.trace (s : State) (r : TraceRec) : State :=
  if traceOn s r.type then
    let k := unitKey r.unitType r.unitIndex
    let q := NMap.getD s.dbg.srcs k { queue := [], drops := 0, firstDrop := 0 }
    if q.drops = 0 ∧ q.queue.length < 64 then
      { s with dbg := { s.dbg with srcs := NMap.insert s.dbg.srcs k { q with queue := q.queue ++ [r] } } }
    else
      let q' := { q with drops := q.drops + 1, firstDrop := if q.drops = 0 then r.time else q.firstDrop }
      { s with dbg := { s.dbg with srcs := NMap.insert s.dbg.srcs k q' } }.count DBG_TSTAT_SOURCE_DROPS 1
  else s

/-- A user calibration offset comes into force (R408). -/
def State.applyCal (s : State) (id : Nat) : State :=
  { s with mgt := { s.mgt with calIn := NMap.insert s.mgt.calIn id (s.get (MGT_CAL_VIEW_USER id)) } }

/-- The end of a register command: STATUS, DETAIL and BUSY of its block (R424). -/
def State.endCmd (s : State) (stF deF : Fld) (st de : Nat) : State := (s.put stF st).put deF de

/-- A list of states' changes applied in order. -/
def State.foldl {α : Type} (s : State) (f : State → α → State) (l : List α) : State := l.foldl f s

end Sys2Proof.Machine
end

