-- ==== Sys2Proof/Machine/Errors.lean ====
section
/-! DEFINITION. Writing an error record: its place in the ring, the unit log and the moraine log, merging,
nesting, escalation and taking a unit offline (R353 to R359, R365, R451). -/

namespace Sys2Proof.Machine

open Reg

/-- What a detecting unit says of an error (Table 18.2); the error unit adds the rest. -/
structure ErrIn where
  cls : Nat
  unitType : Nat
  unitIndex : Nat
  cause : Nat
  status : Nat
  tenant : Option Nat
  agent : Nat
  addr : Option Nat
  info : Nat
  deriving DecidableEq, Repr

/-- Unit types of Table 18.3. -/
abbrev utEngine : Nat := 0x01
abbrev utChannel : Nat := 0x02
abbrev utPc : Nat := 0x03
abbrev utRank : Nat := 0x04
abbrev utDdrChannel : Nat := 0x05
abbrev utPort : Nat := 0x06
abbrev utDir : Nat := 0x07
abbrev utRime : Nat := 0x08
abbrev utMover : Nat := 0x0a
abbrev utSwitch : Nat := 0x0b
abbrev utMgmt : Nat := 0x0d
abbrev utIcefall : Nat := 0x0f
abbrev utIoDie : Nat := 0x10
abbrev utAon : Nat := 0x11
abbrev utClocks : Nat := 0x12
abbrev utExtent : Nat := 0x13

/-- Unit types whose "Recovery open while" entry is "—": they open no recovery (R356). -/
def noRecovery (t : Nat) : Bool := [0x09, 0x0b, 0x0c, 0x0e, 0x10, 0x11, 0x12, 0x13].contains t

/-- Unit types that Table 18.3 marks device-fatal when taken offline. -/
def offlineFatal (t : Nat) : Bool := [0x07, 0x08, 0x09, 0x0a, 0x0b, 0x0c, 0x0e, 0x11, 0x12, 0x13].contains t

/-- An entry added to the moraine log, unless it is frozen (R365, R366): next index, wrap flag, count of
entries left before a triggered freeze. -/
def State.moraineAdd (s : State) (r : ErrRec) : State :=
  if s.flag ERR_MOR_STATUS_FROZEN ∨ s.err.postLeft = some 0 then s
  else
    let i := if s.err.moraine = [] then 0 else (s.get ERR_MOR_STATUS_NEWEST + 1) % 65536
    let wrapped := s.err.moraine ≠ [] ∧ i = 0
    let s := { s with err := { s.err with
      moraine := NMap.insert s.err.moraine i r
      postLeft := s.err.postLeft.map (· - 1) } }
    let s := s.put ERR_MOR_STATUS_NEWEST i
    if wrapped then s.put ERR_MOR_STATUS_WRAPPED 1 else s

/-- Open recoveries, as ERR_STATUS shows them (0 to 8). -/
def State.showOpen (s : State) : State := s.put ERR_STATUS_OPEN (min 8 s.err.openRecs.length)

/-- The depth and parent that a record written now carries (R356). -/
def depthNow (s : State) : Nat := min 7 s.err.openRecs.length
def parentNow (s : State) : Nat :=
  match s.err.openRecs with
  | [] => 0
  | r :: _ => r.seq % 2 ^ 32

/-- DEPTH_SAT set where the nesting count has saturated (R356). -/
def State.depthSat (s : State) : State :=
  if 7 ≤ s.err.openRecs.length then s.raise ERR_EVENT_DEPTH_SAT else s

/-- An event entry, to the moraine log only (R356, R365). -/
def State.event (s : State) (unitType unitIndex cause : Nat) : State :=
  let seq := s.get ERR_SEQ_NEWEST + 1
  let r : ErrRec :=
    { seq := seq, time := s.now, cls := 0, tenant := none, addr := none, kind := 1, depth := depthNow s,
      unitType := unitType, status := 0, unitIndex := unitIndex, cause := cause, agent := 0,
      parent := parentNow s, info := 0, count := 1 }
  (s.put ERR_SEQ_NEWEST seq).moraineAdd r

/-- The close of one recovery: its event entry carries the SEQ it closes in PARENT (R356). -/
def State.closeRec (s : State) (unitType unitIndex : Nat) : State :=
  match s.err.openRecs.find? (fun r => r.unitType = unitType && r.unitIndex = unitIndex) with
  | none => s
  | some rc =>
    let s := { s with err := { s.err with openRecs := s.err.openRecs.erase rc } }
    let seq := s.get ERR_SEQ_NEWEST + 1
    let r : ErrRec :=
      { seq := seq, time := s.now, cls := 0, tenant := none, addr := none, kind := 1, depth := depthNow s,
        unitType := unitType, status := 0, unitIndex := unitIndex, cause := 0, agent := 0,
        parent := rc.seq % 2 ^ 32, info := 0, count := 1 }
    ((s.put ERR_SEQ_NEWEST seq).moraineAdd r).showOpen

/-- Whether a unit has a recovery open. -/
def inRecovery (s : State) (unitType unitIndex : Nat) : Bool :=
  s.err.openRecs.any fun r => r.unitType = unitType && r.unitIndex = unitIndex

/-- A tenant's fault state updated by a record that names it (R316). -/
def State.tenantFault (s : State) (t : Nat) : State :=
  match NMap.find s.sec.tenants t with
  | none => s
  | some r =>
    if r.st = .none then s
    else
      let s := (s.put (TEN_FAULT_FAULT r.slot) 1).count (TEN_FAULT_COUNT r.slot) 1
      (s.raise SEC_EVENT_TENANT_FAULT).put SEC_EVENT_LAST_SLOT r.slot

/-- A record placed: ring, unit log, moraine log, counters, event bits, notification, tenant, trace (R355,
R316, R370). -/
def State.place (s : State) (r : ErrRec) : State :=
  let full := (NMap.find s.err.ring (r.seq % 4096)).isSome
  let k := unitKey r.unitType r.unitIndex
  let s := { s with err := { s.err with
    ring := NMap.insert s.err.ring (r.seq % 4096) r
    logs := NMap.insert s.err.logs k ((r :: NMap.getD s.err.logs k []).take 16) } }
  let s := if full then s.raise ERR_EVENT_RING_OVERWRITE else s.bump ERR_STATUS_RING_COUNT 1
  let s := if 1 ≤ r.cls ∨ s.flag ERR_CFG_MOR_CORR then s.moraineAdd r else s
  let s := if r.cls = 0 then s.count ERR_CNT0_CORRECTED 1
    else if r.cls = 1 then (s.count ERR_CNT0_UNCORR 1).raise ERR_EVENT_UNCORR
    else if r.cls = 2 then (s.count ERR_CNT1_UNIT_FATAL 1).raise ERR_EVENT_UNIT_FATAL
    else s
  let s := if s.get ERR_CFG_NOTIFY_MIN ≤ r.cls then s.notify 14 else s
  let s := match r.tenant with
    | some t => s.tenantFault t
    | none => s
  if s.get DBG_TCFG_ERR_MIN ≤ r.cls then
    s.trace { time := r.time, type := 0x0a, unitType := r.unitType, unitIndex := r.unitIndex,
              tenant := r.tenant, arg0 := r.seq, arg1 := r.cls + 65536 * r.cause }
  else s

/-- A record of `e` written with the next SEQ (R354, R356). -/
def State.write (s : State) (e : ErrIn) : State :=
  let seq := s.get ERR_SEQ_NEWEST + 1
  let s := s.depthSat
  (s.put ERR_SEQ_NEWEST seq).place
    { seq := seq, time := s.now, cls := e.cls, tenant := e.tenant, addr := e.addr, kind := 0,
      depth := depthNow s, unitType := e.unitType, status := e.status, unitIndex := e.unitIndex,
      cause := e.cause, agent := e.agent, parent := parentNow s, info := e.info, count := 1 }

/-- A recovery opened by the newest record (R356). -/
def State.openRec (s : State) (unitType unitIndex : Nat) : State :=
  if noRecovery unitType then s
  else { s with err := { s.err with
    openRecs := ⟨unitType, unitIndex, s.get ERR_SEQ_NEWEST⟩ :: s.err.openRecs } }.showOpen

/-- A device-fatal error: step 1 of Table 18.7. The record goes to the ring and the moraine log. -/
def State.deviceFatal (s : State) (e : ErrIn) : State :=
  (s.write { e with cls := 3 }).put ERR_STATUS_DEVICE_FATAL 1

/-- A DDR5 rank put into its set's retirement queue (R94), unless it already left service. -/
def State.queueUnit (s : State) (q unit : Nat) (stF : Fld) : State :=
  if s.get stF = 0 then
    { s with mch := { s.mch with
      retireQ := NMap.insert s.mch.retireQ q (NMap.getD s.mch.retireQ q [] ++ [unit]) } }.put stF 1
  else s

/-- A DDR5 channel FAILED: its ranks retire under R94 (Table 18.3). -/
def State.failChannel (s : State) (c : Nat) : State :=
  (List.range 4).foldl (fun s r => s.queueUnit (16 + c / 4) (4 * c + r) (MEMD_RANK_STATE c r))
    (s.put (MEMD_STATUS_STATE c) 6)

/-- ENG_STATUS.STATE of an engine at rest follows ENG_CTL.OFFLINE (Table 8.9). -/
def State.showOffline (s : State) (e : Nat) : State :=
  if s.flag (ENG_CTL_OFFLINE e) ∧ s.get (ENG_STATUS_STATE e) = 0 then s.put (ENG_STATUS_STATE e) 5
  else if ¬ s.flag (ENG_CTL_OFFLINE e) ∧ s.get (ENG_STATUS_STATE e) = 5 then s.put (ENG_STATUS_STATE e) 0
  else s

/-- A unit taken offline as Table 18.3 gives (R357). -/
def State.takeOffline (s : State) (unitType unitIndex : Nat) : State :=
  let s := s.closeRec unitType unitIndex
  let s := { s with err := { s.err with offline := unitKey unitType unitIndex :: s.err.offline } }
  let s := (s.count ERR_CNT1_OFFLINE 1).raise ERR_EVENT_UNIT_OFFLINE
  if unitType = 0x01 then (s.put (ENG_CTL_OFFLINE unitIndex) 1).showOffline unitIndex
  else if unitType = 0x05 then s.failChannel unitIndex
  else if unitType = 0x06 then s.put (LNK_STATUS_STATE unitIndex) 5
  else if unitType = 0x0d then s.put MGT_STATUS_STATE 4
  else if unitType = 0x10 then
    let s := s.put PWR_UNIT_IODIE (s.get PWR_UNIT_IODIE - b2n (bit (s.get PWR_UNIT_IODIE) unitIndex) * 2 ^ unitIndex)
    let s := (range' (12 * unitIndex) 12).foldl (fun s p => s.put (LNK_STATUS_STATE p) 5) s
    (range' (4 * unitIndex) 4).foldl (fun s c => s.put (MEMD_STATUS_STATE c) 6) s
  else if offlineFatal unitType then
    s.deviceFatal { cls := 3, unitType := unitType, unitIndex := unitIndex, cause := 0x0009, status := 0,
                    tenant := none, agent := 0, addr := none, info := 0 }
  else s

/-- Whether a corrected record merges into the last corrected record of its unit and CAUSE (R355). -/
def mergesWith (s : State) (e : ErrIn) : Option ErrRec :=
  match (NMap.getD s.err.logs (unitKey e.unitType e.unitIndex) []).find?
      (fun r => r.cls = 0 && r.cause = e.cause && r.kind = 0) with
  | some r =>
    if s.get ERR_CFG_CORR_MERGE_US ≠ 0 ∧ s.now ≤ r.time + 1000 * s.get ERR_CFG_CORR_MERGE_US then some r
    else none
  | none => none

/-- The merged record in every place that holds it. -/
def State.merge (s : State) (r : ErrRec) : State :=
  let r' := { r with count := satAdd 0xffffffff r.count 1 }
  let up := fun (x : ErrRec) => if x.seq = r.seq then r' else x
  { s with err := { s.err with
    ring := NMap.mapVal (fun _ x => up x) s.err.ring
    logs := NMap.mapVal (fun _ (l : List ErrRec) => l.map up) s.err.logs
    moraine := NMap.mapVal (fun _ x => up x) s.err.moraine } }.count ERR_CNT0_CORRECTED 1

/-- Units that R357 never takes offline for a second error: channels, links, and memory units, whose own
rules (R97, R267) say what a second error does. -/
def secondExempt (t : Nat) : Bool := [0x02, 0x03, 0x04, 0x06].contains t

/-- An error reported: merged, or written with its recovery and escalation (Table 18.6, R355 to R357); a further error of a
memory unit that is to retire belongs to the recovery already open (R97). -/
def State.post (s : State) (e : ErrIn) : State :=
  if e.cls = 0 then
    match mergesWith s e with
    | some r => s.merge r
    | none => s.write e
  else if 3 ≤ e.cls then s.deviceFatal e
  else if inRecovery s e.unitType e.unitIndex ∧ ¬ secondExempt e.unitType then
    (s.write { e with cls := 2, cause := 0x0009 }).takeOffline e.unitType e.unitIndex
  else if inRecovery s e.unitType e.unitIndex ∧ (e.unitType = utPc ∨ e.unitType = utRank) then s.write e
  else (s.write e).openRec e.unitType e.unitIndex

/-- The record of a refused request (R451): CAUSE 0x0007, corrected class. -/
def State.refusedReq (s : State) (unitType unitIndex st : Nat) (tenant : Option Nat) (agent addr : Nat) : State :=
  s.post { cls := 0, unitType := unitType, unitIndex := unitIndex, cause := 0x0007, status := st,
           tenant := tenant, agent := agent, addr := some addr, info := 0 }

/-- A read that returned poison (R359). -/
def State.poisonRead (s : State) : State := s.count ERR_CNT1_POISON_CONSUMED 1

end Sys2Proof.Machine
end

