-- ==== Sys2Proof/Machine/Mem.lean ====
section
/-! DEFINITION. Pool memory: bytes and poison by node-local offset, where a page's frame lies and which unit
holds a granule (R79, R80, R90, R104, R107, R108), fence generations of admitted requests (R38), and what a
read or write of the home slices does. -/

namespace Sys2Proof.Machine

open Reg

/-- One byte of memory; a byte nothing has written reads 0 (R29). -/
def rdByte (m : List Host.Cell) (a : Nat) : Byte := NMap.getD m a 0#8

/-- Memory with one byte written; writing 0 removes the entry, so equal memories are equal lists. -/
def wrByte (m : List Host.Cell) (a : Nat) (b : Byte) : List Host.Cell :=
  if b = 0#8 then NMap.erase m a else NMap.insert m a b

/-- The canonical form: addresses strictly rising, no byte equal to what an unlisted one reads. -/
def memWf (m : List Host.Cell) : Bool := NMap.wf m && m.all fun c => c.2 != 0#8

/-- `n` bytes from offset `a`. -/
def rdBytes (m : List Host.Cell) (a : Nat) : Nat → List Byte
  | 0 => []
  | n + 1 => rdByte m a :: rdBytes m (a + 1) n

/-- Bytes written from offset `a`; `none` leaves a byte as it is (a byte mask). -/
def wrMasked (m : List Host.Cell) (a : Nat) : List (Option Byte) → List Host.Cell
  | [] => m
  | none :: l => wrMasked m (a + 1) l
  | some b :: l => wrMasked (wrByte m a b) (a + 1) l

/-- A number put into a rising list. -/
def insSorted (x : Nat) : List Nat → List Nat
  | [] => [x]
  | y :: l => if x = y then y :: l else if x < y then x :: y :: l else y :: insSorted x l

/-- The 64-byte chunks that `n` bytes from `a` touch. -/
def chunksOf (a n : Nat) : List Nat := if n = 0 then [] else range' (a / 64) ((a + n - 1) / 64 - a / 64 + 1)

/-- The 128-byte lines that `n` bytes from `a` touch. -/
def linesOf (a n : Nat) : List Nat := if n = 0 then [] else range' (a / 128) ((a + n - 1) / 128 - a / 128 + 1)

/-- The 2 MiB pages that `n` bytes from `a` touch. -/
def pagesOf (a n : Nat) : List Nat :=
  if n = 0 then [] else range' (a / 2097152) ((a + n - 1) / 2097152 - a / 2097152 + 1)

/-- Whether a masked write covers all 64 bytes of a chunk. -/
def coversChunk (a : Nat) (l : List (Option Byte)) (c : Nat) : Bool :=
  a ≤ 64 * c && 64 * c + 64 ≤ a + l.length && (slice l (64 * c - a) 64).all Option.isSome

/-- Whether a masked write touches a chunk at all. -/
def touchesChunk (a : Nat) (l : List (Option Byte)) (c : Nat) : Bool :=
  (slice l (64 * c - a) (64 * c + 64 - max a (64 * c))).any Option.isSome

/-- Poison after a write (R90): poison written marks every chunk it covers; good data over all 64 bytes
clears; a partial write leaves a poisoned chunk poisoned. -/
def poisonAfter (ps : List Nat) (a : Nat) (l : List (Option Byte)) (poison : Bool) : List Nat :=
  (chunksOf a l.length).foldl (fun ps c =>
    if ¬ touchesChunk a l c then ps
    else if poison then insSorted c ps
    else if coversChunk a l c then ps.filter (· ≠ c)
    else ps) ps

/-- A write of bytes at an offset as the home slice applies it (R14, R90). -/
def State.wr (s : State) (a : Nat) (l : List (Option Byte)) (poison : Bool) : State :=
  { s with mem := wrMasked s.mem a l, poison := poisonAfter s.poison a l poison }

/-- Whether some chunk of a range is poisoned. -/
def poisonedIn (s : State) (a n : Nat) : Bool := (chunksOf a n).any fun c => s.poison.contains c

/-- Chunks poisoned (R94, R96). -/
def State.poisonChunks (s : State) (cs : List Nat) : State :=
  { s with poison := cs.foldl (fun ps c => insSorted c ps) s.poison }

/-! Where a granule lies. -/

/-- The frame map entry of a page; an entry outside every extent is zero (R105). -/
def Frame.zeroEntry : Frame :=
  { frame := 0, tier := .hbm, set := 0, zero := false, moving := false, holder := 0, hint := 0, heat := 0 }

def frameOf (s : State) (page : Nat) : Frame := NMap.getD s.plc.map page Frame.zeroEntry

/-- The ranks of DDR5 set `n` in interleave-slot order, as channel × 4 + rank. -/
def setRanks (s : State) (n : Nat) : List Nat := NMap.getD s.mch.setForm n []

/-- R79 for a tier of `N` units in stripes of granule `G`: interleave slot and granule index in the unit. -/
def interleave (G N a : Nat) : Nat × Nat :=
  let q := a / G / N
  ((a / G % N + xorFold 10 q) % N, q)

/-- The unit (site × 64 + pseudo-channel) and granule index of an HBM tier address (R79). -/
def hbmUnit (s : State) (a : Nat) : Nat × Nat :=
  let S := s.mch.hbmForm.length
  let (slot, q) := interleave 256 (64 * S) a
  (64 * s.mch.hbmForm.getD (slot % S) 0 + slot / S, q)

/-- The unit (channel × 4 + rank) and granule index of an address of DDR5 set `n` (R79). -/
def ddrUnit (s : State) (n a : Nat) : Nat × Nat :=
  let (slot, q) := interleave 4096 (setRanks s n).length a
  ((setRanks s n).getD slot 0, q)

/-! Units, their data granules and spare areas (R79, R93, R104). -/

/-- Data granules of an HBM pseudo-channel: 1,152 MiB less the spare area, in 256-byte granules (R79). -/
def hbmU (s : State) : Nat :=
  let d := s.get MEMH_TIER_STATUS_RESERVE_DIV
  4718592 - 4718592 / d

/-- The DIMMs of a DDR5 channel. -/
def dimmsOf (s : State) (c : Nat) : List Dimm := NMap.getD s.mch.dimm c []

/-- The ranks of a channel's DIMMs. -/
def ranksOf (ds : List Dimm) : Nat := (ds.map Dimm.ranks).foldl (· + ·) 0

/-- Bytes of a DDR5 rank. -/
def rankBytes (s : State) (u : Nat) : Nat := (dimmsOf s (u / 4)).head?.elim 0 fun d => d.bytes / d.ranks

/-- Data granules of a rank of set `n`, in 4 KiB granules. -/
def rankU (s : State) (n u : Nat) : Nat :=
  let g := rankBytes s u / 4096
  match NMap.getD s.mch.formDiv n 0 with
  | 0 => g
  | d => g - g / d

/-- The divisor in force for a unit, its data granules, and all its granules, of 256 bytes or 4 KiB. -/
def divOf (s : State) (t u : Nat) : Nat :=
  if t = utPc then s.get MEMH_TIER_STATUS_RESERVE_DIV else NMap.getD s.mch.formDiv (u / 16) 0
def unitU (s : State) (t u : Nat) : Nat := if t = utPc then hbmU s else rankU s (u / 16) u
def unitGranules (s : State) (t u : Nat) : Nat := if t = utPc then 4718592 else rankBytes s u / 4096
def granuleBytes (t : Nat) : Nat := if t = utPc then 256 else 4096

/-- Granules of one part of a retiring unit, as many as a spare area holds (R94). -/
def partGranules (s : State) (t u : Nat) : Nat := unitU s t u / (divOf s t u - 1)

/-- The retirement queue a unit belongs to: its stack, or 16 + its set (R94). -/
def queueOf (t unit : Nat) : Nat := if t = utPc then unit / 64 else 16 + unit / 16

/-- The units of a tier or set, in slot order. -/
def tierUnits (s : State) (t q : Nat) : List Nat :=
  if t = utPc then s.mch.hbmForm.flatMap fun k => range' (64 * k) 64 else setRanks s (q - 16)

/-- Frames of the HBM tier, and of a DDR5 set: their spare areas are left out (R104). -/
def hbmTotal (s : State) : Nat := 64 * s.mch.hbmForm.length * hbmU s * 256 / 2097152
def ddrTotal (s : State) (n : Nat) : Nat :=
  match setRanks s n with
  | [] => 0
  | u :: us => (u :: us).length * rankU s n u * 4096 / 2097152

/-- A tier's or a set's unit type, retirement queue and frames. -/
def tierType (t : Tier) : Nat := if t = .hbm then utPc else utRank
def tierQueue (t : Tier) (n : Nat) : Nat := if t = .hbm then 0 else 16 + n
def tierTotal (s : State) (t : Tier) (n : Nat) : Nat := if t = .hbm then hbmTotal s else ddrTotal s n

/-- Frames that a unit's spare area can hold while R25 lends it: they are numbered on from the tier's last frame, area by
area in slot order (DESIGN CHOICE, log entry 19). -/
def areaFrames (s : State) (t u : Nat) : Nat := (unitGranules s t u - unitU s t u) * granuleBytes t / 2097152

/-- The area that such a frame lies in, and its place there. -/
def areaOf (s : State) (t : Tier) (n frame : Nat) : Nat × Nat :=
  let us := tierUnits s (tierType t) (tierQueue t n)
  let per := max 1 (areaFrames s (tierType t) (us.headD 0))
  let e := frame - tierTotal s t n
  (us.getD (e / per) 0, e % per)

/-- The unit and granule of a tier address before any retirement: R79, or the spare area of a frame lent by R25. -/
def baseUnit (s : State) (t : Tier) (n a : Nat) : Option (Nat × Nat × Nat) :=
  if t = .remote ∨ tierUnits s (tierType t) (tierQueue t n) = [] then none
  else if a / 2097152 < tierTotal s t n then
    let (u, q) := if t = .hbm then hbmUnit s a else ddrUnit s n a
    some (tierType t, u, q)
  else
    let ty := tierType t
    let (u, i) := areaOf s t n (a / 2097152)
    some (ty, u, unitU s ty u + (2097152 * i + a % 2097152) / granuleBytes ty)

/-- The granules of a unit that donors hold. -/
def unitPieces (s : State) (t u : Nat) : List Piece := NMap.getD s.mch.pieces (unitKey t u) []

/-- Where a unit's granule lies now: in place, or in the spare area of the donor that it has been copied to (R96). -/
def physUnit (s : State) (x : Nat × Nat × Nat) : Nat × Nat × Nat :=
  match (unitPieces s x.1 x.2.1).find? fun p => p.lo ≤ x.2.2 && x.2.2 < p.hi with
  | some p => (x.1, p.donor, unitU s x.1 p.donor + x.2.2 % partGranules s x.1 x.2.1)
  | none => x

/-- The unit that holds a byte of a tier, with its type of Table 18.3 and the granule index in it. -/
def tierUnit (s : State) (t : Tier) (n a : Nat) : Option (Nat × Nat × Nat) := (baseUnit s t n a).map (physUnit s)

/-- The frame that holds a line now: its page's, or, once the line is handed over, that of the page's move
(R116). -/
def frameAt (s : State) (off : Nat) : Frame :=
  let page := off / 2097152
  let f := frameOf s page
  match NMap.find s.plc.moves page with
  | some m =>
    if off % 2097152 / 128 < m.cursor then
      { f with frame := m.frame, tier := m.dest.tier, set := m.dest.set, holder := m.dest.holder }
    else f
  | none => f

/-- The tier address of a node-local offset. -/
def tierAddr (s : State) (off : Nat) : Nat := (frameAt s off).frame * 2097152 + off % 2097152

/-- The tier address at which a data granule of a unit starts: R79 undone. -/
def granuleAddr (s : State) (t u q : Nat) : Nat :=
  let back := fun (G N slot : Nat) => G * (q * N + (slot + N - xorFold 10 q % max 1 N) % max 1 N)
  if t = utPc then
    let S := s.mch.hbmForm.length
    back 256 (64 * S) (u % 64 * S + s.mch.hbmForm.idxOf (u / 64))
  else
    let r := setRanks s (u / 16)
    back 4096 r.length (r.idxOf u)

/-- The unit that holds a node-local offset, with its type of Table 18.3, where the page is on this node. -/
def unitOf (s : State) (off : Nat) : Option (Nat × Nat × Nat) :=
  tierUnit s (frameAt s off).tier (frameAt s off).set (tierAddr s off)

/-- The home tile of a line (R13, R80, R108). -/
def homeTile (s : State) (off : Nat) : Nat :=
  let f := frameAt s off
  match f.tier with
  | .hbm => (baseUnit s .hbm 0 (tierAddr s off)).elim 0 fun x => x.2.1 / 64
  | .ddr5 => Nat.xor (xorFold 4 (tierAddr s off / 128)) f.set % 16
  | .remote => xorFold 4 (off / 128)

/-- The state register of a memory unit. -/
def unitSt (t u : Nat) : Fld := if t = utPc then MEMH_PC_STATE (u / 64) (u % 64) else MEMD_RANK_STATE (u / 4) (u % 4)

/-- Whether a line's backing is gone: its unit is FAILED (R99), or its holder is lost (R119). -/
def backingLost (s : State) (off : Nat) : Bool :=
  match unitOf s off with
  | some (t, u, _) => s.get (unitSt t u) == 4
  | none => (frameAt s off).tier = .remote && s.plc.lost.contains (frameAt s off).holder

/-- Whether an access to a line must first fetch it from the node that holds it (R109); a ZERO page reads as zeros,
whatever its frame holds (R106). -/
def needFetch (s : State) (line : Nat) : Bool :=
  (frameAt s (128 * line)).tier = .remote && !(frameAt s (128 * line)).zero && !s.plc.filled.contains line &&
  !backingLost s (128 * line)

def lostIn (s : State) (a n : Nat) : Bool := (linesOf a n).any fun l => backingLost s (128 * l)

/-- Whether a range lies in part in a memory unit that has failed (R99). -/
def failedIn (s : State) (a n : Nat) : Bool :=
  (linesOf a n).any fun l => (unitOf s (128 * l)).any fun u => s.get (unitSt u.1 u.2.1) == 4

/-! Controller queues (R83). -/

/-- A controller with nothing waiting. -/
def MemCtl.idle : MemCtl :=
  { queue := [], openRow := [], lastPort := 3, refreshEnd := [], nextRefresh := [], pauseEnd := [],
    nextRetrain := [], fullRetrain := [], throttled := false, lastIssue := 0, lastAct := [] }

/-- A controller's scheduling state (HBM site s as s, DDR5 channel c as 16 + c). -/
def ctlOf (s : State) (c : Nat) : MemCtl := NMap.getD s.mch.ctl c MemCtl.idle

def State.setCtl (s : State) (c : Nat) (m : MemCtl) : State :=
  { s with mch := { s.mch with ctl := NMap.insert s.mch.ctl c m } }

/-- The controller of a unit. -/
def ctlIdx (t u : Nat) : Nat := if t = utPc then u / 64 else 16 + u / 4

/-- A request put into a controller port's queue; its bank and row are the memory's own map of the granule,
which the spec does not give (log entry 4). -/
def State.queueMem (s : State) (port t u q subs addr : Nat) : State :=
  let c := ctlIdx t u
  let m := ctlOf s c
  let place := Config.dramPlace u q
  s.setCtl c { m with queue := m.queue ++ [⟨port, u, place.1, place.2, q, subs, addr, s.now⟩] }

/-- The DDR5 subchannels of some chunks: chunk k uses subchannel k mod 2 (R79); bit i for subchannel i. -/
def subsOf (t : Nat) (cs : List Nat) : Nat :=
  if t = utPc then 0 else b2n (cs.any fun c => c % 2 = 0) + 2 * b2n (cs.any fun c => c % 2 = 1)

/-- The requests of one port for `n` bytes of a tier from an address: one for each granule. -/
def State.queueTier (s : State) (port : Nat) (t : Tier) (set a n : Nat) : State :=
  let cs := (chunksOf a n).filterMap fun c => (tierUnit s t set (64 * c)).map fun x => (x, c)
  (cs.map Prod.fst).eraseDups.foldl (fun (s : State) x =>
    let mine := (cs.filter fun y => y.1 = x).map Prod.snd
    s.queueMem port x.1 x.2.1 x.2.2 (subsOf x.1 mine) (64 * mine.headD 0)) s

/-- The controller requests of an access of `n` bytes at an offset, line by line: one for each granule it touches. -/
def State.queueFor (s : State) (port a n : Nat) : State :=
  let cs := (chunksOf a n).filterMap fun c => (unitOf s (64 * c)).map fun x => (x, c)
  (cs.map Prod.fst).eraseDups.foldl (fun (s : State) x =>
    let mine := (cs.filter fun y => y.1 = x).map Prod.snd
    s.queueMem port x.1 x.2.1 x.2.2 (subsOf x.1 mine) (tierAddr s (64 * mine.headD 0))) s

/-- The requests of one port for a whole frame. -/
def State.queueFrame (s : State) (port : Nat) (f : FrameId) : State := s.queueTier port f.tier f.set (2097152 * f.frame) 2097152

/-- The samples of an admitted request (R110): every line it touches is an opportunity, taken with probability
2^−SAMPLE_LOG2 by the admission points' pseudo-random sequence. -/
def State.sample (s : State) (a n : Nat) : State :=
  if s.flag PLC_CFG_ENABLE then
    let ls := linesOf a n
    let taken := ls.zipIdx.filter fun x => (Config.heatDraw (s.plc.drawn + x.2)).toNat % 2 ^ s.get PLC_CFG_SAMPLE_LOG2 = 0
    { s with plc := { s.plc with
      drawn := s.plc.drawn + ls.length
      samples := s.plc.samples ++ taken.map fun x => 128 * x.1 / 2097152 } }
  else s

/-- What an admitted request does beneath its home slices: its samples, and its controller requests. -/
def State.touch (s : State) (port a n : Nat) : State := (s.sample a n).queueFor port a n

/-- What a read of the home slices returns: the bytes, and whether they carry poison. A ZERO page reads
zeros (R106), a lost one poison (R99, R119). -/
def rdPool (s : State) (a n : Nat) : List Byte × Bool :=
  (rdBytes s.mem a n,
    ((chunksOf a n).any fun c => s.poison.contains c && ! (frameOf s (64 * c / 2097152)).zero) || lostIn s a n)

/-- Whether some page of a range still waits for its ZERO fill (R107). -/
def zeroIn (s : State) (a n : Nat) : Bool := (pagesOf a n).any fun p => (frameOf s p).zero

/-- ZERO fills asked for, once each (R107). -/
def State.askFill (s : State) (ps : List Nat) : State :=
  let new := ps.filter fun p => (frameOf s p).zero && ! s.plc.fills.contains p
  { s with plc := { s.plc with fills := s.plc.fills ++ new } }

/-! Fence generations (R38). -/

/-- The generation an admission point stamps now. -/
def genNow (s : State) : Nat := s.get EXT_FENCE_CUR_GEN

/-- One more, one fewer request in flight in a generation. -/
def State.enter (s : State) (g : Nat) : State :=
  { s with ext := { s.ext with inflight := NMap.insert s.ext.inflight g (NMap.getD s.ext.inflight g 0 + 1) } }

def State.leave (s : State) (g : Nat) : State :=
  let n := NMap.getD s.ext.inflight g 0
  { s with ext := { s.ext with
    inflight := if n ≤ 1 then NMap.erase s.ext.inflight g else NMap.insert s.ext.inflight g (n - 1) } }

/-- Whether a packet waits in this node still: handed to the switch, at an input or at an output (R38). -/
def stillHere (s : State) (r : Pkt) : Bool :=
  let same := fun (q : Pkt) => q.opcode == r.opcode && q.dst == r.dst && q.tag == r.tag && q.domain == r.domain && q.addr == r.addr
  s.fab.tx.any same || s.fab.inq.any (fun (q : QPkt) => same q.pkt) ||
    s.fab.outq.any (fun (q : Nat × List QPkt) => q.2.any fun x => same x.pkt) || s.fab.sel.any fun (q : Nat × QPkt) => same q.2.pkt

/-- A request's last reply, just sent: its generation loses the request once that reply has left the node (R38). -/
def State.leaveReply (s : State) (g : Nat) : State :=
  let last := match s.fab.tx.getLast? with
    | some r => [(g, r)]
    | none => []
  { s with ext := { s.ext with leaving := s.ext.leaving.filter (fun (x : Nat × Pkt) => stillHere s x.2) ++ last } }.leave g

/-- A request's reply sent, and left as above. -/
def State.replyLeaves (s : State) (r : Pkt) (g : Nat) : State := (s.send r).leaveReply g

/-! Extents. -/

/-- Whether an offset lies in an extent. -/
def Extent.has (x : Extent) (off : Nat) : Bool := x.base ≤ off && off < x.base + 2097152 * x.length

/-- The extent an offset lies in, with its ID. -/
def extAt (s : State) (off : Nat) : Option (Nat × Extent) := s.ext.table.find? fun p => p.2.has off

/-- A line's ciphertext under its tenant's key and tweak (R318): what its frame in a tier holds (R15), and so what moves
and lodging carry; State.mem is the plaintext that the home slice makes of it (log entry 156). -/
def lineCipher (s : State) (off : Nat) : List Byte :=
  match extAt s off with
  | some (i, x) =>
    (Config.xtsEncrypt (NMap.getD s.sec.keys x.tenant []) (i * 2 ^ 32 + (off - x.base) / 128)
      (rdBytes s.mem (off / 128 * 128) 128)).toList
  | none => rdBytes s.mem (off / 128 * 128) 128

/-! This node's own requests (R279, R282). -/

/-- The first tag free toward a destination, of 4,096 (R279). -/
def freeTag (s : State) (dst : Nat) : Option Nat :=
  (List.range 4096).find? fun t => (NMap.find s.fab.reqs (4096 * dst + t)).isNone

/-- A request-network packet that takes no tag (a management frame): stamped with its PSN and incarnation (R279,
R281) and handed to the switch. -/
def State.sendNew (s : State) (p : Pkt) : State :=
  let k := 8 * p.dst + p.domain
  let n := NMap.getD s.fab.psn k 0
  { s with fab := { s.fab with psn := NMap.insert s.fab.psn k ((n + 1) % 65536) } }.send
    { p with
      psn := n
      srcInc := s.get FAB_CFG_INCARN }

/-- A snoop of a line, kept until its answer (R282). -/
def State.sendSnoop (s : State) (line : Nat) (p : Pkt) : State :=
  let n := NMap.getD s.fab.psn (8 * p.dst + p.domain) 0
  let q := { p with
    psn := n
    srcInc := s.get FAB_CFG_INCARN }
  let o : OwnReq := ⟨q, s.now, 0, .snoop line⟩
  { s with fab := { s.fab with snoops := s.fab.snoops ++ [o] } }.sendNew p

/-- Snoops of a line that an agent has answered, or that nobody waits for any more. -/
def State.endSnoops (s : State) (line agent : Nat) : State :=
  { s with fab := { s.fab with snoops := s.fab.snoops.filter fun o => !(o.purpose == .snoop line && o.pkt.dst == agent) } }

/-- A request sent with its tag, PSN and incarnation, and kept until its reply (R279, R281, R282). With no
tag free it waits for one. -/
def State.sendReq (s : State) (p : Pkt) (why : Purpose) : State :=
  match freeTag s p.dst with
  | none => { s with fab := { s.fab with waitTag := s.fab.waitTag ++ [(p, why)] } }
  | some t =>
    let k := 8 * p.dst + p.domain
    let n := NMap.getD s.fab.psn k 0
    let p := { p with tag := t, psn := n, srcInc := s.get FAB_CFG_INCARN }
    { s with fab := { s.fab with
      psn := NMap.insert s.fab.psn k ((n + 1) % 65536)
      reqs := NMap.insert s.fab.reqs (4096 * p.dst + t) ⟨p, s.now, 0, why⟩ } }.send p

/-! Mirrored writes (R335). -/

/-- Whether writes to an extent go to a standby now. -/
def mirrors (s : State) (x : Extent) : Bool := x.mirrored && s.get MIR_STATUS_STATE == 1

/-- The PL_WR of one line to the standby. -/
def plWrOf (s : State) (tenant off : Nat) : Pkt :=
  { request s 0x21 1 (s.get MIR_CFG_PEER_AGENT) tenant with
    domain := homeTile s off % 8
    addr := s.node * 2 ^ 50 + off / 128 * 128
    len := 128
    svcEpoch := s.get MIR_STATUS_SVC_EPOCH
    tenEpoch := (NMap.find s.sec.tenants tenant).elim 0 TenRec.cur
    poison := poisonedIn s (off / 128 * 128) 128
    payload := lineCipher s off }

/-- The lines of a write sent to the standby, its completion held for `w` until they are acknowledged. -/
def State.mirrorOut (s : State) (x : Extent) (a n : Nat) (w : HeldFor) : State :=
  let ls := linesOf a n
  let id := s.mir.nextHeld
  let s := { s with mir := { s.mir with
    held := NMap.insert s.mir.held id ⟨a, n, ls.length, s.now, w⟩
    nextHeld := id + 1 } }
  let s := s.bump MIR_SEQ_WRITE_SEQ ls.length
  ls.foldl (fun s l => s.sendReq (plWrOf s x.tenant (128 * l)) (.mirror id)) s

/-- Home-side bytes written to an offset, with the mirror copy where the extent has one. -/
def State.wrHome (s : State) (a : Nat) (l : List (Option Byte)) (poison : Bool) (w : HeldFor) : State :=
  let s := s.wr a l poison
  match extAt s a with
  | some (_, x) => if mirrors s x then s.mirrorOut x a l.length w else s
  | none => s

/-- Whether some mirrored write still holds a completion. -/
def heldFor (s : State) (w : HeldFor) : Bool := s.mir.held.any fun h => h.2.forWhom = w

end Sys2Proof.Machine
end

