-- ==== Sys2Proof/Machine/Admit.lean ====
section
/-! DEFINITION. Admission: what a request meets before any data moves. Header and epoch checks of a fabric
packet (R273, R275, R312, R314, R333, R344, R364), the extent, mode, role, tenant and rights checks of an
admission point (R22, R23, R40, R43, R46, R47, R68), page counters and operation counters. -/

namespace Sys2Proof.Machine

open Reg

/-- What a check decides: the packet is dropped with no reply, answered with a status, or goes on. -/
inductive Gate where
  | drop
  | refuse (st : Nat)
  | pass
  deriving DecidableEq, Repr

/-- An operation counter raised, in the engine's, the tenant's and the node's sets (R377). -/
def bumpCnt (m : NMap Nat) (i d : Nat) : NMap Nat := NMap.insert m i ((NMap.getD m i 0 + d) % 2 ^ 64)

def State.opCount (s : State) (e t : Option Nat) (i d : Nat) : State :=
  { s with dbg := { s.dbg with
    engCnt := match e with
      | some e => NMap.insert s.dbg.engCnt e (bumpCnt (NMap.getD s.dbg.engCnt e []) i d)
      | none => s.dbg.engCnt
    tenCnt := match t with
      | some t =>
        if (NMap.find s.sec.tenants t).any (fun r => r.st ≠ .none) then
          NMap.insert s.dbg.tenCnt t (bumpCnt (NMap.getD s.dbg.tenCnt t []) i d)
        else s.dbg.tenCnt
      | none => s.dbg.tenCnt
    nodeCnt := bumpCnt s.dbg.nodeCnt i d } }

/-- Request-network opcodes: those that Tables 14.2 and 3.5 put on VC0, VC1 or MREQ. -/
def isRequest (op : Nat) : Bool :=
  [0x01, 0x02, 0x08, 0x10, 0x12, 0x20, 0x21, 0x28, 0x30, 0x31, 0x38, 0x70, 0x71, 0x72, 0x73].contains op ||
  (0x40 ≤ op && op ≤ 0x47) || (0x50 ≤ op && op ≤ 0x54)

/-- Reply-network opcodes of Tables 14.2 and 3.5. -/
def isReply (op : Nat) : Bool :=
  [0x03, 0x04, 0x09, 0x0e, 0x11, 0x13, 0x22, 0x23, 0x29, 0x32, 0x39, 0x78, 0x79, 0x7a].contains op ||
  (0x60 ≤ op && op ≤ 0x66)

/-- The MCLASS that Table 14.3 gives an opcode. -/
def classOf (op : Nat) : Nat :=
  if op = 0x38 ∨ op = 0x39 then 4
  else if 0x10 ≤ op ∧ op ≤ 0x13 then 3
  else if op = 0x28 ∨ op = 0x29 then 2
  else if 0x20 ≤ op ∧ op ≤ 0x23 then 1
  else 0

/-- A header error (R273, R274, R275): a reserved bit set, a reserved opcode, a class that does not match
the opcode (a WR of class COLLECTIVE is the root's own, R291), or an RD of LEN 0. -/
def headerBad (p : Pkt) : Bool :=
  p.rsvd != 0 || !(isRequest p.opcode || isReply p.opcode) ||
  (classOf p.opcode != p.mclass && !(p.opcode == 0x02 && p.mclass == 3)) ||
  (p.opcode == 0x01 && p.len == 0) || 1024 < p.len

/-- The reply that R274 gives for the class of a request with a header error (R273): DONE for VC0, WR_ACK for VC1,
MGMT_RSP for MREQ; a snoop and a packet of the reply network take none (R52). -/
def classReply (op : Nat) : Option Nat :=
  if op = 0x38 then some 0x39
  else if isReply op || (0x50 ≤ op && op ≤ 0x54) || (0x60 ≤ op && op ≤ 0x6f) || (0x78 ≤ op && op ≤ 0x7f) then none
  else if 0x40 ≤ op ∧ op ≤ 0x5f then some 0x61
  else some 0x04

/-- The reply opcode of a request (Tables 14.2 and 3.5). A posted write takes none. -/
def replyOp (op : Nat) : Option Nat :=
  if op = 0x01 then some 0x03 else if op = 0x02 then some 0x04 else if op = 0x08 then some 0x09
  else if op = 0x10 then some 0x11 else if op = 0x12 then some 0x13 else if op = 0x20 then some 0x22
  else if op = 0x21 then some 0x23 else if op = 0x28 then some 0x29
  else if op = 0x30 ∨ op = 0x31 then some 0x32 else if op = 0x38 then some 0x39
  else if op = 0x46 ∨ op = 0x47 then some 0x66
  else if 0x40 ≤ op ∧ op ≤ 0x4f then some 0x61
  else if op = 0x70 then none else if op = 0x71 then some 0x78 else if op = 0x72 then some 0x79
  else if op = 0x73 then some 0x7a else if 0x50 ≤ op ∧ op ≤ 0x5f then none
  else some 0x04

/-- A request answered with a status and no payload, where its opcode takes a reply. -/
def State.answer (s : State) (p : Pkt) (st : Nat) : State :=
  match replyOp p.opcode with
  | some op => s.send (replyTo s p op st)
  | none => s

/-- R314: the tenant-epoch check. -/
def epochGate (s : State) (p : Pkt) : Gate :=
  if p.opcode = 0x30 ∨ p.opcode = 0x31 then .pass
  else if p.mclass = 0 ∨ p.mclass = 3 then
    match NMap.find s.sec.tenants p.tenant with
    | none => if 32768 ≤ (p.tenEpoch + 65536 - 0) % 65536 then .drop else .refuse stPermission
    | some r =>
      match r.st with
      | .none => if 32768 ≤ (p.tenEpoch + 65536 - r.floor) % 65536 then .drop else .refuse stPermission
      | .keyless => if p.tenEpoch ≠ r.cur then .drop else .refuse stPermission
      | .live | .resetting => if p.tenEpoch ≠ r.cur then .drop else .pass
      | .fenced | .drained | .erased => if p.tenEpoch ≠ r.cur then .drop else .refuse stFenced
  else if p.mclass = 1 then
    let f := (NMap.find s.sec.tenants p.tenant).elim 0 TenRec.floor
    if (p.tenEpoch + 65536 - f) % 65536 < 32768 then .pass else .drop
  else .pass

/-- R344 and Table 17.1: a request for the service agent at a paired node. -/
def serviceGate (s : State) (p : Pkt) : Gate :=
  let st := s.get MIR_STATUS_STATE
  if st = 0 ∨ p.dst ≠ s.get MIR_CFG_SVC_AGENT ∨ ¬ (p.mclass = 0 ∨ p.mclass = 3) then .pass
  else if st = 5 then .refuse stEpoch
  else if st = 3 ∨ st = 4 then .refuse stPermission
  else if p.svcEpoch ≠ s.get MIR_STATUS_SVC_EPOCH then .refuse stEpoch
  else .pass

/-- Whether a tenant is configured, as every chapter's commands ask: its STATE is LIVE (R311). -/
def configured (s : State) (t : Nat) : Bool := (NMap.find s.sec.tenants t).any fun r => r.st = .live

/-- R312: the header TENANT must be the tenant mapped to SRC. -/
def agentOf (s : State) (a : Nat) : Option Nat := NMap.find s.sec.agents a

def agentGate (s : State) (p : Pkt) : Gate :=
  if agentOf s p.src = some p.tenant then .pass else .refuse stPermission

/-- The first gate that does not pass. -/
def firstGate : List Gate → Gate
  | [] => .pass
  | .pass :: l => firstGate l
  | g :: _ => g

/-- A request's common checks at the node that delivers it: a device that has stopped, header, tenant epoch,
service epoch, agent map (R364, R273, R314, R344, R312). -/
def fabricGate (s : State) (p : Pkt) : Gate :=
  if shut s then .drop
  else if headerBad p then .refuse stPermission
  else firstGate [epochGate s p, serviceGate s p, agentGate s p]

/-- A first delivery's status kept for duplicates, of each source's last 4,096 (R282). -/
def State.keepFirst (s : State) (p : Pkt) (st : Nat) : State :=
  let l := NMap.getD s.fab.first p.src []
  { s with fab := { s.fab with
    first := NMap.insert s.fab.first p.src ((⟨p.domain, p.psn, p.tag, st, s.now⟩ :: l).take 4096) } }

/-- Whether R282 answers a duplicate of this request with the status kept from its first delivery: neither a read,
an atomic, a contribution nor MGMT. -/
def keepsStatus (op : Nat) : Bool := !([0x01, 0x08, 0x10, 0x12, 0x20, 0x30, 0x38].contains op)

/-- What a refused or dropped request leaves: counters, events and the reply (R273, R314, Table 16.1). -/
def State.gateFail (s : State) (p : Pkt) (g : Gate) : State :=
  match g with
  | .pass => s
  | .drop =>
    if shut s then s
    else (s.count SEC_CNT_STALE_EPOCH 1).raise SEC_EVENT_STALE_EPOCH
  | .refuse st =>
    if headerBad p then
      let s := s.count FAB_CNT0_HDR_BAD 1
      match classReply p.opcode with
      | some op => s.send (replyTo s p op stPermission)
      | none => s
    else
    let s := if st = stFenced then s.count SEC_CNT_FENCED_REPLIES 1 else s
    let s := if st = stEpoch then s.count MIR_CNT_EPOCH_STALE 1 else s
    let s := if keepsStatus p.opcode then s.keepFirst p st else s
    s.answer p st

/-- The right a request needs (R47), as the bits of the RIGHTS byte of Table 2.2. -/
abbrev rtRead : Nat := 1
abbrev rtWrite : Nat := 2
abbrev rtAtomic : Nat := 4
abbrev rtEngine : Nat := 8

def hasRights (x : Extent) (need : Nat) : Bool := Nat.land x.rights need == need

/-- The kinds of request that Table 3.3 tells apart. -/
inductive ReqKind where
  | coherence | read | write | posted | version | engRead | engWrite | atomic
  deriving DecidableEq, Repr

/-- The region that an extent names, where it is LIVE, of the same tenant and of the same mode (R46). -/
def regionOk (s : State) (x : Extent) : Bool :=
  match NMap.find s.dir.regions x.regionId with
  | some r => r.tenant == x.tenant && r.mode == x.mode
  | none => false

/-- The role of the version slot that holds an extent. -/
def roleOf (s : State) (id : Nat) (x : Extent) : Role :=
  match NMap.find s.dir.regions x.regionId with
  | some r => ((r.slots.find? fun v => v.extent = id && v.role ≠ .empty).map Slot.role).getD .empty
  | none => .empty

/-- Table 3.3 with R68: which requests an extent of each mode admits. -/
def modeAdmits (s : State) (id : Nat) (x : Extent) (k : ReqKind) : Bool :=
  match x.mode, k with
  | .coherent, .posted => false
  | .coherent, .version => false
  | .coherent, _ => true
  | .published, .coherence => false
  | .published, .version => true
  | .published, .read => roleOf s id x ≠ .empty
  | .published, .engRead => roleOf s id x ≠ .empty
  | .published, _ => roleOf s id x = .staging
  | .software, .coherence => false
  | .software, .version => false
  | .software, _ => true
  | .reserved, _ => false

/-- What an admission point answers for a range of one extent (R22, R23, R40, R46, R47). -/
inductive Adm where
  | refuse (st : Nat) (mismatch : Bool)
  | ok (id : Nat) (x : Extent)
  deriving DecidableEq, Repr

/-- The checks on a range of this node's offsets: the extent of the first byte, its end, its state, its
tenant, its region's mode, the mode's table, the rights. A node of a pair that does not serve refuses its MIRRORED
extents as Table 17.1 has it (R335: reads are served by the active alone). -/
def admitOff (s : State) (tenant off len : Nat) (k : ReqKind) (need : Nat) : Adm :=
  if ¬ s.flag EXT_CFG_ENABLE then .refuse stPermission false
  else match extAt s off with
  | none => .refuse stPermission false
  | some (id, x) =>
    if x.base + 2097152 * x.length < off + len then .refuse stPermission false
    else if x.st = .fencing ∨ x.st = .scrubbing then .refuse stRevoked false
    else if x.mirrored ∧ (s.get MIR_STATUS_STATE = 3 ∨ s.get MIR_STATUS_STATE = 4) then .refuse stPermission false
    else if x.mirrored ∧ s.get MIR_STATUS_STATE = 5 then .refuse stEpoch false
    else if x.tenant ≠ tenant then .refuse stPermission false
    else if ¬ regionOk s x then .refuse stPermission true
    else if ¬ modeAdmits s id x k then .refuse stPermission false
    else if ¬ hasRights x need then .refuse stPermission false
    else if s.mir.slots.any (fun (o : Nat × OwnSlot) => !o.2.hold && o.2.base < off + len && off < o.2.base + o.2.bytes)
    then .refuse stNotOwner false
    else .ok id x

/-- The node number of a rack pool address and its node-local offset (R6). -/
def rpaNode (a : Nat) : Nat := bits a 55 50
def rpaOff (a : Nat) : Nat := a % 2 ^ 50

/-- A fabric request's admission by address: R22 first, then the extent checks. -/
def admitRpa (s : State) (tenant addr len : Nat) (k : ReqKind) (need : Nat) : Adm :=
  if rpaNode addr ≠ s.node then .refuse stPermission false
  else admitOff s tenant (rpaOff addr) len k need

/-- The unit that R451 names for a fabric request: its port of arrival, or the switch core for an internal
port. -/
def portUnit (port : Nat) : Nat × Nat := if port < 72 then (utPort, port) else (utSwitch, 0)

/-- What a refused admission leaves besides its reply: the corrected record of R22, or of R46 with
MODE_MISMATCH. -/
def State.admitFail (s : State) (ut ui : Nat) (tenant agent addr st : Nat) (mismatch : Bool) : State :=
  if mismatch then
    (s.refusedReq ut ui st (some tenant) agent addr).raise DIR_EVENT_MODE_MISMATCH
  else if rpaNode addr ≠ s.node then s.refusedReq ut ui st (some tenant) agent addr
  else s

/-! Page counters (R136, R137). -/

/-- The accelerator group of an agent. -/
def groupOf (s : State) (a : Nat) : Nat := bits (s.get (XLT_GROUP_MAP (a / 16))) (4 * (a % 16) + 3) (4 * (a % 16))

/-- The head registers of the hot-page queue follow the queue (Table 6.11). -/
def State.showHot (s : State) : State :=
  let q := s.xlt.hotQ
  let s := (s.put XLT_HOT_COUNT_QUEUED q.length).put XLT_EVENT_HOT_PENDING (b2n (q ≠ []))
  match q with
  | [] =>
    ((((s.put XLT_HOT_HEAD0_RACK_TIME 0).put XLT_HOT_HEAD1_VALID 0).put XLT_HOT_HEAD1_GROUP 0).put
      XLT_HOT_HEAD1_COUNT 0).put XLT_HOT_HEAD1_PAGE 0
  | h :: _ =>
    ((((s.put XLT_HOT_HEAD0_RACK_TIME h.time).put XLT_HOT_HEAD1_VALID 1).put XLT_HOT_HEAD1_GROUP h.group).put
      XLT_HOT_HEAD1_COUNT h.count).put XLT_HOT_HEAD1_PAGE h.page

/-- The counter records of `n` pages from `p` zeroed (R136). -/
def State.zeroCounters (s : State) (p n : Nat) : State :=
  { s with xlt := { s.xlt with counters := NMap.keep (fun q _ => q < p || p + n ≤ q) s.xlt.counters } }

/-- One counter sample for a page and group: the counter, and at the threshold the hot-page record. -/
def State.countSample (s : State) (page g : Nat) : State :=
  let c := NMap.getD s.xlt.counters page { cnt := [], notified := [] }
  let n := satAdd 65535 (NMap.getD c.cnt g 0) 1
  let c := { c with cnt := NMap.insert c.cnt g n }
  if s.get XLT_CFG_HOT_THRESH ≤ n ∧ ¬ c.notified.contains g then
    if s.xlt.hotQ.length < 4096 then
      { s with xlt := { s.xlt with
        counters := NMap.insert s.xlt.counters page { c with notified := insSorted g c.notified }
        hotQ := s.xlt.hotQ ++ [(⟨s.now, g, n, page⟩ : HotRec)] } }.showHot
    else
      ({ s with xlt := { s.xlt with counters := NMap.insert s.xlt.counters page c } }.count
        XLT_HOT_COUNT_DROPPED 1).raise XLT_EVENT_HOT_OVF
  else { s with xlt := { s.xlt with counters := NMap.insert s.xlt.counters page c } }

/-- Whether one sampling opportunity of probability 2^−L is taken: always at L = 0, else by a free value
(R136, R370; log entry 2). -/
def State.draw (s : State) (l : Nat) : Bool × State :=
  if l = 0 then (true, s)
  else
    let (k, s) := s.take
    ((Config.freeValue k).toNat % 2 ^ l = 0, s)

/-- The counting of an admitted fabric request's lines (R136). -/
def State.countLines (s : State) (g : Nat) : List Nat → State
  | [] => s
  | l :: ls =>
    let (hit, s) := s.draw (s.get XLT_CFG_CNT_LOG2)
    State.countLines (if hit then s.countSample (128 * l / 2097152) g else s) g ls

/-- What admission of a fabric request counts and samples: bytes admitted (R377 index 26), page counters at
an external ingress (R136), the SAMPLE trace record (R370). -/
def State.admitted (s : State) (port : Nat) (p : Pkt) (off len : Nat) : State :=
  let s := { s with clk := { s.clk with quietFrom := s.now } }
  let s := s.opCount none (some p.tenant) 26 (64 + p.payload.length)
  if 72 ≤ port then s
  else
    let g := groupOf s p.src
    let s := if s.flag XLT_CFG_CNT_EN ∧ g ≠ 15 then s.countLines g (linesOf off len) else s
    if traceOn s 0x0b then
      let (hit, s) := s.draw (s.get DBG_TCFG_SAMPLE_LOG2)
      if hit then
        s.trace { time := s.now, type := 0x0b, unitType := utPort, unitIndex := port, tenant := some p.tenant,
                  arg0 := p.addr, arg1 := p.opcode + 256 * p.src + 1048576 * p.dst }
      else s
    else s

/-! Replies of requests performed at their home. -/

/-- The answer to a write-like request: its status kept, its reply sent. -/
def State.answerWrite (s : State) (p : Pkt) (st : Nat) : State := (s.keepFirst p st).answer p st

/-! Duplicates of requests (R282, R362). -/

/-- A retention record written (R360): the newest of its tag only, of each source's last 1,024. -/
def State.retain (s : State) (p : Pkt) (st : Nat) (v : Option Nat) : State :=
  let l := (NMap.getD s.err.retention p.src []).filter fun r => r.tag ≠ p.tag
  let s := if 1024 ≤ l.length then s.count ERR_ATOM_CNT_EVICTED_EARLY 1 else s
  let l := (if 1024 ≤ l.length then l.drop 1 else l) ++ [⟨p.tag, p.psn, p.domain, st, v, s.now⟩]
  { s with err := { s.err with retention := NMap.insert s.err.retention p.src l } }

/-- The retention record that matches an atomic packet (Table 18.5 step 3). -/
def retained (s : State) (p : Pkt) : Option Retained :=
  (NMap.getD s.err.retention p.src []).find? fun r => r.tag = p.tag && r.psn = p.psn && r.domain = p.domain

/-- ATOMIC_RSP with an old value. -/
def atomicReply (s : State) (p : Pkt) (st : Nat) (v : Option Nat) : Pkt :=
  { replyTo s p 0x09 st with len := if v.isSome then 8 else 0, payload := match v with | some n => natLe 8 n | none => [] }

/-- The answer of Table 18.5 step 3 from a record. -/
def State.answerRetained (s : State) (p : Pkt) (r : Retained) : State :=
  (s.count ERR_ATOM_CNT_DUPLICATE 1).send (atomicReply s p (if r.status = stOK then stDuplicate else r.status) r.value)

/-- Whether one packet repeats another's request: the same source, domain, number and tag. -/
def sameReq (q p : Pkt) : Bool := q.opcode == p.opcode && q.src == p.src && q.tag == p.tag && q.psn == p.psn && q.domain == p.domain

/-- Whether a reply is the one that a request waits for. -/
def answers (r p : Pkt) : Bool := r.dst == p.src && r.tag == p.tag && r.domain == p.domain

/-- Whether the request that a packet repeats is still being performed, or waits for its standby's commit. -/
def requestRuns (s : State) (p : Pkt) : Bool :=
  (s.dir.accs.any fun (x : Nat × HomeAcc) => match x.2.org with
    | .fabric q => sameReq q p
    | _ => false) ||
  (s.dir.txns.any fun t => sameReq t.req p) || (s.dir.flushes.any fun f => sameReq f.req p) ||
  (s.mir.held.any fun (h : Nat × Held) => match h.2.forWhom with
    | .reply r _ => answers r p
    | _ => false)

/-- A duplicate answered as its first delivery was: an atomic from its retention record, a coherence request with its
recorded outcome, any other with the kept status; with nothing recorded it is discarded. -/
def State.replay (s : State) (p : Pkt) : State :=
  if p.opcode = 0x08 then
    match retained s p with
    | some r => s.answerRetained p r
    | none => s
  else match (NMap.getD s.fab.coh p.src []).find? fun c => c.domain = p.domain && c.psn = p.psn with
    | some c => c.replies.foldl State.send s
    | none => match (NMap.getD s.fab.first p.src []).find? fun c => c.domain = p.domain && c.psn = p.psn with
      | some c => if c.time + 200000 ≤ s.now then s else s.answer p c.status
      | none => s

/-- Retries that waited for the end of a request are answered as it was. -/
def State.wakeDups (s : State) (p : Pkt) : State :=
  let ds := s.err.waitDup.filter fun q => sameReq q p
  ds.foldl State.replay { s with err := { s.err with waitDup := s.err.waitDup.filter fun q => !sameReq q p } }

/-- The same, by the reply that a held write released. -/
def State.wakeReply (s : State) (r : Pkt) : State :=
  let ds := s.err.waitDup.filter fun q => answers r q
  ds.foldl State.replay { s with err := { s.err with waitDup := s.err.waitDup.filter fun q => !answers r q } }

/-- The recorded outcome of a held write that will never be committed: DEVICE_ERROR, as its reply. -/
def State.outcomeFails (s : State) (r : Pkt) : State :=
  let f := fun (c : FirstStatus) => if c.tag = r.tag ∧ c.domain = r.domain then { c with status := stDevErr } else c
  let g := fun (c : CohOutcome) => { c with replies := c.replies.map fun x => if x = r then { r with status := stDevErr } else x }
  let h := fun (c : Retained) => if c.tag = r.tag ∧ c.domain = r.domain then { c with status := stDevErr } else c
  { s with
    fab := { s.fab with
      first := NMap.adjust s.fab.first r.dst (List.map f)
      coh := NMap.adjust s.fab.coh r.dst (List.map g) }
    err := { s.err with retention := NMap.adjust s.err.retention r.dst (List.map h) } }

end Sys2Proof.Machine
end

