-- ==== Sys2Proof/Machine/Place.lean ====
section
/-! DEFINITION. The icefall engine (chapter 05): frames, where a page is placed, heat, moves, lodging and the
placement commands; one meaning for each of its commands. -/

namespace Sys2Proof.Machine

open Reg

/-! Frames (R104, R106). -/

/-- Every frame that placement cannot use now: those of pages, of moves, of lodged pages, and those that
await their scrub. -/
def usedFrames (s : State) : List FrameId :=
  (s.plc.map.filterMap fun (p : Nat × Frame) =>
    if p.2.tier = .remote then none else some ⟨p.2.tier, p.2.set, p.2.frame⟩) ++
  (s.plc.moves.filterMap fun (m : Nat × Move) =>
    if m.2.dest.tier = .remote then none else some ⟨m.2.dest.tier, m.2.dest.set, m.2.frame⟩) ++
  s.plc.scrub ++ s.plc.lodgedIn.map fun (l : Nat × Lodged) => ⟨.hbm, 0, l.1⟩

/-- Used frames of the HBM tier, or of one set. -/
def usedOf (s : State) (t : Tier) (n : Nat) : List Nat :=
  (usedFrames s).filterMap fun f => if f.tier = t ∧ f.set = n then some f.frame else none

/-- Free frames of a tier, those of the spare areas left out. -/
def tierFree (s : State) (t : Tier) (n : Nat) : Nat :=
  tierTotal s t n - ((usedOf s t n).filter (· < tierTotal s t n)).length
def hbmFree (s : State) : Nat := tierFree s .hbm 0
def ddrFree (s : State) (n : Nat) : Nat := tierFree s .ddr5 n

/-- Frames resident in a DDR5 set (MEMD_SETn.FRAMES). -/
def setFrames (s : State) (n : Nat) : Nat := (usedOf s .ddr5 n).length

/-- The IN_SERVICE set with the most free frames, the lowest-numbered on a tie (R106). -/
def bestSet (s : State) : Option Nat :=
  ((List.range 6).foldl (fun (b : Option (Nat × Nat)) n =>
    if s.get (MEMD_SET_STATE n) = 1 ∧ (b.elim 0 Prod.snd) < ddrFree s n then some (n, ddrFree s n) else b) none).map
    Prod.fst

def hbmDest (s : State) : Dest := ⟨.hbm, 0, s.node⟩
def ddrDest (s : State) (n : Nat) : Dest := ⟨.ddr5, n, s.node⟩

/-- Where a page is placed (R106). -/
def placeDest (s : State) : Option Dest :=
  if s.get PLC_LIMITS_FREE_LOW < hbmFree s then some (hbmDest s)
  else match bestSet s with
    | some n => some (ddrDest s n)
    | none => if 0 < hbmFree s then some (hbmDest s) else none

/-- The first frame not in use from `i`, cyclically; as many steps as frames are used, and one. -/
def nextFree (used : List Nat) (total : Nat) : Nat → Nat → Nat
  | 0, i => i
  | k + 1, i => if used.contains i then nextFree used total k ((i + 1) % total) else i

/-! Frames lent by spare areas under overcommit (R25, R93, R104). -/

/-- Whether an ACTIVE extent reaches past NODE_CAP (R25). -/
def overcommitted (s : State) : Bool :=
  s.ext.table.any fun (x : Nat × Extent) =>
    x.2.st = .active && s.get EXT_CAP_NODE_CAP * 2097152 < x.2.base + 2097152 * x.2.length

/-- Whether a unit holds a part of a retired one, and whether its spare area is free of parts and its own unit not retired
(R93). -/
def hostingOf (t u : Nat) : Fld := if t = utPc then MEMH_PC_HOSTING (u / 64) (u % 64) else MEMD_RANK_HOSTING (u / 4) (u % 4)
def areaFree (s : State) (t u : Nat) : Bool := s.get (unitSt t u) ≤ 2 && s.get (hostingOf t u) == 0 && divOf s t u != 0

/-- Whether a frame lies in a spare area, and in the area of one unit. -/
def inSpare (s : State) (f : FrameId) : Bool := f.tier ≠ .remote && tierTotal s f.tier f.set ≤ f.frame
def inArea (s : State) (t u : Nat) (f : FrameId) : Bool :=
  inSpare s f && tierType f.tier == t && (areaOf s f.tier f.set f.frame).1 == u

/-- Whether a unit's area lends frames: it is free, and its unit does not retire now. -/
def areaLends (s : State) (t u : Nat) : Bool := areaFree s t u && s.get (unitSt t u) != 2

/-- The frames of a tier's or a set's spare areas that may be lent now and hold nothing. -/
def lendable (s : State) (t : Tier) (n : Nat) : List Nat :=
  let us := tierUnits s (tierType t) (tierQueue t n)
  let per := areaFrames s (tierType t) (us.headD 0)
  if overcommitted s then
    (us.zipIdx.flatMap fun (x : Nat × Nat) =>
      if areaLends s (tierType t) x.1 then range' (tierTotal s t n + x.2 * per) per else []).filter fun f => !(usedOf s t n).contains f
  else []

/-- Where an excess page goes: a DDR5 spare area, or the cornice (R25). -/
def spareDest (s : State) : Option Dest :=
  match (List.range 6).find? fun n => s.get (MEMD_SET_STATE n) = 1 && lendable s .ddr5 n ≠ [] with
  | some n => some (ddrDest s n)
  | none => if lendable s .hbm 0 ≠ [] then some (hbmDest s) else none

/-- A free frame of a tier, or, where none is left, one lent by a spare area: which one is a free value (log entry 2). -/
def State.pickFrame (s : State) (d : Dest) : Nat × State :=
  let used := usedOf s d.tier d.set
  let total := tierTotal s d.tier d.set
  let (k, s) := s.take
  if tierFree s d.tier d.set = 0 ∧ lendable s d.tier d.set ≠ [] then ((lendable s d.tier d.set).headD 0, s)
  else (nextFree used total (used.length + 1) ((Config.freeValue k).toNat % total), s)

/-- A frame map entry written. -/
def State.setFrame (s : State) (page : Nat) (f : Frame) : State :=
  { s with plc := { s.plc with map := NMap.insert s.plc.map page f } }

/-- One page of a new extent placed: ZERO, HEAT 0 (R106). -/
def State.placePage (s : State) (page : Nat) : Option State :=
  match placeDest s with
  | none => none
  | some d =>
    let (f, s) := s.pickFrame d
    some (s.setFrame page
      { frame := f, tier := d.tier, set := d.set, zero := true, moving := false, holder := d.holder, hint := 0, heat := 0 })

/-- The pages of a new extent placed in order; none where some page finds no frame. -/
def State.placePages (s : State) (page : Nat) : Nat → Option State
  | 0 => some s
  | n + 1 => match s.placePage page with
    | none => none
    | some s => State.placePages s (page + 1) n

/-- Return requests (R113) sent to the owners chosen of the pages held here. -/
def State.askBack (s : State) (sel : Nat → Bool) : State :=
  let owners := ((s.plc.lodgedIn.map fun (l : Nat × Lodged) => l.2.owner).filter sel).foldl (fun a o => insSorted o a) []
  { s with plc := { s.plc with
    asked := owners.foldl (fun a o => insSorted o a) s.plc.asked
    notices := s.plc.notices ++ owners.map .giveBack } }

/-- HBM_LOW and the return requests of R113: HBM_FREE is low and no cold page is left to demote. -/
def State.hbmLow (s : State) : State := (s.raise PLC_EVENT_HBM_LOW).askBack fun _ => true

def State.hbmLowCheck (s : State) : State :=
  if hbmFree s < s.get PLC_LIMITS_FREE_LOW ∧ s.plc.cold = [] then s.hbmLow else s

/-! Which pages may move (R32, R112 to R114). -/

/-- The extent of a page; none for a carve-out page. -/
def extOfPage (s : State) (page : Nat) : Option Extent := (extAt s (page * 2097152)).map Prod.snd

/-- Whether a new move of a page may start at all: it has a frame, is not moving, and its extent is not
FENCING or SCRUBBING (R32). -/
def movable (s : State) (page : Nat) : Bool :=
  (NMap.find s.plc.map page).isSome && (NMap.find s.plc.moves page).isNone && !s.plc.fills.contains page &&
  (extOfPage s page).all fun x => x.st ≠ .fencing && x.st ≠ .scrubbing

/-- Whether heat-driven moves run (R114, PLC_CFG.ENABLE). -/
def heatMoves (s : State) : Bool := s.flag PLC_CFG_ENABLE && !s.flag PLC_CFG_FREEZE

/-- The coldest page that may be demoted (R112, R114). -/
def coldest (s : State) : Option Nat :=
  s.plc.cold.find? fun p => movable s p && (frameOf s p).tier = .hbm && (frameOf s p).hint ≠ 1

/-- The conditions on the owner's side for lodging a page on node `m` (R113, R114). -/
def mayLodge (s : State) (page m : Nat) : Bool :=
  m != s.node && bit (s.get PLC_PEERS_PEERS) m && !s.plc.lost.contains m &&
  (extOfPage s page).any (fun x => !x.mirrored) && (frameOf s page).hint ≠ 3 && (frameOf s page).hint ≠ 2

/-- Whether a page is the hottest that a holder still has (R113). -/
def hottestAt (s : State) (page : Nat) : Bool :=
  let f := frameOf s page
  s.plc.map.all fun (q : Nat × Frame) =>
    q.2.tier ≠ .remote || q.2.holder ≠ f.holder || q.2.moving || q.2.heat ≤ f.heat

/-- The page whose demotion makes room for the promotion of a page (R112 rule 4). -/
def exchangeFor (s : State) (page : Nat) : Option Nat :=
  (coldest s).filter fun v => (frameOf s v).heat + s.get PLC_THRESH_HYST ≤ (frameOf s page).heat

/-- A page in a frame that a spare area lends, and whether that area is wanted for a retirement (R93, R104). -/
def excess (s : State) (page : Nat) : Bool :=
  let f := frameOf s page
  inSpare s ⟨f.tier, f.set, f.frame⟩
def areaWanted (s : State) (page : Nat) : Bool :=
  let f := frameOf s page
  let t := tierType f.tier
  excess s page && !areaLends s t (areaOf s f.tier f.set f.frame).1

/-- Whether excess pages still have somewhere better to go: they move first (R104). -/
def reliefDue (s : State) : Bool := (placeDest s).isSome && (NMap.keys s.plc.map).any fun p => excess s p && movable s p

/-- Whether a page lies where a command wants it: at its destination, or, with none, on this node. -/
def atDest (s : State) (d : Option Dest) (page : Nat) : Bool :=
  let f := frameOf s page
  match d with
  | some d => f.tier == d.tier && (f.tier ≠ .ddr5 || d.set == 7 || f.set == d.set) && (f.tier ≠ .remote || f.holder == d.holder)
  | none => f.tier ≠ .remote

/-- Where heat takes the head of the promotion queue (R112 rules 4 and 5). -/
def promoteDest (s : State) (page node : Nat) : Option (MoveWhy × Dest) :=
  if s.get PLC_LIMITS_FREE_LOW < hbmFree s ∨ (s.plc.swap = some page ∧ 0 < hbmFree s) then some (.promote, hbmDest s)
  else if s.plc.swap = some page then none
  else if (exchangeFor s page).isSome then
    if 0 < hbmFree s ∧ (bestSet s).isSome then some (.promote, hbmDest s) else none
  else if s.flag PLC_CFG_REMOTE_EN ∧ mayLodge s page node then some (.lodge, ⟨.remote, 0, node⟩)
  else none

/-- Why a page moves now, and where to; `node` is the peer a lodging goes to (DESIGN CHOICE, log entry 180). The order: a set that drains,
relief, the running command, return requests, then heat (R100, R25, R122, R113, R112). -/
def moveReason (s : State) (page node : Nat) : Option (MoveWhy × Dest) :=
  let f := frameOf s page
  if ¬ movable s page then none
  else if f.tier = .ddr5 ∧ s.get (MEMD_SET_STATE f.set) = 2 then ((placeDest s).orElse fun _ => spareDest s).map (.drain, ·)
  else if areaWanted s page then ((placeDest s).orElse fun _ => spareDest s).map (.relief, ·)
  else if excess s page ∧ (placeDest s).isSome then (placeDest s).map (.relief, ·)
  else
    let cmd : Option (Option Dest) := match s.plc.cmd with
      | .pages ps d _ => if ps.contains page then some d else none
      | .recall n => if f.tier = .remote ∧ f.holder = n then some none else none
      | _ => none
    match cmd with
    | some (some d) =>
      if d.tier = .ddr5 ∧ d.set = 7 then (bestSet s).map fun n => (.command, ddrDest s n) else some (.command, d)
    | some none => (placeDest s).map (.command, ·)
    | none =>
      if f.tier = .remote ∧ s.plc.returns.contains f.holder ∧ hottestAt s page then (placeDest s).map (.recall, ·)
      else if ¬ (heatMoves s ∧ ¬ reliefDue s) then none
      else if s.plc.promQ.head? = some page ∧ f.tier = .ddr5 ∧ f.hint ≠ 2 then promoteDest s page node
      else if coldest s = some page ∧ hbmFree s < s.get PLC_LIMITS_FREE_HIGH then
        (bestSet s).map fun n => (.demote, ddrDest s n)
      else if f.tier = .remote ∧ s.get PLC_THRESH_PROMOTE ≤ f.heat ∧ s.get PLC_LIMITS_FREE_HIGH < hbmFree s ∧ f.hint ≠ 2 then
        some (.recall, hbmDest s)
      else if f.tier = .remote ∧ s.plc.cold.contains page then (bestSet s).map fun n => (.recall, ddrDest s n)
      else none

/-- Whether a destination has a frame free; a holder's frames are the holder's affair. -/
def destFree (s : State) (d : Dest) : Bool :=
  match d.tier with
  | .remote => true
  | t => 0 < tierFree s t d.set || lendable s t d.set ≠ []

/-- Bytes that moves have read in the last 100 µs, and whether one more line fits (R118). -/
def budgetLeft (s : State) : Bool :=
  (s.plc.budget.foldl (fun n (b : Nat × Nat) => if s.now < b.1 + 100000 then n + b.2 else n) 0) + 128 ≤
    s.get PLC_LIMITS_MIG_GBPS * 100000

def State.spend (s : State) (n : Nat) : State :=
  let b := NMap.keep (fun t _ => decide (s.now < t + 100000)) s.plc.budget
  { s with plc := { s.plc with budget := NMap.insert b s.now (NMap.getD b s.now 0 + n) } }

/-! Moving (R115, R116, R117). -/

/-- A page's frame left: one here awaits its scrub, one on another node is released to it (R117). -/
def State.leaveFrame (s : State) (page : Nat) (f : Frame) : State :=
  if f.tier = .remote then { s with plc := { s.plc with notices := s.plc.notices ++ [.release f.holder page] } }
  else { s with plc := { s.plc with scrub := s.plc.scrub ++ [⟨f.tier, f.set, f.frame⟩] } }

/-- The counter and the trace record of a settled move (R112, R113, R370). -/
def State.movedNote (s : State) (page : Nat) (old : Frame) (d : Dest) (why : MoveWhy) : State :=
  let s := if old.tier = .remote ∨ d.tier = .remote then s.count PLC_COUNT_REMOTE_MOVES 1
    else if why = .promote then s.count PLC_COUNT_PROMOTIONS 1
    else if why = .demote then s.count PLC_COUNT_DEMOTIONS 1
    else s
  s.trace { time := s.now, type := 0x08, unitType := utIcefall, unitIndex := 0,
            tenant := (extOfPage s page).map Extent.tenant, arg0 := page * 2097152,
            arg1 := old.tier.code + 4 * d.tier.code + 16 * d.holder }

/-- Whether a placement command's moves have ended; then BUSY falls, and MOVE or RECALL sets MOVE_DONE. -/
def State.plcSettle (s : State) : State :=
  let fin := fun (s : State) (note : Bool) =>
    let s := ({ s with plc := { s.plc with cmd := .none } }.put PLC_CMD_CTL_BUSY 0).endCmd
      PLC_CMD_CTL_STATUS PLC_CMD_CTL_DETAIL stOK 0
    if note then s.raise PLC_EVENT_MOVE_DONE else s
  match s.plc.cmd with
  | .none => s
  | .pages ps d note =>
    let ps := ps.filter fun p => (NMap.find s.plc.map p).isSome
    if ps = [] then fin s note else { s with plc := { s.plc with cmd := .pages ps d note } }
  | .recall n =>
    if s.plc.map.any fun (f : Nat × Frame) => f.2.tier = .remote && f.2.holder = n then s else fin s true
  | .release n => if s.plc.lodgedIn.any fun (l : Nat × Lodged) => l.2.owner = n then s else fin s false

/-- A page that has left this node: no byte and no poison of it stay. -/
def State.dropPage (s : State) (page : Nat) : State :=
  { s with
    mem := s.mem.filter fun c => c.1 / 2097152 ≠ page
    poison := s.poison.filter fun c => c / 32768 ≠ page }

/-- The end of a move: step 3 and step 4 of Table 5.2, the command's list, the return requests. What now lies on another node
stays here no longer, and a page that left an earlier frame for another reason is still the command's (R122). -/
def State.settlePage (s : State) (page : Nat) (d : Dest) (frame : Nat) (why : MoveWhy) : State :=
  let old := frameOf s page
  let s := s.setFrame page { old with frame := frame, tier := d.tier, set := d.set, holder := d.holder, moving := false }
  let s := { s with plc := { s.plc with
    moves := NMap.erase s.plc.moves page
    filled := s.plc.filled.filter (fun l => l / 16384 ≠ page)
    cmd := match s.plc.cmd with
      | .pages ps d' n => .pages (ps.filter fun p => p ≠ page || !atDest s d' page) d' n
      | c => c } }
  let s := if d.tier = .remote then s.dropPage page else s
  let s := (s.leaveFrame page old).movedNote page old d why
  let s := { s with plc := { s.plc with returns := s.plc.returns.filter (fun h =>
    s.plc.map.any (fun (f : Nat × Frame) => f.2.tier = Tier.remote && f.2.holder = h)) } }
  s.plcSettle

/-- Step 1 of Table 5.2; a ZERO page is only given its new frame (R107). -/
def State.beginMove (s : State) (page : Nat) (d : Dest) (why : MoveWhy) (holderFrame : Nat) : State :=
  let (fr, s) := if d.tier = .remote then (holderFrame, s) else s.pickFrame d
  let f := frameOf s page
  let s := { s with plc := { s.plc with
    promQ := s.plc.promQ.filter (· ≠ page)
    cold := s.plc.cold.filter (· ≠ page) } }
  if f.zero then s.settlePage page d fr why
  else
    { s.setFrame page { f with moving := true } with plc := { (s.setFrame page { f with moving := true }).plc with
      moves := NMap.insert s.plc.moves page ⟨d, fr, 0, why⟩ } }

/-- The exchange of a queued page for the coldest one (R112 rule 4): its demotion starts, and the queued page holds its place
until an HBM frame is free. -/
def State.exchange (s : State) (page v n : Nat) : State :=
  let s := s.beginMove v (ddrDest s n) .demote 0
  { s with plc := { s.plc with swap := some page } }

/-- The head of the promotion queue that stays in place leaves the queue (R112 rule 5). -/
def State.stayPut (s : State) : State := { s with plc := { s.plc with promQ := s.plc.promQ.tail } }.hbmLowCheck

/-- PAGE_MOVE_START (R115 step 1): one move starts where a reason, a free frame and the rate budget of R118 allow it. An
exchange also starts the coldest page's demotion, which comes first where no HBM frame is left (R112 rule 4); a page that is
lodged tells of HBM_LOW as one that stays does (R112 rule 5). -/
def execPageMoveStart (page node frame : Nat) (s : State) : Host.Outcome State Fault Refusal :=
  match moveReason s page node with
  | some (why, d) =>
    if destFree s d ∧ (why = .drain ∨ budgetLeft s) then
      let swap := if why = .promote ∧ ¬ s.get PLC_LIMITS_FREE_LOW < hbmFree s ∧ s.plc.swap ≠ some page then exchangeFor s page else none
      let s := s.beginMove page d why frame
      let s := if s.plc.swap = some page then { s with plc := { s.plc with swap := none } } else s
      let s := if why = .lodge then s.hbmLowCheck else s
      .next (match swap, bestSet s with
        | some v, some n => s.beginMove v (ddrDest s n) .demote 0
        | _, _ => s)
    else .next s
  | none =>
    if s.plc.promQ.head? = some page ∧ heatMoves s ∧ ¬ reliefDue s ∧ s.plc.swap ≠ some page then
      match exchangeFor s page with
      | some v => match bestSet s with
        | some n => if movable s page ∧ budgetLeft s then .next (s.exchange page v n) else .next s
        | none => .next s
      | none => .next s.stayPut
    else .next s

/-- Whether an access touches a line. -/
def HomeAcc.on (a : HomeAcc) (line : Nat) : Bool := a.len != 0 && a.off / 128 ≤ line && line ≤ (a.off + a.len - 1) / 128

/-- Whether an access accepted earlier still stands on a line. -/
def lineBusy (s : State) (line : Nat) : Bool :=
  (s.dir.txns.any fun t => t.line = line) || s.dir.accs.any fun (a : Nat × HomeAcc) => a.2.on line

/-- Whether a placement request of a page's line, or of any of its lines, waits for its reply. -/
def placeWaits (s : State) (page : Nat) (line : Option Nat) : Bool :=
  s.fab.reqs.any fun (r : Nat × OwnReq) => match r.2.purpose with
    | .place p l => p = page && line.all (· = l)
    | _ => false

/-- A placement request for a line toward the node that holds it (R109): its address is the line's rack pool
address (log entry 5). -/
def placePkt (s : State) (op holder line : Nat) : Pkt :=
  let t := ((extAt s (128 * line)).map fun p => p.2.tenant).getD 0
  { request s op 1 (Config.nodeAgent holder % 4096) t with
    domain := line % 8
    addr := s.node * 2 ^ 50 + 128 * line
    len := 128
    tenEpoch := (NMap.find s.sec.tenants t).elim 0 TenRec.cur }

/-- The write of one ciphertext line to the node that holds its page (R109, R115). -/
def State.placeWrite (s : State) (holder line : Nat) (why : Purpose) : State :=
  s.sendReq { placePkt s 0x21 holder line with
    poison := poisonedIn s (128 * line) 128
    payload := lineCipher s (128 * line) } why

/-- PAGE_LINE_HANDOVER (R115 step 2, R116): the next line in offset order is copied through the placement ports and handed
over, and its rime copy dropped; `bad` says that it could not be read correctly. -/
def execPageLineHandover (page : Nat) (bad : Bool) (s : State) : Host.Outcome State Fault Refusal :=
  match NMap.find s.plc.moves page with
  | none => .next s
  | some m =>
    let line := 16384 * page + m.cursor
    if 16384 ≤ m.cursor ∨ lineBusy s line ∨ (m.why ≠ .drain ∧ ¬ budgetLeft s) then .next s
    else if needFetch s line then
      if placeWaits s page (some line) then .next s
      else .next (s.sendReq (placePkt s 0x20 (frameOf s page).holder line) (.place page line))
    else
      let gone := backingLost s (128 * line)
      let s := if bad ∨ gone then s.poisonChunks [2 * line, 2 * line + 1] else s
      let s := (if m.why = .drain then s else s.spend 128).queueFor 2 (128 * line) 128
      let s := if m.dest.tier = .remote then s.placeWrite m.dest.holder line (.place page line) else s
      let s := { s with plc := { s.plc with
        moves := NMap.insert s.plc.moves page { m with cursor := m.cursor + 1 }
        filled := s.plc.filled.filter (· ≠ line) } }
      .next (s.queueFor 2 (128 * line) 128)

/-- PAGE_MOVE_DONE (R115 steps 3 and 4): every line handed over, and what went to a holder acknowledged. -/
def execPageMoveDone (page : Nat) (s : State) : Host.Outcome State Fault Refusal :=
  match NMap.find s.plc.moves page with
  | none => .next s
  | some m =>
    if 16384 ≤ m.cursor ∧ ¬ placeWaits s page none then .next (s.settlePage page m.dest m.frame m.why) else .next s

/-- Owners no longer asked for pages once none of theirs is left. -/
def State.settleAsked (s : State) : State :=
  { s with plc := { s.plc with asked := s.plc.asked.filter fun o => s.plc.lodgedIn.any fun (l : Nat × Lodged) => l.2.owner = o } }

/-- The scrub of a frame through the scrub port ends (R117): one left by a move, or a lodged one that its owner has released,
a message whose arrival the event stands for (DESIGN CHOICE, log entry 178). -/
def State.scrubDone (s : State) (id : FrameId) : State :=
  if s.plc.scrub.contains id then { s with plc := { s.plc with scrub := s.plc.scrub.erase id } }.queueFrame 3 id
  else if id.tier = .hbm ∧ (NMap.find s.plc.lodgedIn id.frame).isSome then
    ({ s with plc := { s.plc with
      lodgedIn := NMap.erase s.plc.lodgedIn id.frame
      lodgedMem := NMap.keep (fun k _ => decide (k / 16384 ≠ id.frame)) s.plc.lodgedMem } }.queueFrame 3 id).settleAsked.plcSettle
  else s

/-! Heat (R110, R111). -/

/-- HEAT_SAMPLE (R110 to R112): a sample that an admission point took reaches the icefall engine, at most four
in 10 ns (400 million a second). -/
def execHeatSample (page : Nat) (s : State) : Host.Outcome State Fault Refusal :=
  if ¬ s.flag PLC_CFG_ENABLE ∨ ¬ s.plc.samples.contains page then .next s
  else
    let n := if s.plc.sampleTime = s.now / 10 then s.plc.sampleCnt else 0
    let s := { s with plc := { s.plc with
      samples := s.plc.samples.erase page
      sampleTime := s.now / 10
      sampleCnt := n + 1 } }
    if 4 ≤ n then .next ((s.count PLC_COUNT_SAMPLES_DROPPED 1).raise PLC_EVENT_SAMPLE_DROP)
    else if (NMap.find s.plc.map page).isNone then .next s
    else
      let f := frameOf s page
      let h := satAdd 65535 f.heat (s.get PLC_CFG_HEAT_INC)
      let s := s.setFrame page { f with heat := h }
      if f.tier = .ddr5 ∧ s.get PLC_THRESH_PROMOTE ≤ h ∧ ¬ s.plc.promQ.contains page ∧ s.plc.promQ.length < 4096 then
        .next { s with plc := { s.plc with promQ := s.plc.promQ ++ [page] } }
      else .next s

/-- A page put into the cold list, which rises in heat. -/
def insCold (m : NMap Frame) (p : Nat) : List Nat → List Nat
  | [] => [p]
  | q :: l =>
    if (NMap.find m p).elim 0 Frame.heat < (NMap.find m q).elim 0 Frame.heat then p :: q :: l else q :: insCold m p l

/-- HEAT_DECAY (R111, R112 rule 2): every page's heat decays and the cold list is gathered, the pages of the
owner's REMOTE frames among them (R113). -/
def execHeatDecay (s : State) : Host.Outcome State Fault Refusal :=
  if s.now < s.plc.lastDecay + 1000000 * s.get PLC_CFG_DECAY_MS then .next s
  else
    let sh := s.get PLC_CFG_DECAY_SHIFT
    let map := NMap.mapVal (fun _ (f : Frame) => { f with heat := f.heat - f.heat / 2 ^ sh }) s.plc.map
    let low := map.filter fun (p : Nat × Frame) => p.2.heat < s.get PLC_THRESH_DEMOTE && p.2.tier ≠ .ddr5
    let cold := (low.foldl (fun l (p : Nat × Frame) => insCold map p.1 l) []).take 65536
    .next ({ s with plc := { s.plc with map := map, cold := cold, lastDecay := s.now } }.hbmLowCheck)

/-- RETURN_REQUEST (R113): a holder asks for its frames; the recalls then start hottest first, until none is left there (DESIGN
CHOICE, log entry 181). -/
def execReturnRequest (node : Nat) (s : State) : Host.Outcome State Fault Refusal :=
  if s.plc.map.any fun (f : Nat × Frame) => f.2.tier = .remote && f.2.holder = node then
    .next { s.raise PLC_EVENT_LODGE_RETURN with plc := { s.plc with returns := insSorted node s.plc.returns } }
  else .next s

/-- Bytes stored by a home slice: in memory, in the standby's copy where the extent is mirrored, and, for lines
whose page another node holds, in that node's frame (R14, R335, R109). -/
def State.store (s : State) (a : Nat) (l : List (Option Byte)) (poison : Bool) (w : HeldFor) : State :=
  let s := s.wrHome a l poison w
  ((linesOf a l.length).filter fun x => (frameAt s (128 * x)).tier = .remote).foldl
    (fun s x => s.placeWrite (frameAt s (128 * x)).holder x (.writeBack x)) s

/-- Bytes with those on lost lines left out (R99, R119). -/
def keepBacked (s : State) (a : Nat) (l : List (Option Byte)) : List (Option Byte) :=
  (l.zip (range' a l.length)).map fun x => if backingLost s x.2 then none else x.1

/-- A write performed: the bytes, and its status (DEVICE_ERROR where some line's backing is gone). -/
def State.storeSt (s : State) (a : Nat) (l : List (Option Byte)) (poison : Bool) (w : HeldFor) : Nat × State :=
  if lostIn s a l.length then (stDevErr, s.store a (keepBacked s a l) poison w) else (stOK, s.store a l poison w)

/-- Whether one byte reads poison. -/
def poisonAt (s : State) (a : Nat) : Bool :=
  (s.poison.contains (a / 64) && !(frameOf s (a / 2097152)).zero) || backingLost s a

/-- Bytes with the poison of their chunks. -/
def rdFlag (s : State) (a n : Nat) : List (Byte × Bool) :=
  (List.range n).map fun i => (rdByte s.mem (a + i), poisonAt s (a + i))

/-- Bytes applied chunk by chunk, a chunk poisoned where any of its bytes is (R155); `n` bounds the chunks. -/
def State.wrFlag (s : State) : Nat → Nat → List (Byte × Bool) → State
  | 0, _, _ => s
  | _, _, [] => s
  | n + 1, a, l =>
    let k := 64 - a % 64
    let c := l.take k
    (s.wr a (c.map fun x => if backingLost s a then none else some x.1) (c.any Prod.snd)).wrFlag n (a + k) (l.drop k)

/-- Bytes with poison stored by the home slices, as `store` does. -/
def State.storeFlag (s : State) (a : Nat) (l : List (Byte × Bool)) (w : HeldFor) : State :=
  (s.wrFlag (l.length + 1) a l).store a (l.map fun _ => none) false w

/-! Placement commands (R122). -/

/-- Table 5.1's entry as 64 bits. -/
def frameWord (s : State) (f : Frame) : Nat :=
  f.frame + 2 ^ 32 * (f.tier.code + 4 * (if f.tier = .ddr5 then f.set else 0) + 32 * b2n f.zero + 64 * b2n f.moving) +
  2 ^ 40 * ((if f.tier = .remote then f.holder else s.node) + 64 * f.hint) + 2 ^ 48 * f.heat

/-- A placement command's end with a refusal. -/
def State.plcRefuse (s : State) (de : Nat) : State :=
  s.endCmd PLC_CMD_CTL_STATUS PLC_CMD_CTL_DETAIL stPermission de

def State.plcOk (s : State) : State := s.endCmd PLC_CMD_CTL_STATUS PLC_CMD_CTL_DETAIL stOK 0

/-- The pages a command names, and their extent; none past its end (DETAIL 0x1). -/
def cmdPages (s : State) (n : Nat) : Option (Extent × List Nat) :=
  match NMap.find s.ext.table (s.get PLC_CMD0_EXTENT_ID) with
  | none => none
  | some x =>
    if s.get PLC_CMD0_PAGE + n ≤ x.length then some (x, range' (x.base / 2097152 + s.get PLC_CMD0_PAGE) n) else none

def countBad (s : State) : Bool := s.get PLC_CMD1_COUNT == 0 || 262144 < s.get PLC_CMD1_COUNT

/-- A command whose moves run until its pages settle. -/
def State.plcRun (s : State) (c : PlcCmd) : State :=
  ({ s with plc := { s.plc with cmd := c } }.put PLC_CMD_CTL_BUSY 1).plcSettle

/-- Free frames of the sets in service. -/
def ddrRoom (s : State) : Nat :=
  ((List.range 6).map fun k => if s.get (MEMD_SET_STATE k) = 1 then ddrFree s k else 0).foldl (· + ·) 0

/-- HINT (R122): sets HINT on the pages, then moves those that contradict it. -/
def execPlcHint (s : State) : Host.Outcome State Fault Refusal :=
  if s.flag PLC_CMD_CTL_BUSY then .next s
  else
    let h := s.get PLC_CMD1_HINT
    match cmdPages s (s.get PLC_CMD1_COUNT) with
    | none => .next (s.plcRefuse 0x1)
    | some (x, ps) =>
      let pinned := (s.plc.map.filter fun (p : Nat × Frame) => p.2.hint = 1 && !ps.contains p.1).length + ps.length
      let away := if h = 1 then ps.filter fun p => (frameOf s p).tier ≠ .hbm
        else if h = 2 ∨ h = 3 then ps.filter fun p => (frameOf s p).tier = .remote else []
      let room := if h = 1 then hbmFree s else if h = 2 then ddrRoom s else hbmFree s + ddrRoom s
      if x.st = .fencing ∨ x.st = .scrubbing then .next (s.plcRefuse 0x2)
      else if h = 1 ∧ hbmTotal s * s.get PLC_LIMITS_PIN_MAX_PCT < 100 * pinned then .next (s.plcRefuse 0x4)
      else if room < away.length then .next (s.plcRefuse 0x5)
      else if countBad s then .next (s.plcRefuse 0x7)
      else
        let s := ps.foldl (fun s p => s.setFrame p { frameOf s p with hint := h }) s
        .next (s.plcRun (.pages away (if h = 1 then some (hbmDest s) else if h = 2 then some (ddrDest s 7) else none) false))

/-- MOVE (R122): moves the pages to DEST, ignoring heat. -/
def execPlcMove (s : State) : Host.Outcome State Fault Refusal :=
  if s.flag PLC_CMD_CTL_BUSY then .next s
  else
    let d := s.get PLC_CMD1_DEST
    let n := s.get PLC_CMD1_NODE
    let set := s.get PLC_CMD1_SET
    match cmdPages s (s.get PLC_CMD1_COUNT) with
    | none => .next (s.plcRefuse 0x1)
    | some (x, ps) =>
      let dest : Dest := if d = 0 then hbmDest s else if d = 1 then ddrDest s set else ⟨.remote, 0, n⟩
      let ps' := ps.filter fun p => !atDest s (some dest) p
      let contradicts := ps.any fun p =>
        let h := (frameOf s p).hint
        (h = 1 && d ≠ 0) || (h = 2 && d ≠ 1) || (h = 3 && d = 2)
      let room := if d = 0 then hbmFree s
        else if set = 7 then ddrRoom s
        else if s.get (MEMD_SET_STATE set) = 1 then ddrFree s set else 0
      if x.st = .fencing ∨ x.st = .scrubbing then .next (s.plcRefuse 0x2)
      else if contradicts ∨ (d = 2 ∧ x.mirrored) then .next (s.plcRefuse 0x3)
      else if d ≠ 2 ∧ room < ps'.length then .next (s.plcRefuse 0x5)
      else if d = 2 ∧ (n = s.node ∨ ¬ bit (s.get PLC_PEERS_PEERS) n ∨ s.plc.lost.contains n) then .next (s.plcRefuse 0x6)
      else if countBad s ∨ d = 3 ∨ (d = 1 ∧ set = 6) then .next (s.plcRefuse 0x7)
      else .next (s.plcRun (.pages ps' (some dest) true))

/-- QUERY (R122): the entry of one page into PLC_VIEW. -/
def execPlcQuery (s : State) : Host.Outcome State Fault Refusal :=
  if s.flag PLC_CMD_CTL_BUSY then .next s
  else match cmdPages s 1 with
    | some (_, p :: _) => .next ((s.put PLC_VIEW_DATA (frameWord s (frameOf s p))).plcOk)
    | _ => .next (s.plcRefuse 0x1)

/-- RECALL (R122): brings back every page lodged on NODE. -/
def execPlcRecall (s : State) : Host.Outcome State Fault Refusal :=
  if s.flag PLC_CMD_CTL_BUSY then .next s
  else
    let n := s.get PLC_CMD1_NODE
    let ps := s.plc.map.filter fun (f : Nat × Frame) => f.2.tier = .remote && f.2.holder = n
    if hbmFree s + ddrRoom s < ps.length then .next (s.plcRefuse 0x5)
    else if n = s.node then .next (s.plcRefuse 0x6)
    else .next (s.plcRun (.recall n))

/-- RELEASE (R122): sends NODE a return request for what this node holds for it, and ends when none is left. -/
def execPlcRelease (s : State) : Host.Outcome State Fault Refusal :=
  if s.flag PLC_CMD_CTL_BUSY then .next s
  else
    let n := s.get PLC_CMD1_NODE
    if n = s.node then .next (s.plcRefuse 0x6)
    else .next ((s.askBack (· == n)).plcRun (.release n))

/-- ZERO_FILL_DONE's effect on the page (R107): every line of its frame now holds zeros, and ZERO clears. -/
def State.zeroFilled (s : State) (page : Nat) : State :=
  { s.setFrame page { frameOf s page with zero := false } with
    mem := s.mem.filter fun c => c.1 / 2097152 ≠ page
    poison := s.poison.filter fun c => c / 32768 ≠ page
    plc := { (s.setFrame page { frameOf s page with zero := false }).plc with fills := s.plc.fills.filter (· ≠ page) } }

/-- A page's ZERO fill done: the zeros of a REMOTE page are written into its holder's frame, and a fill of a MIRRORED
extent goes to the standby, line by line (R107, R109, R335). -/
def State.fillPage (s : State) (page : Nat) : State :=
  let s := s.zeroFilled page
  let f := frameOf s page
  let s := if f.tier = .remote then
      (range' (16384 * page) 16384).foldl (fun (s : State) l => s.placeWrite f.holder l (.writeBack l)) s
    else s
  match extAt s (2097152 * page) with
  | some (_, x) => if mirrors s x then s.mirrorOut x (2097152 * page) 2097152 .nobody else s
  | none => s

/-- The page of a line that the home writes of its own accord, with an answer or for a peer: a ZERO page is filled
first, at once (R107; DESIGN CHOICE, log entry 27). -/
def State.fillNow (s : State) (line : Nat) : State :=
  let page := 128 * line / 2097152
  if (frameOf s page).zero then s.fillPage page else s

end Sys2Proof.Machine
end

