-- ==== Sys2Proof/Machine/DirCore.lean ====
section
/-! DEFINITION. The firn directory's shared operations (chapter 03): entries and sharers, which snoops a
transaction needs, starting and finishing it (Table 3.6), hold windows, answers. -/

namespace Sys2Proof.Machine

open Reg

/-- The agents a sharer field stands for: its IDs, or the mapped agents of its groups (R49, R65). -/
def mapped (s : State) (a : Nat) : Bool := bit (s.get (DIR_AGENT_MAP_MAP (a / 64))) (a % 64)

def Sharers.agents (s : State) : Sharers → List Nat
  | .exact ids => ids
  | .coarse gs => gs.flatMap fun g => (range' (16 * g) 16).filter (mapped s)

/-- Whether a sharer field records an agent. -/
def Sharers.has : Sharers → Nat → Bool
  | .exact ids, a => ids.contains a
  | .coarse gs, a => gs.contains (a / 16)

/-- A sharer added; the ninth turns the entry coarse (R49). -/
def Sharers.add : Sharers → Nat → Sharers
  | .exact ids, a =>
    if ids.contains a then .exact ids
    else if ids.length < 8 then .exact (insSorted a ids)
    else .coarse ((a :: ids).foldl (fun g i => insSorted (i / 16) g) [])
  | .coarse gs, a => .coarse (insSorted (a / 16) gs)

/-- A sharer removed: from an exact entry only (R49). -/
def Sharers.drop : Sharers → Nat → Sharers
  | .exact ids, a => .exact (ids.filter (· ≠ a))
  | .coarse gs, _ => .coarse gs

def Sharers.none : Sharers → Bool
  | .exact [] => true
  | _ => false

/-- The entry of a line; none is state U. -/
def entryOf (s : State) (line : Nat) : Option DirEntry := NMap.find s.dir.entries line

/-- An entry written: a new one takes the next allocation number (R64). -/
def State.setEntry (s : State) (line : Nat) (st : DirSt) (owner : Nat) (sh : Sharers) : State :=
  match entryOf s line with
  | some e => { s with dir := { s.dir with entries := NMap.insert s.dir.entries line { e with st := st, owner := owner, sharers := sh } } }
  | none => { s with dir := { s.dir with
      entries := NMap.insert s.dir.entries line ⟨st, owner, sh, s.dir.allocCtr⟩
      allocCtr := s.dir.allocCtr + 1 } }

def State.dropEntry (s : State) (line : Nat) : State :=
  { s with dir := { s.dir with entries := NMap.erase s.dir.entries line } }

/-- An entry left with these sharers only: state S, or U where none is left. -/
def State.leaveShared (s : State) (line : Nat) (sh : Sharers) : State :=
  if sh.none then s.dropEntry line else s.setEntry line .shared 0 sh

/-- The slice and set of a line (R48), as one number. -/
def dirSet (s : State) (line : Nat) : Nat :=
  homeTile s (128 * line) * 196608 + Nat.xor (Nat.xor line (line / 2 ^ 18)) (line / 2 ^ 36) % 196608

/-- The lines of a set that hold an entry. -/
def setLines (s : State) (line : Nat) : List Nat :=
  (s.dir.entries.filter fun (e : Nat × DirEntry) => dirSet s e.1 = dirSet s line).map Prod.fst

/-- The agent whose hold window runs on a line (R61). -/
def holder (s : State) (line : Nat) : Option Nat :=
  match NMap.find s.dir.holds line with
  | some (a, t) => if s.now < t then some a else none
  | none => none

/-- The region that a line's extent names. -/
def regionOf (s : State) (line : Nat) : Option Region :=
  (extAt s (128 * line)).bind fun p => NMap.find s.dir.regions p.2.regionId

/-- The agent ID under which this node's home slices answer: the pair's service agent while it serves
(chapter 17), else its own. -/
def homeAgent (s : State) : Nat :=
  if s.get MIR_STATUS_STATE = 1 ∨ s.get MIR_STATUS_STATE = 2 then s.get MIR_CFG_SVC_AGENT else s.self

/-- Whether a transaction is the home's own: a home-side access, a back-invalidation, a sweep. -/
def ownKind (t : Txn) : Bool := t.acc != 0 || t.kind == .backInv || t.kind == .sweep

/-- The TAG of a transaction's snoops: the request's own, by which its requester knows the line that an owner sends it,
or a number of the home's own. -/
def snoopTag (s : State) (t : Txn) : Nat := if ownKind t then s.dir.nextTag else t.req.tag

/-- The home's next number taken. -/
def State.stepTag (s : State) (t : Txn) : State :=
  if ownKind t then { s with dir := { s.dir with nextTag := (s.dir.nextTag + 1) % 4096 } } else s

/-- A snoop as a packet (Table 3.5): TARGET is the requester, or the home's own agent. -/
def snoopPkt (s : State) (line : Nat) (t : Txn) (k : SnoopKind) (agent tag : Nat) : Pkt :=
  let code := match k with
    | .fwdCopy => 0x50 | .fwdOwn => 0x51 | .fwdPeek => 0x52 | .kill => 0x53 | .retrieve => 0x54
  let x := extAt s (128 * line)
  { request s code 0 agent ((x.map fun p => p.2.tenant).getD t.req.tenant) with
    src := homeAgent s
    domain := t.req.domain
    tag := tag
    addr := s.node * 2 ^ 50 + 128 * line
    svcEpoch := t.req.svcEpoch
    tenEpoch := t.req.tenEpoch
    target := if ownKind t then homeAgent s else t.agent
    backinv := t.kind = .backInv || t.kind = .sweep }

/-- Whether a request's agent is recorded in an entry. -/
def recorded (e : DirEntry) (a : Nat) : Bool :=
  match e.st with
  | .shared => e.sharers.has a
  | .ownedEx => e.owner == a
  | .ownedSh => e.owner == a || e.sharers.has a

/-- A CLAIM that is served as LOAD_OWN: not recorded (R58), or a sharer in OS (Table 3.6). -/
def claimAsOwn (e : Option DirEntry) (a : Nat) : Bool :=
  match e with
  | none => true
  | some e => !recorded e a || (e.st == .ownedSh && e.owner != a)

/-- The kind a transaction is served as. -/
def servedAs (s : State) (t : Txn) : TxnKind :=
  if t.kind = .claim ∧ claimAsOwn (entryOf s t.line) t.agent then .loadOwn else t.kind

/-- A request that breaks rule 1 or 3 of R51 (the paragraph after Table 3.6). -/
def breaksRule (s : State) (t : Txn) : Bool :=
  match entryOf s t.line with
  | none => false
  | some e =>
    e.owner == t.agent &&
    match t.kind with
    | .loadCopy | .loadOwn | .peek | .putLine | .putMasked => e.st == .ownedEx || e.st == .ownedSh
    | .claim => e.st == .ownedEx
    | .dropClean => e.st == .ownedSh
    | _ => false

/-- The snoops a transaction needs in the line's present state (Table 3.6, R59, R64): one to each agent, an owner whose
group a coarse sharer field covers taking the owner's alone. -/
def needsSnoops (s : State) (t : Txn) : List (SnoopKind × Nat) :=
  match entryOf s t.line with
  | none => []
  | some e =>
    let kill := fun (l : List Nat) => l.map fun a => (SnoopKind.kill, a)
    let shAll := (e.sharers.agents s).filter fun a => e.st == .shared || a != e.owner
    let sh := shAll.filter (· ≠ t.agent)
    match servedAs s t, e.st with
    | .loadCopy, .shared => []
    | .loadCopy, _ => [(.fwdCopy, e.owner)]
    | .loadOwn, .shared => kill sh
    | .loadOwn, .ownedEx => [(.fwdOwn, e.owner)]
    | .loadOwn, .ownedSh => (.fwdOwn, e.owner) :: kill sh
    | .claim, .ownedEx => []
    | .claim, _ => kill sh
    | .peek, .shared => []
    | .peek, _ => [(.fwdPeek, e.owner)]
    | .homeRead, .shared => []
    | .homeRead, _ => [(.fwdPeek, e.owner)]
    | .putLine, .shared => kill shAll
    | .putLine, .ownedEx => [(.kill, e.owner)]
    | .putLine, .ownedSh => (.kill, e.owner) :: kill shAll
    | .putMasked, .shared | .homeWrite, .shared | .backInv, .shared => kill shAll
    | .putMasked, .ownedEx | .homeWrite, .ownedEx | .backInv, .ownedEx => [(.retrieve, e.owner)]
    | .putMasked, .ownedSh | .homeWrite, .ownedSh | .backInv, .ownedSh => (.retrieve, e.owner) :: kill shAll
    | .sweep, .shared => if e.sharers.has t.agent then [(.kill, t.agent)] else []
    | .sweep, _ =>
      if e.owner = t.agent then [(.retrieve, t.agent)] else if e.sharers.has t.agent then [(.kill, t.agent)] else []
    | .dropClean, _ => []
    | .dropDirty, _ => []

/-- Whether a transaction takes a new entry (R64). -/
def needsEntry (s : State) (t : Txn) : Bool :=
  (entryOf s t.line).isNone && match t.kind with
    | .loadCopy | .loadOwn | .claim => true
    | _ => false

/-! Finishing. -/

def State.setTxns (s : State) (l : List Txn) : State := { s with dir := { s.dir with txns := l } }

/-- A transaction changed where it stands. -/
def State.updTxn (s : State) (t t' : Txn) : State := s.setTxns (s.dir.txns.map fun x => if x = t then t' else x)

/-- A reply of a coherence transaction kept as its outcome, of each source's last 1,024 (R282). -/
def State.cohNote (s : State) (q r : Pkt) : State :=
  let l := NMap.getD s.fab.coh q.src []
  let old := l.find? fun c => c.domain = q.domain && c.psn = q.psn
  let new : CohOutcome := match old with
    | some c => { c with replies := c.replies ++ [r] }
    | none => ⟨q.domain, q.psn, [r], s.now⟩
  let l := (new :: l.filter fun c => ! (c.domain = q.domain && c.psn = q.psn)).take 1024
  { s with fab := { s.fab with coh := NMap.insert s.fab.coh q.src l } }

/-- Such a reply sent and kept. -/
def State.cohSend (s : State) (q r : Pkt) : State := (s.cohNote q r).send r

/-- LINE_DATA from memory to the requester, with its grant (0 none, 1 S, 2 E, 3 M). -/
def State.lineData (s : State) (t : Txn) (grant : Nat) : State :=
  let (d, bad) := rdPool s (128 * t.line) 128
  let s := if bad then s.poisonRead else s
  s.cohSend t.req { replyTo s t.req 0x60 (if bad then stPoisoned else stOK) with grant := grant, len := 128, payload := d, poison := bad }

/-- DONE, and the hold window that a grant of M or E starts (R53, R61). -/
def State.done (s : State) (t : Txn) (grantInDone : Nat) (owns : Bool) : State :=
  let s := s.cohSend t.req { replyTo s t.req 0x61 stOK with grant := grantInDone }
  if owns then
    let h := ((regionOf s t.line).map Region.hold).getD 0
    if h = 0 then s
    else { s with dir := { s.dir with holds := NMap.insert s.dir.holds t.line (t.agent, s.now + 10 * h) } }
  else s

/-- A write's bytes at the home, and its reply: at once, or once the standby has committed it (R72, R335);
DEVICE_ERROR where the line's backing is gone (R99, R119). -/
def State.writeReply (s : State) (off : Nat) (l : List (Option Byte)) (poison : Bool) (q reply : Pkt) (gen : Nat) : State :=
  let m := (extAt s off).any fun p => mirrors s p.2
  let (st, s) := s.storeSt off l poison (.reply reply gen)
  let reply := { reply with status := st }
  let s := s.cohNote q reply
  if m then s else (s.replyLeaves reply gen).wakeDups q

/-- The bytes of a PUT_MASKED: those whose mask bit is set. -/
def maskBytes (mask : Nat) (l : List Byte) : List (Option Byte) :=
  (List.range 128).map fun i => if bit mask i then some (l.getD i 0#8) else none

/-- A DROP's end. -/
def State.dropAck (s : State) (t : Txn) (stale : Bool) : State :=
  s.cohSend t.req { replyTo s t.req 0x66 stOK with stale := stale }

/-- The entry once the owner has left the line (RESULT I or MISS). -/
def State.ownerGone (s : State) (line : Nat) : State :=
  match entryOf s line with
  | some e => match e.st with
    | .ownedEx => s.dropEntry line
    | .ownedSh => s.leaveShared line e.sharers
    | .shared => s
  | none => s

/-- A transaction of the home's own. -/
def ownTxn (line : Nat) (k : TxnKind) (agent acc gen : Nat) : Txn :=
  { line := line, kind := k, req := Pkt.zero, acc := acc, gen := gen, agent := agent, started := false, waits := [],
    result := 0, missed := false, ready := false }

/-- What still comes for an entry that a request accepted earlier has just written: the back-invalidation of a fence that
has begun (Table 2.4 step 5), the walk of a map sweep (R50 step 2). -/
def State.withdraw (s : State) (line agent : Nat) : State :=
  let fenced := (extAt s (128 * line)).any fun p => p.2.st = .fencing && p.2.fenceGen ≠ 0
  let s := if fenced && (entryOf s line).isSome && !(s.dir.txns.any fun t => t.line = line && t.kind = .backInv) then
      s.setTxns (s.dir.txns ++ [ownTxn line .backInv 4096 0 0]) else s
  if s.dir.sweepAgents.contains agent && (entryOf s line).any (recorded · agent) then
    s.setTxns (s.dir.txns ++ [ownTxn line .sweep agent 0 0]) else s

/-- A transaction that has every answer it needs takes its effect (Table 3.6, R56 to R59). A home-side access
becomes ready and keeps its line until it is performed. -/
def State.finish (s : State) (t : Txn) : State :=
  let line := t.line
  let e := entryOf s line
  let fin' := fun (s : State) => (((s.setTxns (s.dir.txns.erase t)).leaveReply t.gen).withdraw line t.agent).wakeDups t.req
  match servedAs s t with
  | .loadCopy =>
    match e with
    | none =>
      let ge := (regionOf s line).any Region.grantE
      let s := s.lineData t (if ge then 2 else 1)
      let s := if ge then s.setEntry line .ownedEx t.agent (.exact []) else s.setEntry line .shared 0 (.exact [t.agent])
      fin' (s.done t 0 ge)
    | some e =>
      match e.st with
      | .shared => fin' (((s.lineData t 1).setEntry line .shared 0 (e.sharers.add t.agent)).done t 0 false)
      | st =>
        let old := if st = .ownedEx then Sharers.exact [] else e.sharers
        let s := if t.missed then s.lineData t 1 else s
        let s := if t.missed ∨ t.result = 3 then s.setEntry line .shared 0 (old.add t.agent)
          else if t.result = 2 ∧ st = .ownedEx then s.setEntry line .shared 0 ((old.add e.owner).add t.agent)
          else s.setEntry line .ownedSh e.owner (old.add t.agent)
        fin' (s.done t 0 false)
  | .loadOwn =>
    let fwd := e.any fun e => e.st ≠ .shared
    let s := if fwd ∧ ¬ t.missed then s else s.lineData t 2
    fin' ((s.setEntry line .ownedEx t.agent (.exact [])).done t 0 true)
  | .claim =>
    let m := e.any fun e => e.st = .ownedSh
    fin' ((s.setEntry line .ownedEx t.agent (.exact [])).done t (if m then 3 else 2) true)
  | .peek =>
    let fwd := e.any fun e => e.st ≠ .shared
    let s := if fwd ∧ ¬ t.missed then s else s.lineData t 0
    let s := if fwd ∧ t.missed then s.ownerGone line else s
    fin' (s.done t 0 false)
  | .putLine =>
    let s := s.setTxns (s.dir.txns.erase t)
    (s.dropEntry line).writeReply (128 * line) ((fitBytes 128 t.req.payload).map some) t.req.poison
      t.req (replyTo s t.req 0x61 stOK) t.gen
  | .putMasked =>
    let s := s.setTxns (s.dir.txns.erase t)
    (s.dropEntry line).writeReply (128 * line) (maskBytes t.req.arg t.req.payload) t.req.poison
      t.req (replyTo s t.req 0x61 stOK) t.gen
  | .dropClean =>
    match e with
    | none => fin' (s.dropAck t (!s.flag MIR_STATUS_COH_RECOVER))
    | some e =>
      if e.st ≠ .shared ∧ e.owner = t.agent then fin' ((s.dropEntry line).dropAck t false)
      else if e.st ≠ .ownedEx ∧ e.sharers.has t.agent then
        let sh := e.sharers.drop t.agent
        let s := if e.st = .shared then s.leaveShared line sh else s.setEntry line .ownedSh e.owner sh
        fin' (s.dropAck t false)
      else fin' (s.dropAck t true)
  | .dropDirty =>
    match e with
    | none =>
      if s.flag MIR_STATUS_COH_RECOVER then
        (s.setTxns (s.dir.txns.erase t)).writeReply (128 * line) ((fitBytes 128 t.req.payload).map some) t.req.poison
          t.req (replyTo s t.req 0x66 stOK) t.gen
      else fin' (s.dropAck t true)
    | some e =>
      if e.st ≠ .shared ∧ e.owner = t.agent then
        let s := (s.setTxns (s.dir.txns.erase t)).ownerGone line
        s.writeReply (128 * line) ((fitBytes 128 t.req.payload).map some) t.req.poison t.req (replyTo s t.req 0x66 stOK) t.gen
      else fin' (s.dropAck t true)
  | .homeRead =>
    let s := if t.missed then s.ownerGone line else s
    s.updTxn t { t with ready := true }
  | .homeWrite => (s.dropEntry line).updTxn t { t with ready := true }
  | .backInv => (s.dropEntry line).setTxns (s.dir.txns.erase t)
  | .sweep =>
    let fin' := fun (s : State) => s.setTxns (s.dir.txns.erase t)
    match e with
    | none => fin' s
    | some e =>
      if e.st ≠ .shared ∧ e.owner = t.agent then fin' (s.ownerGone line)
      else
        let sh := e.sharers.drop t.agent
        fin' (if e.st = .shared then s.leaveShared line sh else if e.st = .ownedSh then s.setEntry line .ownedSh e.owner sh else s)

/-! Starting (R60, R61, R64). -/

/-- Transactions that a slice holds in flight. -/
def inSlice (s : State) (tile : Nat) : Nat :=
  (s.dir.txns.filter fun t => t.started && homeTile s (128 * t.line) = tile).length

/-- Whether a write of a coherence request must wait for its page's ZERO fill (R107). -/
def zeroWaits (s : State) (t : Txn) : Bool :=
  (frameOf s (128 * t.line / 2097152)).zero &&
  match t.kind with
  | .putLine | .putMasked => true
  | .dropDirty =>
    (entryOf s t.line).elim (s.flag MIR_STATUS_COH_RECOVER) fun e => e.st != .shared && e.owner == t.agent
  | _ => false

/-- Whether a transaction that has its answers reads the line's memory, or merges into it (Table 3.6). -/
def readsMem (s : State) (t : Txn) : Bool :=
  match servedAs s t with
  | .putMasked => true
  | .loadCopy | .loadOwn | .peek => t.missed || (entryOf s t.line).all fun e => e.st == .shared
  | _ => false

/-- Whether the line of a transaction is on its way from the node that holds its page. -/
def fetching (s : State) (line : Nat) : Bool :=
  s.fab.reqs.any (fun (r : Nat × OwnReq) => r.2.purpose == .fetch 0 line) || s.fab.waitTag.any fun w => w.2 == .fetch 0 line

/-- A transaction with every answer it needs: it takes its effect, once a line that another node holds has been fetched
(R109; access number 0 names the transaction). -/
def State.conclude (s : State) (t : Txn) : State :=
  if readsMem s t && needFetch s t.line then
    if fetching s t.line then s
    else s.sendReq (placePkt s 0x20 (frameAt s (128 * t.line)).holder t.line) (.fetch 0 t.line)
  else s.finish t

/-- The recovery of an unreadable entry (R67): every mapped agent of the tenant is asked for the line, the one whose hold
window runs once it has ended (R61). -/
def State.beginLost (s : State) (line : Nat) : State :=
  match entryOf s line, extAt s (128 * line) with
  | some _, some (_, x) =>
    let as := (s.sec.agents.filter fun (a : Nat × Nat) => a.2 = x.tenant && mapped s a.1).map Prod.fst
    let now := as.filter fun a => holder s line ≠ some a
    let t := ownTxn line .backInv 4096 0 0
    let n := snoopTag s t
    let s := (s.dropEntry line).post
      { cls := 1, unitType := utDir, unitIndex := homeTile s (128 * line), cause := 0x000b, status := stPoisoned,
        tenant := some x.tenant, agent := 0, addr := some (s.node * 2 ^ 50 + 128 * line), info := 0 }
    let l : EntryLost := ⟨x.tenant, now.map fun a => ⟨.retrieve, a, s.now, n⟩, as.filter fun a => holder s line = some a, 0, false⟩
    let s := { s with dir := { s.dir with lost := NMap.insert s.dir.lost line l } }.stepTag t
    now.foldl (fun s a => s.sendSnoop line (snoopPkt s line t .retrieve a n)) s
  | _, _ => s

/-- A recovery that waits for no answer any more ends: the line is poisoned where two agents returned dirty data or one
timed out (R67). -/
def State.endLost (s : State) (line : Nat) (l : EntryLost) : State :=
  let s := if 2 ≤ l.dirty ∨ l.timedOut then (s.fillNow line).poisonChunks [2 * line, 2 * line + 1] else s
  ({ s with dir := { s.dir with lost := NMap.erase s.dir.lost line } }.closeRec utDir (homeTile s (128 * line))).raise
    DIR_EVENT_ENTRY_LOST

/-- A recovery as it now stands: ended, or kept. -/
def State.putLost (s : State) (line : Nat) (l : EntryLost) : State :=
  if l.waits = [] ∧ l.later = [] then s.endLost line l
  else { s with dir := { s.dir with lost := NMap.insert s.dir.lost line l } }

/-- The RETRIEVE that a hold window kept back goes out (R61, R67). -/
def State.lostLater (s : State) (line : Nat) : State :=
  match NMap.find s.dir.lost line with
  | none => s
  | some l =>
    let t := ownTxn line .backInv 4096 0 0
    let n := snoopTag s t
    let l' := { l with
      waits := l.waits ++ l.later.map (fun a => (⟨.retrieve, a, s.now, n⟩ : Snoop))
      later := [] }
    let s := if l.later = [] then s else s.stepTag t
    l.later.foldl (fun s a => s.sendSnoop line (snoopPkt s line t .retrieve a n))
      { s with dir := { s.dir with lost := NMap.insert s.dir.lost line l' } }

/-- Whether a line's entry was found unreadable while a transaction ran on it. -/
def lostIsDue (s : State) (line : Nat) : Bool := s.dir.lostDue.contains line && !(s.dir.txns.any fun t => t.line = line && t.started)

/-- The recovery that waited for the line's transaction to end begins (R60, R67). -/
def State.lostNow (s : State) (line : Nat) : State :=
  let s := { s with dir := { s.dir with lostDue := s.dir.lostDue.filter (· ≠ line) } }.beginLost line
  match NMap.find s.dir.lost line with
  | some l => s.putLost line l
  | none => s

/-- The oldest transaction of a line starts, where the line has none in flight and no recovery, a tracker is
free, an entry is to be had and no hold window stands against its snoops. -/
def State.startLine (s : State) (line : Nat) : State :=
  let s := if lostIsDue s line then s.lostNow line else s
  match s.dir.txns.find? fun t => t.line = line with
  | none => s
  | some t =>
    if t.started ∨ (NMap.find s.dir.lost line).isSome then s
    else if 2048 ≤ inSlice s (homeTile s (128 * line)) then s
    else if breaksRule s t then
      let s := s.setTxns (s.dir.txns.erase t)
      let s := s.refusedReq utDir (homeTile s (128 * line)) stPermission (some t.req.tenant) t.agent t.req.addr
      (s.answerWrite t.req stPermission).leaveReply t.gen
    else if zeroWaits s t then s.askFill [128 * line / 2097152]
    else if needsEntry s t ∧ 16 ≤ (setLines s line).length then s
    else
      let sn := needsSnoops s t
      if sn.any (fun x => holder s line = some x.2) ∧ t.kind ≠ .dropClean ∧ t.kind ≠ .dropDirty then s
      else
        let n := snoopTag s t
        let t' := { t with started := true, waits := sn.map fun x => ⟨x.1, x.2, s.now, n⟩ }
        let s := (s.updTxn t t').stepTag t
        let s := sn.foldl (fun s x => s.sendSnoop line (snoopPkt s line t x.1 x.2 n)) s
        if sn = [] then s.conclude t' else s

/-- A transaction queued behind its line's others, and started where nothing is in its way. -/
def State.submit (s : State) (t : Txn) : State := (s.setTxns (s.dir.txns ++ [t])).startLine t.line

/-! Answers (R55, R56, R66). -/

/-- One answer taken off a transaction's list; the last one finishes it. -/
def State.answered (s : State) (t : Txn) (agent : Nat) (f : Txn → Txn) : State :=
  let t' := f { t with waits := t.waits.filter fun w => w.agent ≠ agent }
  let s := (s.updTxn t t').endSnoops t.line agent
  if t'.waits = [] then s.conclude t' else s

/-- The line an answer names, where it is one of this node's. -/
def ansLine (p : Pkt) : Nat := rpaOff p.addr / 128

/-- The started transaction of a line that waits for an agent's answer with this TAG to one of these snoops; an answer to
any other snoop, a timed-out one among them, finds none and is discarded (R66). -/
def waiting (s : State) (p : Pkt) (ks : List SnoopKind) : Option Txn :=
  s.dir.txns.find? fun t => t.line = ansLine p && t.started &&
    t.waits.any fun w => w.agent = p.src && w.tag = p.tag && ks.contains w.kind

/-- A line written back to memory, by the home itself (R55, R56); a MIRRORED extent's goes to the standby too. -/
def State.writeBack (s : State) (line : Nat) (p : Pkt) : State :=
  (s.fillNow line).store (128 * line) ((fitBytes 128 p.payload).map some) p.poison .nobody

/-- An answer in a directory-entry recovery (R67); the last one ends it. -/
def State.lostAnswer (s : State) (line agent : Nat) (dirty : Bool) (timed : Bool) : State :=
  match NMap.find s.dir.lost line with
  | none => s
  | some l =>
    let l := { l with
      waits := l.waits.filter fun w => w.agent ≠ agent
      dirty := l.dirty + b2n dirty
      timedOut := l.timedOut || timed }
    (s.endSnoops line agent).putLost line l

/-- Whether a recovery of a line waits for an agent's answer with this TAG. -/
def lostWaits (s : State) (p : Pkt) : Bool :=
  (NMap.find s.dir.lost (ansLine p)).any fun l => l.waits.any fun w => w.agent = p.src && w.tag = p.tag

end Sys2Proof.Machine
end

