-- ==== Sys2Proof/Machine/Noc.lean ====
section
/-! DEFINITION. The network-on-chip (R16, R17, R19, R20, Tables 1.2 and 1.3): tile routers on a folded torus, the routes
that its packets take, the shared endpoints, the tiles that this node's own traffic comes from, and the packets that wait
in the request plane because their home slice has no tracker free (R60). Times in the NoC are left out (log entry 10), so that
every other packet passes its routers in the step that sends it (DESIGN CHOICE, log entry 179). -/

namespace Sys2Proof.Machine

open Reg

/-- Column and row of a tile's router. -/
def tileCol (t : Nat) : Nat := t % 4
def tileRow (t : Nat) : Nat := t / 4 % 4

/-- Hops between two positions of a ring of four. -/
def ringHops (a b : Nat) : Nat := min ((b + 4 - a % 4) % 4) ((a + 4 - b % 4) % 4)

/-- The next position on a shortest way round a ring of four; of two equal ways the rising one (DESIGN CHOICE, log entry
176). -/
def ringStep (a b : Nat) : Nat :=
  if a = b then a else if (b + 4 - a % 4) % 4 ≤ 2 then (a + 1) % 4 else (a + 3) % 4

/-- The next router on a packet's way: the column first, then the row (R16). -/
def nocNext (t dst : Nat) : Nat :=
  if tileCol t ≠ tileCol dst then 4 * tileRow t + ringStep (tileCol t) (tileCol dst)
  else 4 * ringStep (tileRow t) (tileRow dst) + tileCol t

/-- Router hops from one tile to another. -/
def nocHops (a b : Nat) : Nat := ringHops (tileCol a) (tileCol b) + ringHops (tileRow a) (tileRow b)

/-- The routers that a packet passes, its first and its last among them; `n` bounds the hops (at most 4). -/
def nocWalk : Nat → Nat → Nat → List Nat
  | 0, t, _ => [t]
  | n + 1, t, dst => if t = dst then [t] else t :: nocWalk n (nocNext t dst) dst

def nocRoute (a b : Nat) : List Nat := nocWalk 4 (a % 16) (b % 16)

/-- The two planes (Table 1.2). -/
inductive Plane where
  | request | reply
  deriving DecidableEq, Repr

/-- The plane of a packet class: snoops and requests on one, completions and data on the other (Table 1.2). -/
def planeOf (reply : Bool) : Plane := if reply then .reply else .request

/-- Bytes that a plane's link carries in one direction in a 1.6 GHz cycle (Table 1.2). -/
def Plane.width : Plane → Nat
  | .request => 256 | .reply => 1024

/-- The shared endpoints of Table 1.3. -/
inductive Endpoint where
  | bridge (die : Nat) | management | alwaysOn | security | icefall | frontEnd
  deriving DecidableEq, Repr

/-- The tile whose router an endpoint attaches to. -/
def Endpoint.tile : Endpoint → Nat
  | .bridge d => if d < 3 then 4 * d else 4 * (d - 3) + 3
  | .management | .alwaysOn => 12
  | .security => 13
  | .icefall => 14
  | .frontEnd => 15

/-- Whether an endpoint exists: an I/O bridge only where its site is populated. -/
def Endpoint.exists_ (d : Device) : Endpoint → Bool
  | .bridge n => n < 6 && bit d.part.iodSites n
  | _ => true

/-- The tile through which a memory unit's controller is reached: an HBM stack's own, a DDR5 channel's I/O bridge. -/
def unitTile (t u : Nat) : Nat := if t = utPc then u / 64 % 16 else (Endpoint.bridge (u / 16)).tile

/-- The cirque of an engine, and so the tile that its requests start from (R19). -/
def engTile (e : Nat) : Nat := e / 16 % 16

/-- Whether a cirque's request for a line of a tile crosses the NoC: the line is homed elsewhere, or the cirque's own site
has no stack and so no memory port (R19, R20). -/
def crossesNoc (s : State) (e tile : Nat) : Bool := engTile e != tile || !bit s.dev.part.hbmSites (engTile e)

/-- A region's home tile (R45). -/
def regionTile (id : Nat) : Nat := id % 16

/-- Whether a home slice has a tracker for one more request of each line of a range (R60). -/
def sliceTakes (s : State) (a n : Nat) : Bool := (linesOf a n).all fun l => inSlice s (homeTile s (128 * l)) < 2048

/-- The packets in a router's buffer of a plane. -/
def nocAt (s : State) (router : Nat) (p : Plane) : List NocPkt :=
  NMap.getD s.noc.bufs (2 * router + (if p = .reply then 1 else 0)) []

/-- An engine's request that its home slice does not take: it waits at the last router of its way, in the request plane. -/
def State.nocWait (s : State) (e t pos tile bytes : Nat) : State :=
  let r := (nocRoute (engTile e) tile).getLastD tile
  let q := nocAt s r .request
  if q.any fun p => p.eng = e && p.tag = t && p.pos = pos then s
  else { s with noc := { s.noc with bufs := NMap.insert s.noc.bufs (2 * r) (q ++ [⟨engTile e, tile, bytes, s.now, e, t, pos⟩]) } }

/-- The request taken by its slice, or ended. -/
def State.nocTaken (s : State) (e t pos : Nat) : State :=
  let rest := NMap.mapVal (fun _ (l : List NocPkt) => l.filter fun p => !(p.eng = e && p.tag = t && p.pos = pos)) s.noc.bufs
  { s with noc := { s.noc with bufs := NMap.keep (fun _ (l : List NocPkt) => l ≠ []) rest } }

/-- Whether an earlier packet for the same tile waits in front of an engine's request. -/
def nocBehind (s : State) (e t pos tile : Nat) : Bool :=
  ((nocAt s tile .request).head?).any fun p => !(p.eng = e && p.tag = t && p.pos = pos)

end Sys2Proof.Machine
end

