-- ==== Sys2Proof/Machine/Access.lean ====
section
/-! DEFINITION. Home-side accesses (R14, R59, R107, R109): accepted, waiting where they must, performed as one;
and the plain fabric requests: reads, writes, posted writes and flushes, remote atomics (chapters 02, 03, 18). -/

namespace Sys2Proof.Machine

open Reg

/-! Atomics (R246, R247, R360). -/

/-- Whether an atomic's form is one that Table 11.9 allows, as an ATOMIC packet carries it (Table 14.1). -/
def atomicOk (arg addr : Nat) : Bool :=
  let op := bits arg 3 0
  let f := bits arg 7 4
  let w := bits arg 8 8
  let float := 10 ≤ op
  op ≤ 12 && bits arg 63 9 == 0 && (op == 9 || arg / 2 ^ 64 == 0) &&
  (if float then f ≤ 2 && w == 0 else f == 0) &&
  addr % (if float then (if f = 0 then 4 else 2) else if w = 1 then 8 else 4) == 0

/-- Bytes of an atomic's target. -/
def atomicSize (arg : Nat) : Nat :=
  if 10 ≤ bits arg 3 0 then (if bits arg 7 4 = 0 then 4 else 2) else if bits arg 8 8 = 1 then 8 else 4

/-- The new value of an atomic's target (Table 11.8). -/
def atomicVal (arg m a : Nat) : Nat :=
  let n := atomicSize arg
  let w := 8 * n
  let a := a % 2 ^ w
  let f := bits arg 7 4
  let op := bits arg 3 0
  if op = 0 then (m + a) % 2 ^ w
  else if op = 1 then Nat.land m a
  else if op = 2 then Nat.lor m a
  else if op = 3 then Nat.xor m a
  else if op = 4 then (if toInt w a < toInt w m then a else m)
  else if op = 5 then (if toInt w m < toInt w a then a else m)
  else if op = 6 then min m a
  else if op = 7 then max m a
  else if op = 8 then a
  else if op = 9 then (if m = arg / 2 ^ 64 % 2 ^ w then a else m)
  else encodeF .rne f (combine32 (op - 10) (decodeF f m) (decodeF f a))

/-! Accesses. -/

def inCoherent (s : State) (line : Nat) : Bool := (extAt s (128 * line)).any fun p => p.2.mode = .coherent

/-- A line whose copy here is poisoned and whose standby may hold a good one (R337). -/
def needHeal (s : State) (line : Nat) : Bool :=
  poisonedIn s (128 * line) 128 && (extAt s (128 * line)).any fun p => mirrors s p.2

/-- PL_RD of a line for an access: to the page's holder, or to the standby (R109, R337). -/
def State.fetchLine (s : State) (id line : Nat) : State :=
  if needFetch s line then s.sendReq (placePkt s 0x20 (frameAt s (128 * line)).holder line) (.fetch id line)
  else s.sendReq { placePkt s 0x20 0 line with
    dst := s.get MIR_CFG_PEER_AGENT
    svcEpoch := s.get MIR_STATUS_SVC_EPOCH } (.fetch id line)

/-- An access accepted at its home slices: its COHERENT lines queue as home-side accesses, a write to a ZERO
page asks for the fill, lines held elsewhere are fetched. Its number is returned. -/
def State.openAcc (s : State) (org : Origin) (gen : Nat) (write : Bool) (a n : Nat) : Nat × State :=
  let id := s.dir.nextAcc
  let ls := linesOf a n
  let coh := ls.filter (inCoherent s)
  let pages := if write then (pagesOf a n).filter fun p => (frameOf s p).zero else []
  let fetch := ls.filter fun l => needFetch s l || (! write && needHeal s l)
  let s := { s with dir := { s.dir with
    nextAcc := id + 1
    accs := NMap.insert s.dir.accs id ⟨org, gen, write, a, n, coh, pages, fetch⟩ } }.enter gen
  let s := s.askFill pages
  let s := fetch.foldl (fun s l => s.fetchLine id l) s
  (id, coh.foldl (fun s l => s.submit (ownTxn l (if write then .homeWrite else .homeRead) 4096 id gen)) s)

/-- The order domain key of a packet. -/
def domKey (p : Pkt) : Nat := 8 * p.src + p.domain

/-- Whether an earlier posted write of the same source and domain still waits (R73). -/
def postedBefore (s : State) (id : Nat) (p : Pkt) : Bool :=
  s.dir.accs.any fun (x : Nat × HomeAcc) => x.1 < id && match x.2.org with
    | .fabric q => q.opcode = 0x70 && domKey q = domKey p
    | _ => false

/-- Whether two accesses come from one tile of one descriptor, which is performed as a whole (R152). -/
def sameTile : Origin → Origin → Bool
  | .tile c i t, .tile c' i' t' => c == c' && i == i' && t == t'
  | _, _ => false

/-- Whether an earlier access still stands on a line of this one outside the COHERENT extents, whose own queues keep that
order: the home performs accesses to a line in the order in which it accepted them (R14). -/
def heldBehind (s : State) (id : Nat) (a : HomeAcc) : Bool :=
  s.dir.accs.any fun (x : Nat × HomeAcc) =>
    x.1 < id && (a.write || x.2.write) && !sameTile a.org x.2.org &&
      (linesOf a.off a.len).any fun l => x.2.on l && !a.lines.contains l

/-- Whether an access may be performed now. -/
def accReady (s : State) (id : Nat) : Bool :=
  match NMap.find s.dir.accs id with
  | none => false
  | some a =>
    (s.dir.txns.all fun t => t.acc ≠ id || t.ready) &&
    (a.pages.all fun p => ! (frameOf s p).zero) && a.fetch = [] && !heldBehind s id a &&
    match a.org with
    | .fabric p => p.opcode ≠ 0x70 || !postedBefore s id p
    | _ => true

/-- An access ends: its lines are free for the next transactions, its generation loses it (R38). -/
def State.closeAcc (s : State) (id : Nat) : State :=
  match NMap.find s.dir.accs id with
  | none => s
  | some a =>
    { s with dir := { s.dir with
      accs := NMap.erase s.dir.accs id
      txns := s.dir.txns.filter fun t => t.acc ≠ id } }.leave a.gen

/-- An access whose mirrored write still waits keeps its place in the generation's count. -/
def State.closeAccHeld (s : State) (id : Nat) : State :=
  { s with dir := { s.dir with
    accs := NMap.erase s.dir.accs id
    txns := s.dir.txns.filter fun t => t.acc ≠ id } }

/-- Whether a write to this offset is held for the standby. -/
def heldAt (s : State) (a : Nat) : Bool := (extAt s a).any fun x => mirrors s x.2

/-- What the posted writes of a source in a domain have met since its last FlushReq (R73). -/
def postedBad (s : State) (k : Nat) : Nat := (NMap.find s.dir.posted k).elim stOK Posted.bad

/-- The first refusal is the one that FlushDone reports. -/
def State.notePosted (s : State) (k st : Nat) : State :=
  if postedBad s k = stOK then { s with dir := { s.dir with posted := NMap.insert s.dir.posted k ⟨st⟩ } } else s

/-- A posted write accepted earlier that could not be completed: the FlushReq that covers it reports it, or the next
one (R73). -/
def State.postedFails (s : State) (id k st : Nat) : State :=
  if s.dir.flushes.any fun f => f.covers.contains id then
    let fail := fun (f : Flush) => if f.covers.contains id ∧ f.status = stOK then { f with status := st } else f
    { s with dir := { s.dir with flushes := s.dir.flushes.map fail } }
  else s.notePosted k st

/-- An access that ends with a reply, the last packet sent: its generation loses it once that reply has left (R38). -/
def State.closeReplied (s : State) (id gen : Nat) : State := (s.closeAccHeld id).leaveReply gen

/-- A fabric request performed at its home (R14, R72, R73, R247), and its reply. -/
def State.performFabric (s : State) (id : Nat) (p : Pkt) (gen : Nat) : State :=
  let off := rpaOff p.addr
  if p.opcode = 0x01 then
    let (d, bad) := rdPool s off p.len
    let s := if bad then s.poisonRead else s
    (s.send { replyTo s p 0x03 (if bad then stPoisoned else stOK) with len := p.len, payload := d }).closeReplied id gen
  else if p.opcode = 0x02 then
    let held := heldAt s off
    let r := replyTo s p 0x04 stOK
    let (st, s) := s.storeSt off (p.payload.map some) p.poison (.reply r gen)
    let s := s.keepFirst p st
    if held then s.closeAccHeld id else ((s.send { r with status := st }).closeReplied id gen).wakeDups p
  else if p.opcode = 0x70 then
    let held := heldAt s off
    let (st, s) := s.storeSt off (p.payload.map some) p.poison (.acc id gen (domKey p))
    let s := (if st = stOK then s else s.postedFails id (domKey p) st).keepFirst p st
    if held then s.closeAccHeld id else s.closeAcc id
  else
    let n := atomicSize p.arg
    let v := leNat (rdBytes s.mem off n)
    if poisonedIn s off n ∨ lostIn s off n then
      (((s.retain p stPoisoned none).send (atomicReply s p stPoisoned none)).closeReplied id gen).wakeDups p
    else
      let held := heldAt s off
      let r := atomicReply s p stOK (some v)
      let s := s.store off ((natLe n (atomicVal p.arg v p.aux)).map some) false (.reply r gen)
      let s := s.retain p stOK (some v)
      (if held then s.closeAccHeld id else (s.send r).closeReplied id gen).wakeDups p

/-- Step 4 of Table 18.5: the current value alone, as every earlier access has left it. -/
def State.answerUncertain (s : State) (id : Nat) (p : Pkt) (gen : Nat) : State :=
  (s.send (atomicReply s p stUncertain (some (leNat (rdBytes s.mem (rpaOff p.addr) (atomicSize p.arg)))))).closeReplied id gen

/-- An access tried: a fabric request that may go is performed; engine and tile accesses wait for their own
command. -/
def State.tryAcc (s : State) (id : Nat) : State :=
  if accReady s id then
    match NMap.find s.dir.accs id with
    | some a => match a.org with
      | .fabric p => s.performFabric id p a.gen
      | .uncertain p => s.answerUncertain id p a.gen
      | _ => s
    | none => s
  else s

/-- Every waiting access tried, in acceptance order (R107). -/
def State.tryAccs (s : State) : State := (NMap.keys s.dir.accs).foldl State.tryAcc s

/-! Fabric requests. -/

/-- A fabric request admitted whole against the extent of its first byte (R23), and performed at once where
nothing stands in its way. `n` is the bytes it touches. -/
def State.fabricAccess (s : State) (port : Nat) (p : Pkt) (n : Nat) (k : ReqKind) (need : Nat) (write : Bool) : State :=
  match fabricGate s p with
  | .pass =>
    match admitRpa s p.tenant p.addr n k need with
    | .refuse st mm =>
      let (ut, ui) := portUnit port
      let s := s.admitFail ut ui p.tenant p.src p.addr st mm
      if p.opcode = 0x01 then s.answer p st else s.answerWrite p st
    | .ok _ _ =>
      let off := rpaOff p.addr
      let s := (s.admitted port p off n).touch 0 off n
      let (id, s) := s.openAcc (.fabric p) (genNow s) write off n
      s.tryAcc id
  | g => s.gateFail p g

/-- RD (R23, R47, R72). -/
def State.doRd (port : Nat) (p : Pkt) (s : State) : State := s.fabricAccess port p p.len .read rtRead false

/-- WR (R23, R47, R72). -/
def State.doWr (port : Nat) (p : Pkt) (s : State) : State := s.fabricAccess port p p.payload.length .write rtWrite true

/-- WrPosted (R73): no reply; a refusal is kept for the next FlushDone. -/
def State.doWrPosted (port : Nat) (p : Pkt) (s : State) : State :=
  match fabricGate s p with
  | .pass =>
    match admitRpa s p.tenant p.addr p.payload.length .posted rtWrite with
    | .refuse st mm =>
      let (ut, ui) := portUnit port
      ((s.admitFail ut ui p.tenant p.src p.addr st mm).keepFirst p st).notePosted (domKey p) st
    | .ok _ _ =>
      let off := rpaOff p.addr
      let s := (s.admitted port p off p.payload.length).touch 0 off p.payload.length
      let (id, s) := s.openAcc (.fabric p) (genNow s) true off p.payload.length
      s.tryAcc id
  | .drop => s.gateFail p .drop
  | .refuse st => (s.gateFail p (.refuse st)).notePosted (domKey p) st

/-- Posted writes accepted and not yet performed, or not yet committed on the standby: their access numbers. -/
def postedOut (s : State) (sel : Pkt → Bool) : List Nat :=
  s.dir.accs.filterMap fun (x : Nat × HomeAcc) => match x.2.org with
    | .fabric q => if q.opcode = 0x70 && sel q then some x.1 else none
    | _ => none

/-- Posted writes performed here whose standby has not committed them yet, of the sources and domains chosen. -/
def heldIds (s : State) (sel : Nat → Bool) : List Nat :=
  s.mir.held.filterMap fun (h : Nat × Held) => match h.2.forWhom with
    | .acc id _ k => if sel k then some id else none
    | _ => none

/-- FlushReq (R73): covers the source's posted writes of the domain still outstanding; the status it will
report is taken now, and a new count begins. -/
def State.doFlushReq (p : Pkt) (s : State) : State :=
  match fabricGate s p with
  | .pass =>
    let k := domKey p
    let covers := postedOut s (fun q => domKey q = k) ++ heldIds s (· == k)
    { s with dir := { s.dir with
      flushes := s.dir.flushes ++ [⟨p, postedBad s k, covers⟩]
      posted := NMap.erase s.dir.posted k } }
  | g => s.gateFail p g

/-- Whether every posted write that a flush covers has been performed and committed. -/
def flushReady (s : State) (f : Flush) : Bool :=
  f.covers.all fun id => (NMap.find s.dir.accs id).isNone && !(heldIds s fun _ => true).contains id

/-- FlushDone of the oldest flush of a source and domain. -/
def State.doFlushDone (src dom : Nat) (s : State) : State :=
  match s.dir.flushes.find? fun f => domKey f.req = 8 * src + dom with
  | none => s
  | some f =>
    if flushReady s f then
      let s := { s with dir := { s.dir with flushes := s.dir.flushes.erase f } }
      ((s.keepFirst f.req f.status).send (replyTo s f.req 0x78 f.status)).wakeDups f.req
    else s

/-- The address form and admission of an atomic packet (Table 18.5 step 5): the status that refuses it. -/
def atomicRefused (s : State) (p : Pkt) : Option (Nat × Bool) :=
  match firstGate [epochGate s p, agentGate s p] with
  | .refuse st => some (st, false)
  | .drop => some (stPermission, false)
  | .pass =>
    match admitRpa s p.tenant p.addr (atomicSize p.arg) .atomic rtAtomic with
    | .refuse st mm => some (st, mm)
    | .ok _ _ => if atomicOk p.arg p.addr then none else some (stPermission, false)

/-- A remote atomic, through Table 18.5. `dup` says that R280 found it to be a duplicate; `young` that its
reorder state was set by this packet, or ENABLE less than 200 µs ago. -/
def State.doAtomic (port : Nat) (p : Pkt) (dup young : Bool) (s : State) : State :=
  if shut s then s
  else if headerBad p then s.gateFail p (.refuse stPermission)
  else if epochGate s p = .drop then s.gateFail p .drop
  else
    match serviceGate s p with
    | .refuse st => s.gateFail p (.refuse st)
    | _ =>
      let again := p.retry || dup
      if again ∧ requestRuns s p then { s with err := { s.err with waitDup := s.err.waitDup ++ [p] } }
      else
        match (if again then retained s p else none) with
        | some r => s.answerRetained p r
        | none =>
          if dup ∨ (p.retry ∧ young) then
            let (id, s) := (s.count ERR_ATOM_CNT_UNCERTAIN 1).openAcc (.uncertain p) (genNow s) false (rpaOff p.addr) (atomicSize p.arg)
            s.tryAcc id
          else
            match atomicRefused s p with
            | some (st, mm) =>
              let (ut, ui) := portUnit port
              let s := if st = stFenced then s.count SEC_CNT_FENCED_REPLIES 1 else s
              ((s.admitFail ut ui p.tenant p.src p.addr st mm).retain p st none).send (atomicReply s p st none)
            | none =>
              let off := rpaOff p.addr
              let n := atomicSize p.arg
              let s := (s.admitted port p off n).touch 0 off n
              let (id, s) := s.openAcc (.fabric p) (genNow s) true off n
              s.tryAcc id

/-- RD: a fabric read (R23, R72). -/
def execRd (port : Nat) (p : Pkt) (s : State) : Host.Outcome State Fault Refusal := .next (s.doRd port p)

/-- WR: a fabric write (R72). -/
def execWr (port : Nat) (p : Pkt) (s : State) : Host.Outcome State Fault Refusal := .next (s.doWr port p)

/-- WRPOSTED (R73). -/
def execWrposted (port : Nat) (p : Pkt) (s : State) : Host.Outcome State Fault Refusal := .next (s.doWrPosted port p)

/-- FLUSHREQ (R73). -/
def execFlushreq (_port : Nat) (p : Pkt) (s : State) : Host.Outcome State Fault Refusal := .next (s.doFlushReq p)

/-- FLUSHDONE (R73). -/
def execFlushdone (src dom : Nat) (s : State) : Host.Outcome State Fault Refusal := .next (s.doFlushDone src dom)

/-- ZERO_FILL_DONE (R107): the fill asked for ends, and the waiting writes go on in acceptance order. -/
def execZeroFillDone (page : Nat) (s : State) : Host.Outcome State Fault Refusal :=
  if s.plc.fills.contains page then
    let s := s.fillPage page
    let ls := (s.dir.txns.filter fun t => 128 * t.line / 2097152 = page).map Txn.line
    .next (ls.foldl State.startLine s).tryAccs
  else .next s

end Sys2Proof.Machine
end

