-- ==== Sys2Proof/Machine/Coherence.lean ====
section
/-! DEFINITION. The firn directory's and the region homes' commands (chapter 03): one meaning for each. -/

namespace Sys2Proof.Machine

open Reg

/-! Agent requests (R47, R48, R54). -/

/-- Whether the directory serves an agent's request (R48, R50, DIR_CFG.ENABLE). -/
def dirServes (s : State) (p : Pkt) : Bool :=
  s.flag DIR_CFG_ENABLE && mapped s p.src &&
  (p.opcode == 0x46 || p.opcode == 0x47 || !s.dir.sweepAgents.contains p.src)

/-- A coherence request admitted and queued at its home slice; during coherence recovery only evictions are (R345). R22's
check of the node number comes first; the directory's own checks (R48, R50, R345, DIR_CFG.ENABLE) come before the extent's
(DESIGN CHOICE, log entry 164). -/
def State.doCoh (port : Nat) (p : Pkt) (k : TxnKind) (need : Nat) (s : State) : State :=
  match fabricGate s p with
  | .pass =>
    let recovering := s.flag MIR_STATUS_COH_RECOVER && p.opcode ≠ 0x46 && p.opcode ≠ 0x47
    if rpaNode p.addr = s.node ∧ (¬ dirServes s p ∨ recovering) then s.answerWrite p stPermission
    else match admitRpa s p.tenant p.addr 1 .coherence need with
      | .refuse st mm =>
        let (ut, ui) := portUnit port
        (s.admitFail ut ui p.tenant p.src p.addr st mm).answerWrite p st
      | .ok _ _ =>
        let line := rpaOff p.addr / 128
        let g := genNow s
        let s := ((s.admitted port p (128 * line) 128).touch 0 (128 * line) 128).enter g
        s.submit { ownTxn line k p.src 0 g with req := p }
  | g => s.gateFail p g

/-- LOAD_COPY (Table 3.6). -/
def execLoadCopy (port : Nat) (p : Pkt) (s : State) : Host.Outcome State Fault Refusal :=
  .next (s.doCoh port p .loadCopy rtRead)

/-- LOAD_OWN. -/
def execLoadOwn (port : Nat) (p : Pkt) (s : State) : Host.Outcome State Fault Refusal :=
  .next (s.doCoh port p .loadOwn (rtRead + rtWrite))

/-- CLAIM. -/
def execClaim (port : Nat) (p : Pkt) (s : State) : Host.Outcome State Fault Refusal :=
  .next (s.doCoh port p .claim (rtRead + rtWrite))

/-- PEEK. -/
def execPeek (port : Nat) (p : Pkt) (s : State) : Host.Outcome State Fault Refusal :=
  .next (s.doCoh port p .peek rtRead)

/-- PUT_LINE. -/
def execPutLine (port : Nat) (p : Pkt) (s : State) : Host.Outcome State Fault Refusal :=
  .next (s.doCoh port p .putLine rtWrite)

/-- PUT_MASKED. -/
def execPutMasked (port : Nat) (p : Pkt) (s : State) : Host.Outcome State Fault Refusal :=
  .next (s.doCoh port p .putMasked rtWrite)

/-- DROP_CLEAN. -/
def execDropClean (port : Nat) (p : Pkt) (s : State) : Host.Outcome State Fault Refusal :=
  .next (s.doCoh port p .dropClean 0)

/-- DROP_DIRTY. -/
def execDropDirty (port : Nat) (p : Pkt) (s : State) : Host.Outcome State Fault Refusal :=
  .next (s.doCoh port p .dropDirty 0)

/-! Answers (R53, R55, R56). -/

/-- KILL_ACK: invalidated, no dirty data. -/
def execKillAck (p : Pkt) (s : State) : Host.Outcome State Fault Refusal :=
  let line := ansLine p
  if lostWaits s p then .next (s.lostAnswer line p.src false false)
  else match waiting s p [.kill, .retrieve] with
    | some t => .next ((s.answered t p.src id).tryAccs)
    | none => .next s

/-- FWD_ACK: the owner's result for a forwarded snoop; MISS and RESULT I leave it without the line. -/
def execFwdAck (p : Pkt) (s : State) : Host.Outcome State Fault Refusal :=
  match waiting s p [.fwdCopy, .fwdOwn, .fwdPeek] with
  | some t => .next ((s.answered t p.src fun t => { t with result := p.result, missed := t.missed || p.result == 5 }).tryAccs)
  | none => .next s

/-- FWD_ACK_LINE: as FWD_ACK, with dirty data that goes to memory before DONE. -/
def execFwdAckLine (p : Pkt) (s : State) : Host.Outcome State Fault Refusal :=
  match waiting s p [.fwdCopy, .fwdOwn, .fwdPeek] with
  | some t =>
    .next (((s.writeBack (ansLine p) p).answered t p.src fun t =>
      { t with result := p.result, missed := t.missed || p.result == 5 }).tryAccs)
  | none => .next s

/-- RETRIEVE_LINE: dirty data in answer to RETRIEVE, or to FWD_PEEK with TARGET home (R59). -/
def execRetrieveLine (p : Pkt) (s : State) : Host.Outcome State Fault Refusal :=
  let line := ansLine p
  if lostWaits s p then .next ((s.writeBack line p).lostAnswer line p.src true false)
  else match waiting s p [.retrieve, .fwdPeek] with
    | some t => .next (((s.writeBack line p).answered t p.src fun t => { t with result := 4 }).tryAccs)
    | none => .next s

/-- INBOUND_SNOOP (R52): a snoop that reaches a node is discarded and counted. -/
def execInboundSnoop (_port : Nat) (p : Pkt) (s : State) : Host.Outcome State Fault Refusal :=
  if 0x50 ≤ p.opcode ∧ p.opcode ≤ 0x54 then .next (s.count FAB_CNT0_HDR_BAD 1) else .next s

/-! The home's own steps. -/

/-- HOME_TRANSACTION_START (R60). -/
def execHomeTransactionStart (line : Nat) (s : State) : Host.Outcome State Fault Refusal :=
  .next (s.startLine line).tryAccs

/-- HOLD_WINDOW_END (R61): the window has run out, and what waited for it may start. -/
def execHoldWindowEnd (line : Nat) (s : State) : Host.Outcome State Fault Refusal :=
  match NMap.find s.dir.holds line with
  | some (_, t) =>
    if t ≤ s.now then
      .next ((({ s with dir := { s.dir with holds := NMap.erase s.dir.holds line } }.lostLater line).startLine line).tryAccs)
    else .next s
  | none => .next s

/-- Victims of a set (R64): entries with no transaction and no running hold window. -/
def victims (s : State) (line : Nat) : List (Nat × DirEntry) :=
  s.dir.entries.filter fun (e : Nat × DirEntry) =>
    dirSet s e.1 = dirSet s line && (s.dir.txns.all fun t => t.line ≠ e.1) && (holder s e.1).isNone

/-- The victim R64 chooses: state S before the others, then the least recently allocated; the rule does not rank OE and
OS, and with no S candidate the least recently allocated of both is taken (DESIGN CHOICE, log entry 165). -/
def victim (s : State) (line : Nat) : Option Nat :=
  let older := fun (b : Option (Nat × DirEntry)) (e : Nat × DirEntry) => match b with
    | none => some e
    | some x => if e.2.alloc < x.2.alloc then some e else some x
  let vs := victims s line
  match (vs.filter fun e => e.2.st = .shared).foldl older none with
  | some e => some e.1
  | none => (vs.foldl older none).map Prod.fst

/-- DIRECTORY_EVICTION (R64): for the waiting request of `line`, a victim of its full set is back-invalidated. -/
def execDirectoryEviction (line : Nat) (s : State) : Host.Outcome State Fault Refusal :=
  match s.dir.txns.find? fun t => t.line = line with
  | some t =>
    let evicting := s.dir.txns.any fun u => u.kind = .backInv && dirSet s u.line = dirSet s line
    if ¬ t.started ∧ needsEntry s t ∧ 16 ≤ (setLines s line).length ∧ ¬ evicting then
      match victim s line with
      | some v => .next ((s.count DIR_STAT_EVICTIONS 1).submit (ownTxn v .backInv 4096 0 0))
      | none => .next s
    else .next s
  | none => .next s

/-- An agent taken out of a line's entry (R66 step 1): whether it owned the line. -/
def State.dropAgent (s : State) (line agent : Nat) : Bool × State :=
  match entryOf s line with
  | none => (false, s)
  | some e =>
    if e.st ≠ .shared ∧ e.owner = agent then (true, s.ownerGone line)
    else
      let sh := e.sharers.drop agent
      (false, if e.st = .shared then s.leaveShared line sh else if e.st = .ownedSh then s.setEntry line .ownedSh e.owner sh else s)

/-- SNOOP_TIMEOUT (R66, R67): an agent has not answered in time. -/
def execSnoopTimeout (line agent : Nat) (s : State) : Host.Outcome State Fault Refusal :=
  let late := fun (w : Snoop) => w.agent = agent && w.sent + 1000 * s.get DIR_CFG_SNOOP_TIMEOUT_US ≤ s.now
  let note := fun (s : State) => (s.raise DIR_EVENT_SNOOP_TIMEOUT).put DIR_EVENT_TIMEOUT_AGENT agent
  match NMap.find s.dir.lost line with
  | some l =>
    if l.waits.any late then .next (((s.put DIR_EVENT_TIMEOUT_AGENT agent).lostAnswer line agent false true).tryAccs)
    else .next s
  | none =>
    match s.dir.txns.find? fun t => t.line = line && t.started && t.waits.any late with
    | none => .next s
    | some t =>
      let fwd := t.waits.any fun w => w.agent = agent && (w.kind = .fwdCopy || w.kind = .fwdOwn || w.kind = .fwdPeek)
      let owner := (entryOf s line).any fun e => e.st ≠ .shared && e.owner = agent
      let rec' : ErrIn :=
        { cls := if owner then 1 else 0, unitType := utDir, unitIndex := homeTile s (128 * line), cause := 0x0006,
          status := if owner then stPoisoned else stDevErr, tenant := (extAt s (128 * line)).map fun p => p.2.tenant,
          agent := agent, addr := some (s.node * 2 ^ 50 + 128 * line), info := 0 }
      let s := s.post rec'
      let s := if owner then ((s.fillNow line).poisonChunks [2 * line, 2 * line + 1]).closeRec utDir (homeTile s (128 * line)) else s
      let s := s.answered t agent fun t => { t with missed := t.missed || fwd }
      .next (note s).tryAccs

/-- ENTRY_LOST (R67): an entry cannot be read; its recovery begins, once a transaction that runs on the line has ended
(R60: one at a time). -/
def execEntryLost (line : Nat) (s : State) : Host.Outcome State Fault Refusal :=
  if (entryOf s line).isNone ∨ (extAt s (128 * line)).isNone ∨ (NMap.find s.dir.lost line).isSome then .next s
  else if s.dir.txns.any fun t => t.line = line && t.started then
    .next { s with dir := { s.dir with lostDue := insSorted line s.dir.lostDue } }
  else .next (s.lostNow line)

/-- DIR_AGENT_MAP_WRITE (R50): bits are set at once; cleared ones start the sweep, and read 1 until it ends. -/
def State.mapWrite (s : State) (n v : Nat) : State :=
  if s.dir.sweepAgents ≠ [] then s
  else
    let old := s.get (DIR_AGENT_MAP_MAP n)
    let gone := (List.range 64).filter fun b => bit old b && !bit v b
    let s := s.put (DIR_AGENT_MAP_MAP n) (Nat.lor old v)
    if gone = [] then s
    else
      let as := gone.map (64 * n + ·)
      let s := { s with dir := { s.dir with sweepAgents := as, sweepEnd := s.now + 1966080 } }
      as.foldl (fun s a => (s.dir.entries.filter fun (e : Nat × DirEntry) => recorded e.2 a).foldl
        (fun s e => s.submit (ownTxn e.1 .sweep a 0 0)) s) s

def execDirAgentMapWrite (n : Nat) (v : Word64) (s : State) : Host.Outcome State Fault Refusal :=
  if n < 64 then .next (s.mapWrite n v.toNat) else .next s

/-- MAP_SWEEP_DONE (R50 step 3): the walk has ended, and so have its snoops and the agents' requests accepted before it. -/
def execMapSweepDone (s : State) : Host.Outcome State Fault Refusal :=
  let open' := s.dir.txns.any fun t => t.kind = .sweep || (s.dir.sweepAgents.contains t.agent && t.acc = 0)
  if s.dir.sweepAgents ≠ [] ∧ s.dir.sweepEnd ≤ s.now ∧ ¬ open' then
    let s' := s.dir.sweepAgents.foldl (fun s a =>
      let f := DIR_AGENT_MAP_MAP (a / 64)
      s.put f (setBits (s.get f) (a % 64) (a % 64) 0)) s
    .next ({ s' with dir := { s'.dir with sweepAgents := [] } }.raise DIR_EVENT_MAP_SWEEP_DONE)
  else .next s

/-! Versions (R68, R69). -/

def State.setRegion (s : State) (id : Nat) (r : Region) : State :=
  { s with dir := { s.dir with regions := NMap.insert s.dir.regions id r } }

/-- A slot changed by `f` where `sel` picks it. -/
def Region.mapSlot (r : Region) (sel : Slot → Bool) (f : Slot → Slot) : Region :=
  { r with slots := r.slots.map fun v => if sel v then f v else v }

/-- A RETAINED slot without readers becomes STAGING (Table 3.8), and VERSION_FREE is set. -/
def Slot.freed (v : Slot) : Bool := v.role = .retained && v.readers = 0

def State.putRegionFree (s : State) (id : Nat) (r : Region) : State :=
  let free := r.slots.any Slot.freed
  let r := r.mapSlot Slot.freed fun v => { v with role := .staging, version := 0 }
  let s := s.setRegion id r
  if free then s.raise DIR_EVENT_VERSION_FREE else s

/-- VERACQUIRE (R69): the region's home takes a reference for the CURRENT version. -/
def execVeracquire (_port : Nat) (p : Pkt) (region : Nat) (s : State) : Host.Outcome State Fault Refusal :=
  match fabricGate s p with
  | .pass =>
    match NMap.find s.dir.regions region with
    | none => .next (s.answerWrite p stPermission)
    | some r =>
      if r.mode ≠ .published ∨ r.tenant ≠ p.tenant then .next (s.answerWrite p stPermission)
      else match r.slots.find? fun v => v.role = .current with
        | none => .next (s.answerWrite p stPermission)
        | some v =>
          if r.curVersion = 0 ∨ v.readers = 65535 then .next (s.answerWrite p stPermission)
          else
            let base := (NMap.find s.ext.table v.extent).elim 0 Extent.base
            let s := s.setRegion region (r.mapSlot (fun x => x.role = .current) fun x => { x with readers := x.readers + 1 })
            .next ((s.keepFirst p stOK).cohSend p { replyTo s p 0x79 stOK with
              len := 16, payload := natLe 4 v.version ++ natLe 4 v.extent ++ natLe 8 base })
  | g => .next (s.gateFail p g)

/-- VERRELEASE (R69): the region's home drops a reference to a version. -/
def execVerrelease (_port : Nat) (p : Pkt) (region version : Nat) (s : State) : Host.Outcome State Fault Refusal :=
  match fabricGate s p with
  | .pass =>
    match NMap.find s.dir.regions region with
    | none => .next (s.answerWrite p stPermission)
    | some r =>
      let sel := fun (v : Slot) => (v.role = .current || v.role = .retained) && v.version = version && v.readers ≠ 0
      if r.mode ≠ .published ∨ r.tenant ≠ p.tenant ∨ ¬ r.slots.any sel then .next (s.answerWrite p stPermission)
      else .next ((s.putRegionFree region (r.mapSlot sel fun v => { v with readers := v.readers - 1 })).answerWrite p stOK)
  | g => .next (s.gateFail p g)

/-! Region commands (R75). -/

def State.regRefuse (s : State) (de : Nat) : State := s.endCmd REG_CMD_CTL_STATUS REG_CMD_CTL_DETAIL stPermission de
def State.regOk (s : State) : State := s.endCmd REG_CMD_CTL_STATUS REG_CMD_CTL_DETAIL stOK 0

/-- HOLD_10NS of a command: 0x1FF takes the default (Table 3.13). -/
def cmdHold (s : State) : Nat :=
  if s.get REG_CMD1_HOLD_10NS = 0x1ff then s.get DIR_CFG_DEFAULT_HOLD_10NS else s.get REG_CMD1_HOLD_10NS

/-- Regions a node holds at most (R45). -/
def regionLimit : Nat := 65536

def theRegion (s : State) : Option Region := NMap.find s.dir.regions (s.get REG_CMD0_REGION_ID)

/-- CREATE (Table 3.14). -/
def execRegionCreate (s : State) : Host.Outcome State Fault Refusal :=
  let id := s.get REG_CMD0_REGION_ID
  let m := s.get REG_CMD1_MODE
  if s.flag REG_CMD_CTL_BUSY then .next s
  else if (theRegion s).isSome ∨ id / 2 ^ 26 ≠ s.node ∨ id % 2 ^ 26 = 0 then .next (s.regRefuse 0x1)
  else if regionLimit ≤ s.dir.regions.length then .next (s.regRefuse 0x3)
  else if m = 3 ∨ 500 < cmdHold s then .next (s.regRefuse 0x7)
  else if ¬ configured s (s.get REG_CMD1_TENANT) then .next (s.regRefuse 0x8)
  else
    .next ((s.setRegion id
      { mode := RMode.ofCode m, grantE := s.flag REG_CMD1_GRANT_E, hold := cmdHold s, curVersion := 0,
        tenant := s.get REG_CMD1_TENANT, slots := List.replicate 8 ⟨0, 0, .empty, 0⟩ }).regOk)

/-- DESTROY: refused while any extent names the region. -/
def execRegionDestroy (s : State) : Host.Outcome State Fault Refusal :=
  let id := s.get REG_CMD0_REGION_ID
  if s.flag REG_CMD_CTL_BUSY then .next s
  else if (theRegion s).isNone then .next (s.regRefuse 0x2)
  else if s.ext.table.any fun (x : Nat × Extent) => x.2.regionId = id then .next (s.regRefuse 0x4)
  else .next ({ s with dir := { s.dir with regions := NMap.erase s.dir.regions id } }.regOk)

/-- SET_HOLD (R62). -/
def execSetHold (s : State) : Host.Outcome State Fault Refusal :=
  if s.flag REG_CMD_CTL_BUSY then .next s
  else match theRegion s with
    | none => .next (s.regRefuse 0x2)
    | some r =>
      if 500 < cmdHold s then .next (s.regRefuse 0x7)
      else .next ((s.setRegion (s.get REG_CMD0_REGION_ID) { r with hold := cmdHold s }).regOk)

/-- The 128-byte record of Table 3.1. -/
def regionBytes (id : Nat) (r : Region) : List Byte :=
  natLe 4 id ++ natLe 1 (r.mode.code + 4 * b2n r.grantE) ++ natLe 1 1 ++ natLe 2 r.hold ++ natLe 4 r.curVersion ++
  natLe 2 r.tenant ++ natLe 2 0 ++
  (r.slots.flatMap fun v => natLe 4 v.extent ++ natLe 4 v.version ++ natLe 1 v.role.code ++ natLe 1 0 ++ natLe 2 v.readers) ++
  natLe 16 0

/-- QUERY. -/
def execRegionQuery (s : State) : Host.Outcome State Fault Refusal :=
  if s.flag REG_CMD_CTL_BUSY then .next s
  else match theRegion s with
    | none => .next (s.regRefuse 0x2)
    | some r =>
      let b := regionBytes (s.get REG_CMD0_REGION_ID) r
      .next (((List.range 16).foldl (fun s i => s.put (REG_VIEW_DATA i) (leNat (slice b (8 * i) 8))) s).regOk)

/-- ADD_VERSION. -/
def execAddVersion (s : State) : Host.Outcome State Fault Refusal :=
  let id := s.get REG_CMD0_REGION_ID
  let x := s.get REG_CMD0_ARG
  if s.flag REG_CMD_CTL_BUSY then .next s
  else match theRegion s with
    | none => .next (s.regRefuse 0x2)
    | some r =>
      let named := (NMap.find s.ext.table x).any fun e => e.regionId = id
      let held := r.slots.any fun v => v.role ≠ .empty && v.extent = x
      if r.mode ≠ .published ∨ ¬ named ∨ held then .next (s.regRefuse 0x5)
      else match r.slots.findIdx? fun v => v.role = .empty with
        | none => .next (s.regRefuse 0x6)
        | some i => .next ((s.setRegion id { r with slots := r.slots.set i ⟨x, 0, .staging, 0⟩ }).regOk)

/-- REMOVE_VERSION. -/
def execRemoveVersion (s : State) : Host.Outcome State Fault Refusal :=
  let x := s.get REG_CMD0_ARG
  let sel := fun (v : Slot) => v.role = .staging && v.extent = x
  if s.flag REG_CMD_CTL_BUSY then .next s
  else match theRegion s with
    | none => .next (s.regRefuse 0x2)
    | some r =>
      if r.mode ≠ .published ∨ ¬ r.slots.any sel then .next (s.regRefuse 0x5)
      else .next ((s.setRegion (s.get REG_CMD0_REGION_ID) (r.mapSlot sel fun _ => ⟨0, 0, .empty, 0⟩)).regOk)

/-- CLEAR_READERS (R69). -/
def execClearReaders (s : State) : Host.Outcome State Fault Refusal :=
  let v := s.get REG_CMD0_ARG
  let sel := fun (x : Slot) => (x.role = .current || x.role = .retained) && x.version = v
  if s.flag REG_CMD_CTL_BUSY then .next s
  else match theRegion s with
    | none => .next (s.regRefuse 0x2)
    | some r =>
      if r.mode ≠ .published ∨ ¬ r.slots.any sel then .next (s.regRefuse 0x5)
      else .next ((s.putRegionFree (s.get REG_CMD0_REGION_ID) (r.mapSlot sel fun x => { x with readers := 0 })).regOk)

/-- DIR_PROBE_ADDR_WRITE (Table 3.16): the entry of the line is loaded; a window that is no multiple of 10 ns is rounded
up (DESIGN CHOICE, log entry 167). -/
def State.probe (s : State) (v : Nat) : State :=
  let line := bits v 49 7
  let s := s.put DIR_PROBE_ADDR_LINE line
  let e := entryOf s line
  let left := match NMap.find s.dir.holds line with
    | some (_, t) => min 511 (divUp (t - s.now) 10)
    | none => 0
  let sh := match e with
    | some e => match e.sharers with
      | .exact ids => packElems 12 ids
      | .coarse gs => gs.foldl (fun n g => n + 2 ^ g) 0
    | none => 0
  let cnt := match e with
    | some e => match e.sharers with | .exact ids => ids.length | .coarse _ => 0
    | none => 0
  let coarse := e.any fun e => match e.sharers with | .coarse _ => true | .exact _ => false
  let st := match e with
    | none => 0
    | some e => match e.st with | .shared => 1 | .ownedEx => 2 | .ownedSh => 3
  let s := ((((((s.put DIR_PROBE_ST_VALID 1).put DIR_PROBE_ST_STATE st).put DIR_PROBE_ST_COARSE (b2n coarse)).put
    DIR_PROBE_ST_EXACT_COUNT cnt).put DIR_PROBE_ST_OWNER ((e.map DirEntry.owner).getD 0)).put
    DIR_PROBE_ST_HOLD_LEFT_10NS left)
  (List.range 4).foldl (fun s i => s.put (DIR_PROBE_SH_SHARERS i) (bits sh (64 * i + 63) (64 * i))) s

def execDirProbeAddrWrite (v : Word64) (s : State) : Host.Outcome State Fault Refusal := .next (s.probe v.toNat)

end Sys2Proof.Machine
end

