-- ==== Sys2Proof/Machine/Extent.lean ====
section
/-! DEFINITION. Extents, leases and the revocation fence (chapter 02): NODE_CAP, fences and generations, and one
meaning for each extent command and lease event. -/

namespace Sys2Proof.Machine

open Reg

/-! NODE_CAP (R24, R25). -/

/-- Data bytes of the HBM tier's pseudo-channels in service: FAILED ones and powered-down stacks do not count. -/
def usableHbm (s : State) : Nat :=
  (s.mch.hbmForm.map fun k =>
    if s.get (MEMH_STATUS_STATE k) = 2 then
      ((List.range 64).filter fun c => s.get (MEMH_PC_STATE k c) ≠ 4 && s.get (MEMH_PC_STATE k c) ≠ 5).length
    else 0).foldl (· + ·) 0 * hbmU s * 256

/-- Bytes of a DDR5 set's ranks less their spare areas. -/
def usableSet (s : State) (n : Nat) : Nat :=
  if s.get (MEMD_SET_STATE n) = 1 ∨ s.get (MEMD_SET_STATE n) = 2 then
    ((setRanks s n).map fun u => if s.get (MEMD_RANK_STATE (u / 4) (u % 4)) = 4 then 0 else rankU s n u * 4096).foldl (· + ·) 0
  else 0

/-- NODE_CAP computed again (R24), and OVERCOMMIT with it. -/
def State.recap (s : State) : State :=
  let backing := usableHbm s + ((List.range 6).map (usableSet s)).foldl (· + ·) 0
  let s := s.put EXT_CAP_NODE_CAP ((backing - 34359738368) / 2097152)
  if overcommitted s then s.raise EXT_EVENT_OVERCOMMIT else s

/-! Leases (R33 to R35). -/

/-- Extents that an agent holds on the node, in the sense of R33. -/
def heldBy (s : State) (a : Nat) : Nat := (s.ext.table.filter fun (x : Nat × Extent) => x.2.holder = a).length

/-- Nanoseconds of a term or period in milliseconds. -/
def msNs (n : Nat) : Nat := 1000000 * n

/-- The state an extent takes under its holder's lease, and the lease that CREATE or SET_HOLDER leaves (R33). -/
def State.joinLease (s : State) (a : Nat) : ExtState × State :=
  let fresh := { s with ext := { s.ext with
    leases := NMap.insert s.ext.leases a
      ⟨.held, s.now + msNs (s.get EXT_CFG_DEFAULT_TERM_MS), s.get EXT_CFG_DEFAULT_TERM_MS, 0⟩ } }
  match NMap.find s.ext.leases a with
  | none => (.active, fresh)
  | some l =>
    match l.st with
    | .held => (.active, s)
    | .grace => (.grace, s)
    | .expired => (.active, fresh)

/-- A lease ends when its holder holds nothing more (R33). -/
def State.dropLease (s : State) (a : Nat) : State :=
  if heldBy s a = 0 then { s with ext := { s.ext with leases := NMap.erase s.ext.leases a } } else s

def State.setExtent (s : State) (id : Nat) (x : Extent) : State :=
  { s with ext := { s.ext with table := NMap.insert s.ext.table id x } }

/-- Every extent of a holder in one state changed to another. -/
def State.moveExtents (s : State) (a : Nat) (old new : ExtState) : State :=
  { s with ext := { s.ext with
    table := NMap.mapVal (fun _ (x : Extent) => if x.holder = a ∧ x.st = old then { x with st := new } else x) s.ext.table } }

/-! The fence (R39, R42). -/

/-- What the trace writer does when its buffer extent is fenced (R372). -/
def State.fenceTrace (s : State) (id : Nat) : State :=
  if s.flag DBG_TCFG_MODE ∧ s.get DBG_TBUF_EXTENT_ID = id then (s.put DBG_TCFG_MODE 0).raise DBG_TSTAT_BUF_LOST else s

/-- A fence that reaches an extent being published returns its slot to STAGING (R70). -/
def State.unpublish (s : State) (id : Nat) : State :=
  let back := fun (v : Slot) => if v.extent = id ∧ v.role = .publishing then { v with role := .staging } else v
  { s with dir := { s.dir with regions := NMap.mapVal (fun _ (g : Region) => { g with slots := g.slots.map back }) s.dir.regions } }

/-- Steps 1 and 2 of Table 2.4 for one extent. -/
def State.fenceSet (s : State) (id cause : Nat) : State :=
  match NMap.find s.ext.table id with
  | none => s
  | some x => (s.setExtent id { x with st := .fencing, fenceTime := s.now, fenceGen := 0, cause := cause }).fenceTrace id |>.unpublish id

/-- Whether fewer than three generations are undrained (R42). -/
def mayBegin (s : State) : Bool := s.get EXT_FENCE_CUR_GEN - s.get EXT_FENCE_DONE_GEN < 3

/-- Whether some fence waits for its step 3. -/
def fenceWaits (s : State) : Bool := s.ext.table.any fun (x : Nat × Extent) => x.2.st = .fencing && x.2.fenceGen = 0

/-- Lines of an extent that have a directory entry. -/
def entryLines (s : State) (x : Extent) : List Nat :=
  (NMap.keys s.dir.entries).filter fun l => x.has (128 * l)

/-- Step 3 of Table 2.4: a generation begins, every fence ready joins it, and step 5 starts: the held lines of
its COHERENT extents are back-invalidated. -/
def State.beginGen (s : State) : State :=
  let g := s.get EXT_FENCE_CUR_GEN + 1
  let xs := NMap.vals (NMap.keep (fun _ (x : Extent) => x.st = .fencing && x.fenceGen = 0) s.ext.table)
  let s := { s with ext := { s.ext with
    table := NMap.mapVal (fun _ (x : Extent) => if x.st = ExtState.fencing ∧ x.fenceGen = 0 then { x with fenceGen := g } else x)
      s.ext.table } }
  let s := s.put EXT_FENCE_CUR_GEN g
  (xs.flatMap (entryLines s)).foldl (fun s l => s.submit (ownTxn l .backInv 4096 0 0)) s

/-- A lease's or a tenant's fence: steps 1 and 2 at once, step 3 as soon as R42 lets it. -/
def State.fenceMany (s : State) (ids : List Nat) (cause : Nat) : State :=
  let s := ids.foldl (fun s i => s.fenceSet i cause) s
  if ids ≠ [] ∧ mayBegin s then s.beginGen else s

/-! Commands (R44, Table 2.12). -/

def State.extRefuse (s : State) (de : Nat) : State := s.endCmd EXT_CMD_CTL_STATUS EXT_CMD_CTL_DETAIL stPermission de
def State.extOk (s : State) : State := s.endCmd EXT_CMD_CTL_STATUS EXT_CMD_CTL_DETAIL stOK 0

/-- The extent a command names. -/
def theExtent (s : State) : Option Extent := NMap.find s.ext.table (s.get EXT_CMD0_EXTENT_ID)

/-- Whether two ranges of granules share one. -/
def overlaps (x : Extent) (base len : Nat) : Bool :=
  base < x.base + 2097152 * x.length && x.base < base + 2097152 * len

/-- The refusal of a CREATE by the checks before placement, in the order of R44. -/
def createRefusal (s : State) : Option Nat :=
  let base := s.get EXT_CMD1_BASE
  let len := s.get EXT_CMD2_LENGTH
  let id := s.get EXT_CMD0_EXTENT_ID
  let t := s.get EXT_CMD0_TENANT
  if base % 2097152 ≠ 0 ∨ len = 0 ∨ 262144 < len then some 0x2
  else if s.get EXT_CAP_NODE_CAP * 2097152 < base + 2097152 * len ∨
      s.ext.table.any (fun (x : Nat × Extent) => overlaps x.2 base len) then some 0x1
  else if s.get EXT_CAP_MAX_EXTENTS ≤ s.ext.table.length then some 0x3
  else if (theExtent s).isSome ∨ id / 2 ^ 26 ≠ s.node ∨ id % 2 ^ 26 = 0 then some 0x4
  else if s.get MIR_STATUS_STATE = 3 ∨ s.get MIR_STATUS_STATE = 4 then some 0x5
  else if ¬ configured s t ∨ agentOf s (s.get EXT_CMD0_HOLDER) ≠ some t then some 0x7
  else if s.flag EXT_EVENT_OVERCOMMIT then some 0x8
  else if ¬ (NMap.find s.dir.regions (s.get EXT_CMD2_REGION_ID)).any (fun r => r.tenant = t) then some 0xa
  else none

/-- CREATE (R27 to R29, R33, R106). -/
def execExtCreate (s : State) : Host.Outcome State Fault Refusal :=
  if s.flag EXT_CMD_CTL_BUSY then .next s
  else match createRefusal s with
    | some de => .next (s.extRefuse de)
    | none =>
      let base := s.get EXT_CMD1_BASE
      let len := s.get EXT_CMD2_LENGTH
      match s.placePages (base / 2097152) len with
      | none => .next (s.hbmLow.extRefuse 0xb)
      | some s' =>
        let a := s.get EXT_CMD0_HOLDER
        let (st, s') := s'.joinLease a
        .next (((s'.zeroCounters (base / 2097152) len).setExtent (s.get EXT_CMD0_EXTENT_ID)
          { tenant := s.get EXT_CMD0_TENANT, st := st, mode := RMode.ofCode (s.get EXT_CMD2_MODE),
            mirrored := s.flag EXT_CMD2_MIRRORED, rights := s.get EXT_CMD2_RIGHTS, base := base, length := len,
            holder := a, createTime := s.now, fenceTime := 0, fenceGen := 0,
            regionId := s.get EXT_CMD2_REGION_ID, cause := 0 }).extOk)

/-- REVOKE's steps 1 to 3 and its end (R42, R44). -/
def State.revokeNow (s : State) (id : Nat) : State := ((s.fenceSet id 1).beginGen).extOk

/-- REVOKE (R39, R42): while three generations are undrained it keeps BUSY and runs none of its steps. -/
def execRevoke (s : State) : Host.Outcome State Fault Refusal :=
  if s.flag EXT_CMD_CTL_BUSY then .next s
  else match theExtent s with
    | none => .next (s.extRefuse 0x9)
    | some x =>
      if x.st = .fencing ∨ x.st = .scrubbing then .next (s.extRefuse 0x5)
      else if mayBegin s then .next (s.revokeNow (s.get EXT_CMD0_EXTENT_ID))
      else .next ({ s with ext := { s.ext with revokeWait := some (s.get EXT_CMD0_EXTENT_ID) } }.put EXT_CMD_CTL_BUSY 1)

/-- SET_HOLDER (R33, Table 2.12). -/
def execSetHolder (s : State) : Host.Outcome State Fault Refusal :=
  if s.flag EXT_CMD_CTL_BUSY then .next s
  else match theExtent s with
    | none => .next (s.extRefuse 0x9)
    | some x =>
      let a := s.get EXT_CMD0_HOLDER
      if x.st ≠ .active then .next (s.extRefuse 0x5)
      else if agentOf s a ≠ some x.tenant then .next (s.extRefuse 0x7)
      else
        let (st, s) := s.joinLease a
        .next (((s.setExtent (s.get EXT_CMD0_EXTENT_ID) { x with holder := a, st := st }).dropLease x.holder).extOk)

/-- SET_RIGHTS (Table 2.12). -/
def execSetRights (s : State) : Host.Outcome State Fault Refusal :=
  if s.flag EXT_CMD_CTL_BUSY then .next s
  else match theExtent s with
    | none => .next (s.extRefuse 0x9)
    | some x =>
      if x.st = .fencing ∨ x.st = .scrubbing then .next (s.extRefuse 0x5)
      else .next ((s.setExtent (s.get EXT_CMD0_EXTENT_ID) { x with rights := s.get EXT_CMD2_RIGHTS }).extOk)

/-- The 64-byte entry of Table 2.2. -/
def extentBytes (id : Nat) (x : Extent) : List Byte :=
  natLe 4 id ++ natLe 2 x.tenant ++ natLe 1 (x.st.code + 8 * x.mode.code + 32 * b2n x.mirrored) ++ natLe 1 x.rights ++
  natLe 8 x.base ++ natLe 4 x.length ++ natLe 2 x.holder ++ natLe 2 0 ++ natLe 8 x.createTime ++ natLe 8 x.fenceTime ++
  natLe 4 x.fenceGen ++ natLe 4 x.regionId ++ natLe 1 x.cause ++ natLe 15 0

/-- QUERY (R30): the entry into EXT_CMD0 to EXT_CMD2 and EXT_VIEW0 to EXT_VIEW7. -/
def execExtQuery (s : State) : Host.Outcome State Fault Refusal :=
  if s.flag EXT_CMD_CTL_BUSY then .next s
  else match theExtent s with
    | none => .next (s.extRefuse 0x9)
    | some x =>
      let s := ((s.put EXT_CMD0_HOLDER x.holder).put EXT_CMD0_TENANT x.tenant).put EXT_CMD1_BASE x.base
      let s := ((((s.put EXT_CMD2_REGION_ID x.regionId).put EXT_CMD2_RIGHTS x.rights).put EXT_CMD2_MODE x.mode.code).put
        EXT_CMD2_MIRRORED (b2n x.mirrored)).put EXT_CMD2_LENGTH x.length
      let b := extentBytes (s.get EXT_CMD0_EXTENT_ID) x
      .next (((List.range 8).foldl (fun s i => s.put (EXT_VIEW_DATA i) (leNat (slice b (8 * i) 8))) s).extOk)

/-! Leases. -/

/-- A renewal from an agent with a requested term, and the status its write completes with (R34, R35); the term's range is
checked before the lease's state, so an EXPIRED lease answers an out-of-range term with PERMISSION (DESIGN CHOICE, log entry
168). -/
def State.renew (s : State) (a term : Nat) : Nat × State :=
  match NMap.find s.ext.leases a with
  | none => (stPermission, s)
  | some l =>
    if term ≠ 0 ∧ (term < 100 ∨ s.get EXT_CFG_TERM_MAX_MS < term) then (stPermission, s)
    else
      let t := if term = 0 then s.get EXT_CFG_DEFAULT_TERM_MS else term
      let s' := { s with ext := { s.ext with
        leases := NMap.insert s.ext.leases a ⟨.held, max l.expiry (s.now + msNs t), t, 0⟩ } }
      match l.st with
      | .held => (stOK, s')
      | .grace => (stOK, (s'.moveExtents a .grace .active).raise EXT_EVENT_LATE_RENEW)
      | .expired => (stRevoked, s)

/-- The tenant slot of an agent, while its window answers (R312, R313, R413). -/
def slotOfAgent (s : State) (a : Nat) : Option Nat :=
  (agentOf s a).bind fun t => (NMap.find s.sec.tenants t).bind fun r => if r.st = .live ∨ r.st = .resetting then some r.slot else none

/-- LEASE_RENEW (R34): a write of the holder's own tenant window. -/
def execLeaseRenew (w src term : Nat) (s : State) : Host.Outcome State Fault Refusal :=
  if slotOfAgent s src = some w then .next (s.renew src (term % 65536)).2 else .next s

/-- LEASE_LAPSED (R35): rack time has reached the expiry. A standby judges no lease (R343). -/
def execLeaseLapsed (agent : Nat) (s : State) : Host.Outcome State Fault Refusal :=
  match NMap.find s.ext.leases agent with
  | some l =>
    if l.st = .held ∧ l.expiry ≤ s.now ∧ s.get MIR_STATUS_STATE ≠ 3 ∧ s.get MIR_STATUS_STATE ≠ 4 then
      let s := { s with ext := { s.ext with leases := NMap.insert s.ext.leases agent { l with st := .grace, graceFrom := l.expiry } } }
      .next ((s.moveExtents agent .active .grace).raise EXT_EVENT_LEASE_LAPSED)
    else .next s
  | none => .next s

/-- LEASE_EXPIRED (R35): the grace period has ended; the holder's GRACE extents are fenced with CAUSE 0x02. -/
def execLeaseExpired (agent : Nat) (s : State) : Host.Outcome State Fault Refusal :=
  match NMap.find s.ext.leases agent with
  | some l =>
    if l.st = .grace ∧ l.graceFrom + msNs (s.get EXT_CFG_GRACE_MS) ≤ s.now ∧ s.get MIR_STATUS_STATE ≠ 3 ∧
        s.get MIR_STATUS_STATE ≠ 4 then
      let s := { s with ext := { s.ext with leases := NMap.insert s.ext.leases agent { l with st := .expired } } }
      let ids := NMap.keys (NMap.keep (fun _ (x : Extent) => x.holder = agent && x.st = .grace) s.ext.table)
      .next ((s.fenceMany ids 2).raise EXT_EVENT_LEASE_EXPIRED)
    else .next s
  | none => .next s

/-! Generations and reclaim. -/

/-- FENCE_GENERATION_BEGIN (R42). -/
def execFenceGenerationBegin (s : State) : Host.Outcome State Fault Refusal :=
  if fenceWaits s ∧ mayBegin s then .next s.beginGen else .next s

/-- Whether the next generation to complete has drained (Table 2.4 steps 5 and 6): no request of an older one is in flight,
no reply to one waits in this node (R38), and no agent holds a line of the extents. -/
def drained (s : State) : Bool :=
  let g := s.get EXT_FENCE_DONE_GEN + 1
  let xs := NMap.vals (NMap.keep (fun _ (x : Extent) => x.st = .fencing && x.fenceGen = g) s.ext.table)
  g ≤ s.get EXT_FENCE_CUR_GEN && (NMap.keys s.ext.inflight).all (fun k => g ≤ k) &&
  s.ext.leaving.all (fun (r : Nat × Pkt) => g ≤ r.1 || !stillHere s r.2) &&
  xs.all fun x => entryLines s x = [] && s.dir.txns.all fun t => !x.has (128 * t.line)

/-- FENCE_DONE (R39 step 7): DONE_GEN advances by one, the generation's extents enter SCRUBBING, and a REVOKE
that waited runs (R42); one whose extent another fence has taken meanwhile ends with DETAIL 0x5, or 0x9 where the extent is
gone (DESIGN CHOICE, log entry 169). -/
def execFenceDone (s : State) : Host.Outcome State Fault Refusal :=
  if drained s then
    let g := s.get EXT_FENCE_DONE_GEN + 1
    let ids := NMap.keys (NMap.keep (fun _ (x : Extent) => x.st = .fencing && x.fenceGen = g) s.ext.table)
    let s := { s with ext := { s.ext with
      table := NMap.mapVal (fun _ (x : Extent) => if x.st = ExtState.fencing ∧ x.fenceGen = g then { x with st := .scrubbing } else x)
        s.ext.table
      scrubQ := s.ext.scrubQ ++ ids } }
    let s := (s.put EXT_FENCE_DONE_GEN g).raise EXT_EVENT_FENCE_DONE
    match s.ext.revokeWait with
    | some id =>
      if mayBegin s then
        let s := { s with ext := { s.ext with revokeWait := none } }.put EXT_CMD_CTL_BUSY 0
        match NMap.find s.ext.table id with
        | some x => .next (if x.st = .fencing ∨ x.st = .scrubbing then s.extRefuse 0x5 else s.revokeNow id)
        | none => .next (s.extRefuse 0x9)
      else .next s
    | none => .next s
  else .next s

/-- Whether a removal has released the tenant's frames on other nodes (Table 16.7 step 7). -/
def releasedAll (s : State) (t : Nat) : Bool :=
  (NMap.find s.sec.purges t).any Purge.ended || (NMap.find s.sec.tenants t).any fun r => r.st = .drained || r.st = .erased

/-- The scrub of an extent's frames through the scrub port, and the release of those that other nodes hold, which is the
owner's scrub of them (R32, R117). -/
def State.scrubFrames (s : State) (x : Extent) : State :=
  (s.plc.map.filter fun (p : Nat × Frame) => x.has (2097152 * p.1)).foldl (fun (s : State) (p : Nat × Frame) =>
    if p.2.tier = .remote then
      if releasedAll s x.tenant then s else { s with plc := { s.plc with notices := s.plc.notices ++ [.release p.2.holder p.1] } }
    else s.queueFrame 3 ⟨p.2.tier, p.2.set, p.2.frame⟩) s

/-- What is left of an extent once its scrub has ended (R32, R117): no byte, no poison, no frame, no counter. -/
def State.freeExtent (s : State) (id : Nat) (x : Extent) : State :=
  let inX := fun (page : Nat) => x.has (2097152 * page)
  let s := { s with
    mem := s.mem.filter fun c => !x.has c.1
    poison := s.poison.filter fun c => !x.has (64 * c)
    plc := { s.plc with
      map := NMap.keep (fun p _ => !inX p) s.plc.map
      swap := s.plc.swap.filter fun p => !inX p
      promQ := s.plc.promQ.filter fun p => !inX p
      cold := s.plc.cold.filter fun p => !inX p
      filled := s.plc.filled.filter fun l => !x.has (128 * l) }
    ext := { s.ext with table := NMap.erase s.ext.table id, scrubQ := s.ext.scrubQ.filter (· ≠ id) } }
  (s.zeroCounters (x.base / 2097152) x.length).dropLease x.holder

/-- RECLAIM_DONE (R32 step 8): the scrub of the first extent in order ends; a move in progress ends first. -/
def execReclaimDone (s : State) : Host.Outcome State Fault Refusal :=
  match s.ext.scrubQ with
  | [] => .next s
  | id :: _ =>
    match NMap.find s.ext.table id with
    | none => .next s
    | some x =>
      if s.plc.moves.any (fun (m : Nat × Move) => x.has (2097152 * m.1)) ∨ s.plc.fills.any (fun p => x.has (2097152 * p)) then
        .next s
      else
        let s := if mirrors s x then s.mirrorOut x x.base (2097152 * x.length) .nobody else s
        .next ((((s.scrubFrames x).freeExtent id x).raise EXT_EVENT_RECLAIM_DONE).plcSettle)

end Sys2Proof.Machine
end

