-- ==== Sys2Proof/Machine/MemCtl.lean ====
section
/-! DEFINITION. The memory controllers (chapter 04): refresh, retraining, scheduling, scrub, errors, retirement,
evacuation and the controllers' commands; one meaning for each. Controllers: HBM site s as s, DDR5 channel c as
16 + c. Units: site × 64 + pseudo-channel, channel × 4 + rank. -/

namespace Sys2Proof.Machine

open Reg

/-! Units. -/

def isHbm (ctl : Nat) : Bool := ctl < 16

/-- The unit type of a controller, and whether a unit is one of it. -/
def ctlType (ctl : Nat) : Nat := if isHbm ctl then utPc else utRank
def ctlHas (ctl unit : Nat) : Bool := ctlIdx (ctlType ctl) unit == ctl

/-- The units of a controller's channel: a pseudo-channel pair, or every rank of a DDR5 channel. -/
def chanUnits (ctl ch : Nat) : List Nat :=
  if isHbm ctl then [64 * ctl + 2 * ch, 64 * ctl + 2 * ch + 1] else range' (4 * (ctl - 16)) 4

/-- The channel of a unit within its controller. -/
def chanOf (ctl unit : Nat) : Nat := if isHbm ctl then unit % 64 / 2 else 0

/-- The part and slot that a unit hosts, and its cursor register. -/
def hostPart (t u : Nat) : Fld := if t = utPc then MEMH_PC_HOSTED_PART (u / 64) (u % 64) else MEMD_RANK_HOSTED_PART (u / 4) (u % 4)
def hostSlot (t u : Nat) : Fld := if t = utPc then MEMH_PC_HOSTED_SLOT (u / 64) (u % 64) else MEMD_RANK_HOSTED_SLOT (u / 4) (u % 4)
def cursorOf (t u : Nat) : Fld := if t = utPc then MEMH_PC_CURSOR (u / 64) (u % 64) else MEMD_RANK_CURSOR (u / 4) (u % 4)

def unitState (s : State) (t u : Nat) : Nat := s.get (unitSt t u)

/-- The unit a part of which lies in a donor's area. -/
def hostedBy (s : State) (t d : Nat) : Option Nat :=
  (tierUnits s t (queueOf t d)).find? fun v => (unitPieces s t v).any fun p => p.donor = d

/-- Whether a unit serves in place (R81, R91, R95 step 4). -/
def unitServes (s : State) (t u : Nat) : Bool := unitState s t u ≤ 2

/-- Whether the memories are awake: patrol scrub and retraining rest in Sleep and Deep (R87), and while a device-fatal
stop or the loss of both references keeps them in self-refresh. -/
def memAwake (s : State) : Bool :=
  (s.get PWR_STATE_STATE ≤ 1 || s.get PWR_STATE_STATE == 3) && !s.clk.memHeld

/-- Whether a controller's stack or channel is in service. -/
def ctlServes (s : State) (ctl : Nat) : Bool :=
  if isHbm ctl then s.get (MEMH_STATUS_STATE ctl) == 2
  else s.get (MEMD_STATUS_STATE (ctl - 16)) == 2 || s.get (MEMD_STATUS_STATE (ctl - 16)) == 3

/-- An event bit of a unit's controller, with LAST_PC or LAST_RANK. -/
def State.memEvent (s : State) (t u : Nat) (h d : Nat → Fld) : State :=
  if t = utPc then (s.raise (h (u / 64))).put (MEMH_EVENT_LAST_PC (u / 64)) (u % 64)
  else (s.raise (d (u / 4))).put (MEMD_EVENT_LAST_RANK (u / 4)) (u % 4)

/-! Refresh and retraining (R81, R84). -/

/-- When a unit's next refresh is due: every 3.9 µs, staggered over a stack by 60.9 ns. -/
def refreshDue (s : State) (ctl unit : Nat) : Nat :=
  match NMap.find (ctlOf s ctl).nextRefresh unit with
  | some t => t
  | none => s.now / 3900 * 3900 + (if isHbm ctl then unit % 64 * 609 / 10 else 0)

/-- tRFC (R85): Table 4.3 for HBM and for a 32 Gb DIMM at 6,400 MT/s; any other DIMM's from its SPD, and never below the
JEDEC value. -/
def dimmTrfc (d : Dimm) : Nat :=
  if d.density = 32 ∧ d.speed = 64 then 410 else max d.trfc (Config.jedecTrfc d.density d.height d.speed)
def trfc (s : State) (ctl : Nat) : Nat := if isHbm ctl then 450 else (dimmsOf s (ctl - 16)).head?.elim 410 dimmTrfc

/-- REFRESH (R81, R82): the unit serves nothing for tRFC, and its rows close. -/
def execMemRefresh (ctl unit : Nat) (s : State) : Host.Outcome State Fault Refusal :=
  let due := refreshDue s ctl unit
  if ctlHas ctl unit ∧ ctlServes s ctl ∧ unitServes s (ctlType ctl) unit ∧ due ≤ s.now then
    let m := ctlOf s ctl
    .next (s.setCtl ctl { m with
      nextRefresh := NMap.insert m.nextRefresh unit (due + 3900)
      refreshEnd := NMap.insert m.refreshEnd unit (s.now + trfc s ctl)
      openRow := NMap.keep (fun k _ => decide (k / 65536 ≠ unit)) m.openRow })
  else .next s

/-- When a channel's next retraining pause is due: every 100 ms, a stack's channels 3.125 ms apart (R84). -/
def retrainDue (m : MemCtl) (ch : Nat) : Nat := (NMap.find m.nextRetrain ch).getD (3125000 * ch)

/-- A controller's retraining schedule from now on: a stack's 32 channels within the first 100 ms, 3.125 ms apart (DESIGN
CHOICE for where in the interval a schedule starts, log entry 177). -/
def State.startRetrain (s : State) (ctl : Nat) : State :=
  s.setCtl ctl { ctlOf s ctl with
    nextRetrain := if isHbm ctl then (List.range 32).map fun ch => (ch, s.now + 3125000 * (ch + 1)) else [(0, s.now + 100000000)] }

/-- The RETRAIN_EN and SCRUB_EN bits of a controller. -/
def retrainEn (s : State) (ctl : Nat) : Bool :=
  if isHbm ctl then s.flag (MEMH_CTL_RETRAIN_EN ctl) else s.flag (MEMD_CTL_RETRAIN_EN (ctl - 16))
def scrubEn (s : State) (ctl : Nat) : Bool :=
  if isHbm ctl then s.flag (MEMH_CTL_SCRUB_EN ctl) else s.flag (MEMD_CTL_SCRUB_EN (ctl - 16))

/-- Whether a refresh of a channel completes now and none runs: within the clock tick that is now. -/
def refreshJustEnded (s : State) (m : MemCtl) (us : List Nat) : Bool :=
  (us.all fun u => (NMap.find m.refreshEnd u).all (· ≤ s.now)) &&
  us.any fun u => (NMap.find m.refreshEnd u).any fun e => s.now < e + 10

/-- RETRAIN_PAUSE (R84): the channel pauses for 2 µs as a refresh of it completes, the next pause 100 ms after the one that
was due; a margin below the trained minimum starts a full retrain. A channel none of whose units serves is not retrained
(R95 step 4). -/
def execRetrainPause (ctl ch : Nat) (marginLow : Bool) (s : State) : Host.Outcome State Fault Refusal :=
  let m := ctlOf s ctl
  let us := chanUnits ctl ch
  let due := retrainDue m ch
  if retrainEn s ctl ∧ memAwake s ∧ ctlServes s ctl ∧ due ≤ s.now ∧ refreshJustEnded s m us ∧ ¬ m.fullRetrain.contains ch ∧
      (us.any fun u => unitServes s (ctlType ctl) u) ∧ ch < (if isHbm ctl then 32 else 1) then
    .next ((s.setCtl ctl { m with
      pauseEnd := NMap.insert m.pauseEnd ch (s.now + 2000)
      nextRetrain := NMap.insert m.nextRetrain ch (due + 100000000 * ((s.now - due) / 100000000 + 1))
      fullRetrain := if marginLow then insSorted ch m.fullRetrain else m.fullRetrain }).applyCal ctl)
  else .next s

/-! Errors (R90 to R94, R97). -/

/-- The chunks of a list that lie in a unit. -/
def inUnit (s : State) (t u : Nat) (cs : List Nat) : List Nat :=
  cs.filter fun c => match unitOf s (64 * c) with
    | some (t', u', _) => t' = t && u' = u
    | none => false

/-- The chunks that lie in a unit, over every page placed on this node. -/
def unitChunks (s : State) (t u : Nat) : List Nat :=
  (NMap.keys s.plc.map).flatMap fun page => inUnit s t u (range' (32768 * page) 32768)

/-- Everything that lies in a unit poisoned: chunks of this node's pages, and lines it keeps for others. -/
def State.poisonUnit (s : State) (t u : Nat) : State :=
  let s := s.poisonChunks (unitChunks s t u)
  { s with plc := { s.plc with
    lodgedMem := NMap.mapVal (fun k (c : CLine) =>
      { c with poison := c.poison || (tierUnit s .hbm 0 (128 * k)).any fun x => x.1 = t && x.2.1 = u }) s.plc.lodgedMem } }

/-- A unit queued for retirement (R94 step 3): its record's recovery stays open until it has retired. -/
def State.queueRetire (s : State) (t u : Nat) : State := s.queueUnit (queueOf t u) u (unitSt t u)

/-- The record of a memory error: INFO holds the tier address of the first chunk and a check syndrome, a free
value (log entry 2). -/
def State.memRecord (s : State) (cls t u cause : Nat) (chunk : Option Nat) : State :=
  let (k, s) := s.take
  let tier := match chunk with
    | some c => tierAddr s (64 * c)
    | none => 0
  s.post { cls := cls, unitType := t, unitIndex := u, cause := cause, status := if cls = 1 then stPoisoned else stOK,
           tenant := chunk.bind fun c => (extAt s (64 * c)).map fun p => p.2.tenant, agent := 0,
           addr := chunk.map fun c => s.node * 2 ^ 50 + 64 * c,
           info := tier + 2 ^ 64 * (if chunk.isSome then (Config.freeValue k).toNat else 0) }

/-- An uncorrectable data error (R94, R97). -/
def State.dataError (s : State) (t u : Nat) (chunks : List Nat) : State :=
  let s := s.poisonChunks chunks
  let s := (if t = utPc then s.count (MEMH_ECC_CNT_UNCORR (u / 64)) 1 else s.count (MEMD_ECC_CNT_UNCORR (u / 4)) 1).memEvent
    t u MEMH_EVENT_UNCORR MEMD_EVENT_UNCORR
  (s.memRecord 1 t u 0x0002 chunks.head?).queueRetire t u

/-! Scheduling (R83, R86). -/

/-- The 2-bit priority of a controller's port. -/
def portPri (s : State) (ctl port : Nat) : Nat :=
  let h := [MEMH_CTL_PRI_FABRIC ctl, MEMH_CTL_PRI_ENGINE ctl, MEMH_CTL_PRI_PLACE ctl, MEMH_CTL_PRI_SCRUB ctl]
  let d := [MEMD_CTL_PRI_FABRIC (ctl - 16), MEMD_CTL_PRI_ENGINE (ctl - 16), MEMD_CTL_PRI_PLACE (ctl - 16), MEMD_CTL_PRI_SCRUB (ctl - 16)]
  s.get ((if isHbm ctl then h else d).getD port (MEMH_CTL_PRI_FABRIC 0))

/-- The starvation limit in ns. -/
def starveNs (s : State) (ctl : Nat) : Nat :=
  100 * (if isHbm ctl then s.get (MEMH_CTL_STARVE_100NS ctl) else s.get (MEMD_CTL_STARVE_100NS (ctl - 16)))

/-- Whether a request's unit serves now: not in refresh, its channel not paused or in a full retrain. -/
def memReady (s : State) (ctl : Nat) (m : MemCtl) (r : MemReq) : Bool :=
  let ch := chanOf ctl r.unit
  (NMap.find m.refreshEnd r.unit).all (· ≤ s.now) && (NMap.find m.pauseEnd ch).all (· ≤ s.now) && !m.fullRetrain.contains ch

def rowKey (r : MemReq) : Nat := 65536 * r.unit + r.bank % 65536

/-- The HBM thermal step of a controller (R442); 0 for DDR5. -/
def hbmStep (s : State) (ctl : Nat) : Nat := if isHbm ctl then NMap.getD s.brd.hStep ctl 0 else 0

/-- Whether a request needs no activate, or its unit may activate: under step 2 one activate in 2 × (tRAS + tRP). -/
def actOk (s : State) (ctl : Nat) (m : MemCtl) (r : MemReq) : Bool :=
  hbmStep s ctl < 2 || NMap.find m.openRow (rowKey r) == some r.row || (NMap.find m.lastAct r.unit).all fun t => t + 98 ≤ s.now

/-- The ports in round-robin order after the last one served. -/
def portOrder (last : Nat) : List Nat := (List.range 4).map fun i => (last + 1 + i) % 4

/-- The request that R83 picks; the queue holds requests oldest first. -/
def memPick (s : State) (ctl : Nat) (m : MemCtl) : Option MemReq :=
  let rs := m.queue.filter fun r => memReady s ctl m r && actOk s ctl m r
  match rs.find? fun r => r.arrive + starveNs s ctl < s.now with
  | some r => some r
  | none =>
    let ports := (portOrder m.lastPort).filter fun p => rs.any fun r => r.port = p
    let best := ports.foldl (fun b p => max b (portPri s ctl p)) 0
    match ports.find? fun p => portPri s ctl p = best with
    | none => none
    | some p =>
      let mine := rs.filter fun r => r.port = p
      match mine.find? fun r => NMap.find m.openRow (rowKey r) = some r.row with
      | some r => some r
      | none => mine.head?

def corrLimit (s : State) (t u : Nat) : Nat :=
  if t = utPc then s.get (MEMH_CTL_CORR_LIMIT (u / 64)) else s.get (MEMD_CTL_CORR_LIMIT (u / 4))

/-- Corrections of a unit counted; CORR_LIMIT of them within one second set CORR_THRESH (R91). -/
def State.corrections (s : State) (t u n : Nat) : State :=
  if n = 0 then s
  else
    let s := if t = utPc then s.count (MEMH_ECC_CNT_CORR (u / 64)) n else s.count (MEMD_ECC_CNT_CORR (u / 4)) n
    let s := s.memRecord 0 t u 0x0001 none
    let k := unitKey t u
    let w := (NMap.getD s.mch.corr k []).filter fun x => s.now < x.1 + 1000000000
    let before := (w.map Prod.snd).foldl (· + ·) 0
    let lim := corrLimit s t u
    let s := { s with mch := { s.mch with corr := NMap.insert s.mch.corr k (w ++ [(s.now, n)]) } }
    if lim ≠ 0 ∧ before < lim ∧ lim ≤ before + n then
      (s.memEvent t u MEMH_EVENT_CORR_THRESH MEMD_EVENT_CORR_THRESH).memRecord 0 t u 0x0004 none
    else s

/-- A granule whose corrected error the next scrub pass rewrites (R88). -/
def State.noteRewrite (s : State) (t u q : Nat) : State :=
  let k := unitKey t u
  { s with mch := { s.mch with rewrite := NMap.insert s.mch.rewrite k (insSorted q (NMap.getD s.mch.rewrite k [])) } }

/-- MEM_SCHED_ISSUE (R83): one request leaves its port and opens its row. A channel limited by R86, or a stack in
thermal step 3, issues one command in four cycles. A read that the code corrected is counted,
and the next scrub pass rewrites the granule (R88); a scrub's own reads count with the scrub. -/
def execMemSchedIssue (cmd : Issue) (s : State) : Host.Outcome State Fault Refusal :=
  let ctl := cmd.ctl
  let m := ctlOf s ctl
  if ¬ memAwake s ∨ ((m.throttled ∨ hbmStep s ctl = 3) ∧ s.now < m.lastIssue + 2) then .next s
  else match memPick s ctl m with
    | none => .next s
    | some r =>
      let act := NMap.find m.openRow (rowKey r) ≠ some r.row
      let s := if cmd.corrected ∧ r.port ≠ 3 then (s.corrections (ctlType ctl) r.unit 1).noteRewrite (ctlType ctl) r.unit r.granule else s
      .next (s.setCtl ctl { m with
        queue := m.queue.erase r
        openRow := NMap.insert m.openRow (rowKey r) r.row
        lastPort := r.port
        lastIssue := s.now
        lastAct := if act then NMap.insert m.lastAct r.unit s.now else m.lastAct })

/-! Patrol scrub and temperature (R86, R91). -/

/-- The granules of a unit that hold data: its own, and those of its spare area while that hosts a part or lends frames. -/
def scrubTop (s : State) (t u : Nat) : Nat :=
  if s.flag (hostingOf t u) ∨ (usedFrames s).any (inArea s t u) then unitGranules s t u else unitU s t u

/-- When the scrub's next granule may be read: a pass over the unit takes SCRUB_HOURS (R91). -/
def scrubDue (s : State) (t u : Nat) : Nat :=
  let pos := NMap.getD s.mch.scrubPos (unitKey t u) 0
  NMap.getD s.mch.scrubFrom (unitKey t u) s.now + pos * (3600000000000 * s.get MEMH_TIER_CFG_SCRUB_HOURS) / max 1 (scrubTop s t u)

/-- The tier address of a unit's granule: its own, or one that it hosts. -/
def heldAddr (s : State) (t u q : Nat) : Nat :=
  if q < unitU s t u then granuleAddr s t u q
  else match hostedBy s t u with
    | some v => granuleAddr s t v (s.get (hostPart t u) * partGranules s t v + (q - unitU s t u))
    | none => 0

/-- The scrub after a granule: the next one of the pass, or the next pass; what was to be rewritten there is (R88). -/
def State.scrubNext (s : State) (t u pos : Nat) : State :=
  let k := unitKey t u
  let from_ := NMap.getD s.mch.scrubFrom k s.now
  let last := scrubTop s t u ≤ pos + 1
  let left := (NMap.getD s.mch.rewrite k []).filter (· ≠ pos)
  { s with mch := { s.mch with
    scrubPos := NMap.insert s.mch.scrubPos k (if last then 0 else pos + 1)
    scrubFrom := NMap.insert s.mch.scrubFrom k (if last then from_ + 3600000000000 * s.get MEMH_TIER_CFG_SCRUB_HOURS else from_)
    rewrite := if left = [] then NMap.erase s.mch.rewrite k else NMap.insert s.mch.rewrite k left } }

/-- PATROL_SCRUB (R88, R91): the next granule of a unit is read; corrected chunks are written back, and
uncorrectable ones become poisoned. -/
def execPatrolScrub (ctl unit : Nat) (corrected onDie : Nat) (bad : List Nat) (s : State) : Host.Outcome State Fault Refusal :=
  let t := ctlType ctl
  if ctlHas ctl unit ∧ scrubEn s ctl ∧ memAwake s ∧ ctlServes s ctl ∧ unitServes s t unit ∧ scrubDue s t unit ≤ s.now then
    let pos := NMap.getD s.mch.scrubPos (unitKey t unit) 0
    let s := (s.scrubNext t unit pos).queueMem 3 t unit pos (subsOf t [0, 1]) (heldAddr s t unit pos)
    let s := if t = utPc then s.count (MEMH_ECC_CNT_ODECC (unit / 64)) onDie else s
    let s := s.corrections t unit corrected
    let bad := bad.filter fun c => unitOf s (64 * c) = some (t, unit, pos)
    .next (if bad = [] then s else s.dataError t unit bad)
  else .next s

/-- DIMM_TEMP_SAMPLE (R86): `temp` is the channel's highest sensor reading; every one above 85 °C sets TEMP_HIGH and writes a
record. -/
def execDimmTempSample (ch temp : Nat) (s : State) : Host.Outcome State Fault Refusal :=
  if s.get (MEMD_STATUS_STATE ch) = 0 then .next s
  else
    let s := s.put (MEMD_STATUS_DIMM_TEMP_C ch) temp
    let m := ctlOf s (16 + ch)
    if 85 < temp then
      .next (((s.setCtl (16 + ch) { m with throttled := true }).raise (MEMD_EVENT_TEMP_HIGH ch)).post
        { cls := 0, unitType := utDdrChannel, unitIndex := ch, cause := 0x0005, status := stOK, tenant := none, agent := 0,
          addr := none, info := 0 })
    else if temp ≤ 83 ∧ m.throttled then .next (s.setCtl (16 + ch) { m with throttled := false })
    else .next s

/-! Retirement (R93 to R99). -/

/-- The area counts of the tier, or of the set, shown again. -/
def State.showAreas (s : State) (t q : Nat) : State :=
  let n := ((tierUnits s t q).filter (areaFree s t)).length
  if t = utPc then s.put MEMH_TIER_STATUS_AREAS_FREE n else s.put (MEMD_SET_AREAS_FREE (q - 16)) n

/-- The group over which donors are spread: the stack, or the channel. -/
def spreadOf (t u : Nat) : Nat := if t = utPc then u / 64 else u / 4

/-- Units that may take a part of a retiring unit (R94). -/
def donorsFor (s : State) (t u : Nat) : List Nat :=
  (tierUnits s t (queueOf t u)).filter fun d =>
    areaFree s t d && d ≠ u && unitState s t d ≠ 2 && (t ≠ utPc || d / 64 ≠ u / 64)

/-- The next donor: of those left, one of the group that has given least so far. -/
def nextDonor (t : Nat) (taken : List Nat) (left : List Nat) : Option Nat :=
  let given := fun d => (taken.filter fun x => spreadOf t x = spreadOf t d).length
  (left.filter fun d => !taken.contains d).foldl (fun b d => match b with
    | none => some d
    | some x => if given d < given x then some d else some x) none

/-- `n` donors, spread as evenly as free areas allow; fewer where too few are left. -/
def pickDonors (t : Nat) (left : List Nat) : Nat → List Nat → List Nat
  | 0, taken => taken
  | n + 1, taken => match nextDonor t taken left with
    | none => taken
    | some d => pickDonors t left n (taken ++ [d])

/-- An area marked hosting a part of a unit, and an area freed. -/
def State.host (s : State) (t d part u : Nat) : State :=
  let slot := ((tierUnits s t (queueOf t u)).findIdx? (· = u)).getD 0
  let slot := if t = utPc then u % 64 * s.mch.hbmForm.length + (s.mch.hbmForm.findIdx? (· = u / 64)).getD 0 else slot
  ((s.put (hostingOf t d) 1).put (hostPart t d) part).put (hostSlot t d) slot
def State.unhost (s : State) (t d : Nat) : State := ((s.put (hostingOf t d) 0).put (hostPart t d) 0).put (hostSlot t d) 0

/-- Free areas that retiring a unit needs: D, and one more for a part it hosts. -/
def areasNeeded (s : State) (t u : Nat) : Nat := divOf s t u - 1 + s.get (hostingOf t u)

/-- Whether a unit can retire into spare areas. -/
def canSpare (s : State) (t u : Nat) : Bool := divOf s t u ≠ 0 && areasNeeded s t u ≤ (donorsFor s t u).length

/-- Whether a DDR5 set's frames fit elsewhere (R99, R100). -/
def setFits (s : State) (n : Nat) : Bool :=
  setFrames s n ≤ hbmFree s + ((List.range 6).map fun k =>
    if k ≠ n ∧ s.get (MEMD_SET_STATE k) = 1 then ddrFree s k else 0).foldl (· + ·) 0

/-- A queue with only the units chosen left in it. -/
def State.keepQueue (s : State) (q : Nat) (sel : Nat → Bool) : State :=
  let l := (NMap.getD s.mch.retireQ q []).filter sel
  { s with mch := { s.mch with retireQ := if l = [] then NMap.erase s.mch.retireQ q else NMap.insert s.mch.retireQ q l } }

/-- A unit out of the queue of its stack or set. -/
def State.unqueue (s : State) (t u : Nat) : State :=
  let s := s.keepQueue (queueOf t u) (· ≠ u)
  { s with mch := { s.mch with retiring := NMap.erase s.mch.retiring (queueOf t u) } }

/-- The donors of a retirement that have received nothing are free again. -/
def State.freeDonors (s : State) (t u : Nat) : State :=
  match NMap.find s.mch.retiring (queueOf t u) with
  | some r => if r.unit = u then
      (r.donors.filter fun h => h.part < divOf s t u - 1 && !(unitPieces s t u).any fun p => p.donor = h.donor).foldl
        (fun s h => s.unhost t h.donor) s
    else s
  | none => s

/-- A unit FAILED (R99). -/
def State.failUnit (s : State) (t u : Nat) : State :=
  let s := (((s.freeDonors t u).put (unitSt t u) 4).put (cursorOf t u) 0).memEvent t u MEMH_EVENT_UNSPARED MEMD_EVENT_UNSPARED
  let s := if t = utPc then s.count (MEMH_STATUS_PC_OUT (u / 64)) 1 else s
  (((s.unqueue t u).showAreas t (queueOf t u)).recap).closeRec t u

/-- A set and its channels DRAINING. -/
def State.drainSet (s : State) (n : Nat) (d : Drain) : State :=
  let s := { s with mch := { s.mch with drains := NMap.insert s.mch.drains n d } }.put (MEMD_SET_STATE n) 2
  (range' (4 * n) 4).foldl (fun s c => if s.get (MEMD_STATUS_STATE c) = 2 then s.put (MEMD_STATUS_STATE c) 3 else s) s

/-- What R99 does for a unit that finds too few free areas. -/
def State.unspared (s : State) (t u : Nat) : State :=
  if t = utRank ∧ setFits s (u / 16) then (s.unqueue t u).drainSet (u / 16) (.reform u) else s.failUnit t u

/-- A running retirement changed. -/
def State.setRetire (s : State) (q : Nat) (r : Retire) : State :=
  { s with mch := { s.mch with retiring := NMap.insert s.mch.retiring q r } }

/-- The donor that a unit is for a retirement still running, and its part. -/
def Retire.from? (r : Retire) (u : Nat) : Option Hosted := r.donors.find? fun h => h.donor = u && r.part ≤ h.part

/-- The rest of a part that a unit now retiring was to receive goes to a new donor; what it has received it hosts (R97).
Where no area is free for it, R99 decides about the unit that was sending it. -/
def State.redirect (s : State) (t u : Nat) : State :=
  s.mch.retiring.foldl (fun s (x : Nat × Retire) =>
    match (if (x.1 < 16) = (t = utPc) then x.2.from? u else none) with
    | some h =>
      let s := if hostedBy s t u = none then s.unhost t u else s
      match nextDonor t (x.2.donors.map Hosted.donor) ((donorsFor s t x.2.unit).filter (· ≠ u)) with
      | some d => (s.host t d h.part x.2.unit).setRetire x.1 { x.2 with
          donors := x.2.donors.map fun y => if y = h then ⟨y.part, d⟩ else y }
      | none => s.unspared t x.2.unit
    | none => s) s

/-- RETIRE_START (R95 steps 1 and 2): the first queued unit of a stack or set takes its turn. -/
def execRetireStart (q : Nat) (s : State) : Host.Outcome State Fault Refusal :=
  let t := if q < 16 then utPc else utRank
  match NMap.getD s.mch.retireQ q [] with
  | [] => .next s
  | u :: _ =>
    if (NMap.find s.mch.retiring q).isSome ∨ unitState s t u ≠ 1 ∨ (t = utRank ∧ s.get (MEMD_SET_STATE (q - 16)) ≠ 1) then .next s
    else
      let s := s.redirect t u
      if ¬ canSpare s t u then .next (s.unspared t u)
      else
        let ds := pickDonors t (donorsFor s t u) (divOf s t u - 1) []
        let s := (s.put (unitSt t u) 2).memEvent t u MEMH_EVENT_RETIRE_START MEMD_EVENT_RETIRE_START
        let hs := (ds.zip (List.range ds.length)).map fun p => (⟨p.2, p.1⟩ : Hosted)
        let s := hs.foldl (fun s h => s.host t h.donor h.part u) s
        .next ((s.setRetire q ⟨u, hs, 0⟩).showAreas t q)

/-- Granule `q` taken out of a piece. -/
def Piece.without (p : Piece) (q : Nat) : List Piece :=
  if p.lo ≤ q ∧ q < p.hi then [(⟨p.lo, q, p.donor⟩ : Piece), ⟨q + 1, p.hi, p.donor⟩].filter fun x => x.lo < x.hi else [p]

/-- A granule put to the piece it continues, or as a piece of its own. -/
def addGranule (q d : Nat) : List Piece → List Piece
  | [] => [⟨q, q + 1, d⟩]
  | p :: l => if p.hi = q ∧ p.donor = d then { p with hi := q + 1 } :: l else p :: addGranule q d l

/-- Granule `q` of a unit now lies with donor `d` (R96). -/
def State.placePiece (s : State) (t u q d : Nat) : State :=
  { s with mch := { s.mch with
    pieces := NMap.insert s.mch.pieces (unitKey t u) (addGranule q d ((unitPieces s t u).flatMap fun p => p.without q)) } }

/-- What a retirement copies next: the granule, the unit it is a granule of, and its donor. Its own parts come first, then
the part that it hosts (R95 step 3). -/
def nextCopy (s : State) (t : Nat) (r : Retire) : Option (Nat × Nat × Nat) :=
  let D := divOf s t r.unit - 1
  let cur := s.get (cursorOf t r.unit)
  let to_ := fun part => (r.donors.find? fun h => h.part = part).map Hosted.donor
  if r.part < D then (to_ (cur / partGranules s t r.unit)).map fun d => (r.unit, cur, d)
  else if r.part = D then
    match hostedBy s t r.unit, to_ D with
    | some v, some d => some (v, cur, d)
    | _, _ => none
  else none

/-- The lines of a unit's granule, in place or with a donor, over every page placed on this node. -/
def granuleLines (s : State) (t u q : Nat) : List Nat :=
  let a := granuleAddr s t u q
  (NMap.keys s.plc.map).flatMap fun page =>
    (range' ((2097152 * page + a % 2097152) / 128) (granuleBytes t / 128)).filter fun l =>
      let f := frameAt s (128 * l)
      f.tier ≠ .remote && tierType f.tier == t && (t = utPc || f.set == u / 16) && f.frame == a / 2097152

/-- Whether an excess page of R25 still lies in an area that a retirement needs (R95 step 2). -/
def areasHeld (s : State) (t : Nat) (r : Retire) : Bool :=
  (r.unit :: r.donors.map Hosted.donor).any fun d => (usedFrames s).any fun f => inArea s t d f

/-- The end of a unit's own parts: the part that it hosts goes to one more area, or nothing is left to copy. -/
def State.endParts (s : State) (t q : Nat) (r : Retire) : State :=
  let u := r.unit
  let D := divOf s t u - 1
  match hostedBy s t u with
  | none => (s.put (cursorOf t u) (unitU s t u)).setRetire q { r with part := D + 1 }
  | some v =>
    match nextDonor t (r.donors.map Hosted.donor) (donorsFor s t u) with
    | some d =>
      let lo := ((unitPieces s t v).find? fun p => p.donor = u).elim 0 Piece.lo
      let s := (s.host t d (s.get (hostPart t u)) u).put (hostSlot t d) (s.get (hostSlot t u))
      ((s.put (cursorOf t u) lo).setRetire q { r with part := D, donors := r.donors ++ [⟨D, d⟩] }).showAreas t q
    | none => s.unspared t u

/-- The retirement after granule `g` has been copied. -/
def State.copied (s : State) (t q : Nat) (r : Retire) (v g : Nat) : State :=
  let D := divOf s t r.unit - 1
  if r.part < D then
    if g + 1 < unitU s t r.unit then
      (s.put (cursorOf t r.unit) (g + 1)).setRetire q { r with part := (g + 1) / partGranules s t r.unit }
    else s.endParts t q r
  else if (unitPieces s t v).any fun p => p.donor = r.unit then s.put (cursorOf t r.unit) (g + 1)
  else s.setRetire q { r with part := D + 1 }

/-- RETIRE_GRANULE_COPY (R96): the granule at CURSOR is copied to its donor, through the placement ports of both, as one
access that waits for those accepted before it; `bad` are chunks of it that could not be read correctly. -/
def execRetireGranuleCopy (q : Nat) (bad : List Nat) (s : State) : Host.Outcome State Fault Refusal :=
  let t := if q < 16 then utPc else utRank
  match NMap.find s.mch.retiring q with
  | none => .next s
  | some r => match nextCopy s t r with
    | none => .next s
    | some (v, g, d) =>
      if areasHeld s t r ∨ (granuleLines s t v g).any (lineBusy s) then .next s
      else
        let a := granuleAddr s t v g
        let old := physUnit s (t, v, g)
        let s := s.poisonChunks (bad.filter fun c => unitOf s (64 * c) = some old)
        let s := (s.queueMem 2 t old.2.1 old.2.2 (subsOf t [0, 1]) a).placePiece t v g d
        let new := physUnit s (t, v, g)
        .next ((s.queueMem 2 t new.2.1 new.2.2 (subsOf t [0, 1]) a).copied t q r v g)

/-- RETIRE_DONE (R95 steps 4 and 5). -/
def execRetireDone (q : Nat) (s : State) : Host.Outcome State Fault Refusal :=
  let t := if q < 16 then utPc else utRank
  match NMap.find s.mch.retiring q with
  | none => .next s
  | some r =>
    let u := r.unit
    if r.part < divOf s t u then .next s
    else
      let s := (((s.put (unitSt t u) 3).put (cursorOf t u) 0).unhost t u).memEvent t u MEMH_EVENT_RETIRE_DONE MEMD_EVENT_RETIRE_DONE
      let s := if t = utPc then s.count (MEMH_STATUS_PC_OUT (u / 64)) 1 else s
      .next ((((s.unqueue t u).showAreas t q).recap).closeRec t u)

/-! Command errors (R92, R94, R97). -/

/-- A retiring unit off line (R97): what still lies in it goes to the donors poisoned, and the retirement may complete. -/
def State.finishCopies (s : State) (t u : Nat) : State :=
  let q := queueOf t u
  match NMap.find s.mch.retiring q with
  | none => s
  | some r =>
    let D := divOf s t u - 1
    let P := partGranules s t u
    let cur := s.get (cursorOf t u)
    let s := s.poisonUnit t u
    let own := if r.part < D then
        r.donors.filterMap fun h => if cur < (h.part + 1) * P then some (⟨max cur (h.part * P), (h.part + 1) * P, h.donor⟩ : Piece) else none
      else []
    let s := { s with mch := { s.mch with pieces := NMap.insert s.mch.pieces (unitKey t u) (unitPieces s t u ++ own) } }
    let s := s.put (cursorOf t u) (unitU s t u)
    match hostedBy s t u with
    | none => s.setRetire q { r with part := D + 1 }
    | some v =>
      match (r.donors.find? fun h => h.part = D).map Hosted.donor <|> nextDonor t (r.donors.map Hosted.donor) (donorsFor s t u) with
      | some d =>
        let s := (s.host t d (s.get (hostPart t u)) u).put (hostSlot t d) (s.get (hostSlot t u))
        let s := { s with mch := { s.mch with
          pieces := NMap.insert s.mch.pieces (unitKey t v) ((unitPieces s t v).map fun (p : Piece) => if p.donor = u then ⟨p.lo, p.hi, d⟩ else p) } }
        (s.setRetire q { r with part := D + 1 }).showAreas t q
      | none => s.unspared t u

/-- An uncorrectable command error on one unit (R92, R94): the chunks that it affects are poisoned, the record written, and
the unit queued; one that retires already goes off line (R97). -/
def State.cmdErrorUnit (s : State) (t u : Nat) (chunks : List Nat) : State :=
  let s := (s.poisonChunks (inUnit s t u chunks)).memRecord 1 t u 0x0003 (inUnit s t u chunks).head?
  if unitState s t u = 2 then s.finishCopies t u else s.queueRetire t u

/-- A command error of a controller's units (R92): a DDR5 one belongs to the channel and all its ranks. -/
def State.cmdError (s : State) (ctl : Nat) (units chunks : List Nat) : State :=
  let t := ctlType ctl
  let us := (if isHbm ctl then units else chanUnits ctl 0).filter fun u => unitServes s t u
  let s := if isHbm ctl then s.count (MEMH_ECC_CNT_CMD_ERR ctl) 1 else s.count (MEMD_ECC_CNT_CMD_ERR (ctl - 16)) 1
  us.foldl (fun s u => (s.memEvent t u MEMH_EVENT_CMD_ERR MEMD_EVENT_CMD_ERR).cmdErrorUnit t u chunks) s

/-- UNCORRECTABLE_ERROR (R94). -/
def execUncorrectableError (ctl unit : Nat) (chunks : List Nat) (s : State) : Host.Outcome State Fault Refusal :=
  let t := ctlType ctl
  if ctlHas ctl unit ∧ unitServes s t unit then .next (s.dataError t unit (inUnit s t unit chunks)) else .next s

/-- CA_PARITY_ERROR (R92): reissued once after 1 µs; a second one on the unit within 1 ms is a command error, which affects
the chunks of the command. -/
def execCaParityError (ctl : Nat) (hit : CmdHit) (s : State) : Host.Outcome State Fault Refusal :=
  let unit := hit.place
  let k := unitKey (ctlType ctl) unit
  if ctlHas ctl unit ∧ unitServes s (ctlType ctl) unit then
    let second := (NMap.find s.mch.parity k).any fun t => s.now < t + 1000000
    let s := { s with mch := { s.mch with parity := NMap.insert s.mch.parity k s.now } }
    if second then .next (s.cmdError ctl [unit] hit.chunks)
    else .next { s with mch := { s.mch with reissue := NMap.insert s.mch.reissue k (s.now + 1000) } }
  else .next s

/-- CA_REISSUE (R92): the command is issued again. -/
def execCaReissue (ctl unit : Nat) (s : State) : Host.Outcome State Fault Refusal :=
  let k := unitKey (ctlType ctl) unit
  match NMap.find s.mch.reissue k with
  | some t => if t ≤ s.now then .next { s with mch := { s.mch with reissue := NMap.erase s.mch.reissue k } } else .next s
  | none => .next s

/-- PHY_LOCK_LOSS (R92): a command error of every unit; `chunks` are those of the commands that it cuts off. -/
def State.phyLost (s : State) (ctl : Nat) (chunks : List Nat) : State :=
  if ctlServes s ctl then s.cmdError ctl (if isHbm ctl then range' (64 * ctl) 64 else chanUnits ctl 0) chunks else s

def execPhyLockLoss (hit : CmdHit) (s : State) : Host.Outcome State Fault Refusal := .next (s.phyLost hit.place hit.chunks)

/-- Whether a channel's BUSY is that of a RETRAIN_FULL, not of its own EVACUATE or RESTORE (R103). -/
def retrainCmd (s : State) (c : Nat) : Bool :=
  s.flag (MEMD_CMD_BUSY c) && !s.mch.restoring.contains c && NMap.find s.mch.drains (c / 4) != some (.evacuate c)

/-- FULL_RETRAIN_END (R84): RETRAIN_FULL is set; a failed one is a command error on every unit of the channel, which serves
nothing then, so no chunk is affected. A RETRAIN_FULL command ends with it. LAST_PC shows the channel's even pseudo-channel,
whichever the command named (DESIGN CHOICE, log entry 174). -/
def execFullRetrainEnd (ctl ch : Nat) (ok : Bool) (s : State) : Host.Outcome State Fault Refusal :=
  let m := ctlOf s ctl
  if m.fullRetrain.contains ch then
    let s := s.setCtl ctl { m with fullRetrain := m.fullRetrain.filter (· ≠ ch) }
    let s := if isHbm ctl then
        let s := (s.raise (MEMH_EVENT_RETRAIN_FULL ctl)).put (MEMH_EVENT_LAST_PC ctl) (2 * ch)
        if s.flag (MEMH_CMD_BUSY ctl) ∧ s.get (MEMH_CMD_PC ctl) / 2 = ch then
          (s.put (MEMH_CMD_BUSY ctl) 0).endCmd (MEMH_CMD_STATUS ctl) (MEMH_CMD_DETAIL ctl) stOK 0
        else s
      else
        let c := ctl - 16
        if retrainCmd s c then
          (s.put (MEMD_CMD_BUSY c) 0).endCmd (MEMD_CMD_STATUS c) (MEMD_CMD_DETAIL c) stOK 0
        else s
    let s := if isHbm ctl then s else s.closeRec utDdrChannel (ctl - 16)
    .next (if ok then s else s.cmdError ctl (chanUnits ctl ch) [])
  else .next s

/-! HBM commands (R102). -/

def State.memhEnd (s : State) (k st de : Nat) : State := s.endCmd (MEMH_CMD_STATUS k) (MEMH_CMD_DETAIL k) st de
def State.memdEnd (s : State) (c st de : Nat) : State := s.endCmd (MEMD_CMD_STATUS c) (MEMD_CMD_DETAIL c) st de

/-- MEMH_CMD RETIRE (R94): the unit is queued; no error has occurred, so no chunk is poisoned and no record written (DESIGN
CHOICE, log entry 175). -/
def execMemhRetire (site : Nat) (s : State) : Host.Outcome State Fault Refusal :=
  let u := 64 * site + s.get (MEMH_CMD_PC site)
  if s.flag (MEMH_CMD_BUSY site) then .next s
  else if s.get (MEMH_STATUS_STATE site) ≠ 2 ∨ unitState s utPc u ≠ 0 then .next (s.memhEnd site stPermission 0x1)
  else if ¬ canSpare s utPc u then .next (s.memhEnd site stPermission 0x2)
  else .next ((s.queueRetire utPc u).memhEnd site stOK 0)

/-- MEMH_CMD RETRAIN_FULL (R84): the channel of PC serves nothing until its retrain ends. -/
def execMemhRetrainFull (site : Nat) (s : State) : Host.Outcome State Fault Refusal :=
  let pc := s.get (MEMH_CMD_PC site)
  if s.flag (MEMH_CMD_BUSY site) then .next s
  else if s.get (MEMH_STATUS_STATE site) ≠ 2 ∨ ¬ unitServes s utPc (64 * site + pc) then .next (s.memhEnd site stPermission 0x1)
  else
    let m := ctlOf s site
    .next ((s.setCtl site { m with fullRetrain := insSorted (pc / 2) m.fullRetrain }).put (MEMH_CMD_BUSY site) 1)

/-- MEMH_CMD POWER_DOWN (Table 4.8): every pseudo-channel RETIRED or FAILED. -/
def execPowerDown (site : Nat) (s : State) : Host.Outcome State Fault Refusal :=
  if s.flag (MEMH_CMD_BUSY site) then .next s
  else if s.get (MEMH_STATUS_STATE site) = 2 ∧
      (List.range 64).all (fun c => unitState s utPc (64 * site + c) = 3 || unitState s utPc (64 * site + c) = 4) then
    .next ((((s.put (MEMH_STATUS_STATE site) 4).put PWR_UNIT_HBM (setBits (s.get PWR_UNIT_HBM) site site 0)).recap).memhEnd site stOK 0)
  else .next (s.memhEnd site stPermission 0x1)

/-! DDR5 commands (R100, R101, R103). -/

/-- MEMD_CMD RETIRE (R94): refused with 0x2 where R99 would end in FAILED. -/
def execMemdRetire (ch : Nat) (s : State) : Host.Outcome State Fault Refusal :=
  let u := 4 * ch + s.get (MEMD_CMD_RANK ch)
  if s.flag (MEMD_CMD_BUSY ch) then .next s
  else if s.get (MEMD_STATUS_STATE ch) ≠ 2 ∨ unitState s utRank u ≠ 0 then .next (s.memdEnd ch stPermission 0x1)
  else if ¬ canSpare s utRank u ∧ ¬ setFits s (ch / 4) then .next (s.memdEnd ch stPermission 0x2)
  else .next ((s.queueRetire utRank u).memdEnd ch stOK 0)

/-- MEMD_CMD RETRAIN_FULL (R84). -/
def execMemdRetrainFull (ch : Nat) (s : State) : Host.Outcome State Fault Refusal :=
  if s.flag (MEMD_CMD_BUSY ch) then .next s
  else if s.get (MEMD_STATUS_STATE ch) ≠ 2 then .next (s.memdEnd ch stPermission 0x1)
  else
    let m := ctlOf s (16 + ch)
    .next ((s.setCtl (16 + ch) { m with fullRetrain := insSorted 0 m.fullRetrain }).put (MEMD_CMD_BUSY ch) 1)

/-- EVACUATE (R100 steps 1 and 2). -/
def execMemdEvacuate (ch : Nat) (s : State) : Host.Outcome State Fault Refusal :=
  let n := ch / 4
  if s.flag (MEMD_CMD_BUSY ch) then .next s
  else if s.get (MEMD_STATUS_STATE ch) ≠ 2 ∨ s.get (MEMD_SET_STATE n) ≠ 1 then .next (s.memdEnd ch stPermission 0x1)
  else if ¬ setFits s n then .next (s.memdEnd ch stPermission 0x3)
  else .next ((s.drainSet n (.evacuate ch)).put (MEMD_CMD_BUSY ch) 1)

/-- Whether nothing of a set's frames is left in use, nor retiring. -/
def setEmpty (s : State) (n : Nat) : Bool := setFrames s n == 0 && (NMap.find s.mch.retiring (16 + n)).isNone

/-- No donor of a set holds anything any more. -/
def State.clearPieces (s : State) (n : Nat) : State :=
  { s with mch := { s.mch with pieces := NMap.keep (fun k _ => decide (k / 65536 ≠ utRank ∨ k % 65536 / 16 ≠ n)) s.mch.pieces } }

/-- EVACUATED (R100 step 4). Ranks of the other channels that wait to retire keep their turn. -/
def execEvacuated (set : Nat) (s : State) : Host.Outcome State Fault Refusal :=
  match NMap.find s.mch.drains set with
  | some (.evacuate ch) =>
    if setEmpty s set then
      let s := (s.keepQueue (16 + set) fun u => u / 4 ≠ ch).clearPieces set
      let s := { s with mch := { s.mch with
        drains := NMap.erase s.mch.drains set
        setForm := NMap.erase s.mch.setForm set } }
      let s := (range' (4 * set) 4).foldl (fun s c => if s.get (MEMD_STATUS_STATE c) = 3 then s.put (MEMD_STATUS_STATE c) 4 else s) s
      let s := (((s.put (MEMD_SET_STATE set) 3).put (MEMD_SET_RANKS set) 0).put (MEMD_SET_AREAS_FREE set) 0).put (MEMD_STATUS_STATE ch) 5
      let s := s.put PWR_UNIT_DDR5 (setBits (s.get PWR_UNIT_DDR5) ch ch 0)
      .next ((((s.raise (MEMD_EVENT_EVACUATED ch)).recap).put (MEMD_CMD_BUSY ch) 0).memdEnd ch stOK 0)
    else .next s
  | _ => .next s

/-- MEMD_CMD RESTORE (R100 steps 6 and 7). -/
def execMemdRestore (ch : Nat) (s : State) : Host.Outcome State Fault Refusal :=
  if s.flag (MEMD_CMD_BUSY ch) then .next s
  else if s.get (MEMD_STATUS_STATE ch) ≠ 5 then .next (s.memdEnd ch stPermission 0x1)
  else
    let s := (s.put (MEMD_STATUS_STATE ch) 1).put PWR_UNIT_DDR5 (setBits (s.get PWR_UNIT_DDR5) ch ch 1)
    .next ({ s with mch := { s.mch with restoring := insSorted ch s.mch.restoring } }.put (MEMD_CMD_BUSY ch) 1)

/-- The ranks of channels that may form a set, in slot order: rank by rank over the channels (R79, R101). -/
def formRanks (s : State) (chans : List Nat) : List Nat :=
  (List.range 4).flatMap fun r => (chans.filter fun c =>
    r < ranksOf (dimmsOf s c) && s.get (MEMD_RANK_STATE c r) ≤ 2).map fun c => 4 * c + r

/-- A set formed from channels, with every spare area free and RANK_SPARE_DIV in force (R99, R101); without a rank it is
FAILED. Ranks that wait to retire keep their turn. -/
def State.formSet (s : State) (n : Nat) (chans : List Nat) : State :=
  let us := formRanks s chans
  let s := (s.keepQueue (16 + n) us.contains).clearPieces n
  let s := { s with mch := { s.mch with
    setForm := NMap.insert s.mch.setForm n us
    formDiv := NMap.insert s.mch.formDiv n (s.get MEMD_TIER_CFG_RANK_SPARE_DIV)
    drains := NMap.erase s.mch.drains n } }
  let s := us.foldl (fun s u => s.unhost utRank u) s
  let s := chans.foldl (fun s c => s.put (MEMD_STATUS_STATE c) 2) s
  (((s.put (MEMD_SET_STATE n) (if us = [] then 4 else 1)).put (MEMD_SET_RANKS n) us.length).showAreas utRank (16 + n)).recap

/-- The SPD's facts shown in a channel's status; RANKS_PER_DIMM shows no more than its range. -/
def State.showDimms (s : State) (c : Nat) (ds : List Dimm) : State :=
  ((s.put (MEMD_STATUS_SPEED c) (ds.head?.elim 0 Dimm.speed)).put (MEMD_STATUS_DPC c) ds.length).put (MEMD_STATUS_RANKS_PER_DIMM c)
    (min 2 (ds.head?.elim 0 Dimm.ranks))

/-- Whether a DIMM lies within the options of Table 4.2, in a channel of `dpc` DIMMs (R77). -/
def dimmListed (dpc : Nat) (d : Dimm) : Bool :=
  d.rdimm && d.width == 4 && [16, 24, 32].contains d.density && (d.height == 1 || d.height == 2) && 1 ≤ d.ranks && d.ranks ≤ 2 &&
  d.bytes ≤ 2 ^ 38 && [48, 52, 56, 60, 64].contains d.speed && (dpc ≤ 1 || d.speed ≤ 56)

/-- Whether a channel's DIMMs may serve: one or two, at most four ranks, every one of them listed. -/
def chanListed (ds : List Dimm) : Bool := ds.length ≤ 2 && ranksOf ds ≤ 4 && ds.all (dimmListed ds.length)

/-- Whether DIMMs are alike in the sense of R78. -/
def dimmAlike (a b : Dimm) : Bool :=
  a.bytes = b.bytes && a.ranks = b.ranks && a.density = b.density && a.height = b.height && a.speed = b.speed
def allAlike : List Dimm → Bool
  | [] => true
  | d :: ds => ds.all (dimmAlike d)

/-- The ranks of a channel: those of its DIMMs in service, the rest ABSENT (Table 4.9). -/
def State.rankStates (s : State) (c n : Nat) : State :=
  (List.range 4).foldl (fun s r => s.put (MEMD_RANK_STATE c r) (if r < n then 0 else 5)) s

/-- A channel whose DIMMs cannot serve (R78). -/
def State.mismatch (s : State) (c : Nat) : State :=
  ((s.put (MEMD_STATUS_STATE c) 6).raise (MEMD_EVENT_POP_MISMATCH c)).rankStates c 0

/-- RESTORED (R100 step 8, R78, R101): training has ended; `ds` is what the SPD of each DIMM says. -/
def execRestored (ch : Nat) (ds : List Dimm) (s : State) : Host.Outcome State Fault Refusal :=
  if ¬ s.mch.restoring.contains ch ∨ s.get MGT_STATUS_STATE ≠ 2 then .next s
  else
    let n := ch / 4
    let s := { s with mch := { s.mch with
      restoring := s.mch.restoring.filter (· ≠ ch)
      dimm := if ds = [] then NMap.erase s.mch.dimm ch else NMap.insert s.mch.dimm ch ds } }
    let s := ((s.showDimms ch ds).rankStates ch (ranksOf ds)).startRetrain (16 + ch)
    let others := (range' (4 * n) 4).filter fun c => c ≠ ch && (s.get (MEMD_STATUS_STATE c) = 4 || s.get (MEMD_STATUS_STATE c) = 2)
    let fin := fun (s : State) => ((s.raise (MEMD_EVENT_RESTORED ch)).put (MEMD_CMD_BUSY ch) 0).memdEnd ch stOK 0
    if ds = [] then
      let s := s.put (MEMD_STATUS_STATE ch) 0
      .next (fin (if others = [] then s.put (MEMD_SET_STATE n) 0 else s.formSet n others))
    else if ¬ chanListed ds then
      let s := s.mismatch ch
      .next (((if others = [] then s.put (MEMD_SET_STATE n) 4 else s.formSet n others).put (MEMD_CMD_BUSY ch) 0).memdEnd ch stPermission 0x4)
    else if allAlike (ds ++ others.flatMap (dimmsOf s)) then
      .next (fin (s.formSet n ((range' (4 * n) 4).filter fun c => c = ch || others.contains c)))
    else
      let s := ((ch :: others).foldl State.mismatch s).put (MEMD_SET_STATE n) 4
      .next (((s.recap).put (MEMD_CMD_BUSY ch) 0).memdEnd ch stPermission 0x4)

/-- SET_REFORM (R99): a drained set forms again without the rank that must retire. -/
def execSetReform (set : Nat) (s : State) : Host.Outcome State Fault Refusal :=
  match NMap.find s.mch.drains set with
  | some (.reform u) =>
    if setEmpty s set then
      let s := s.put (unitSt utRank u) 3
      let chans := (range' (4 * set) 4).filter fun c => s.get (MEMD_STATUS_STATE c) = 3
      .next (((s.formSet set chans).memEvent utRank u MEMH_EVENT_RETIRE_DONE MEMD_EVENT_RETIRE_DONE).closeRec utRank u)
    else .next s
  | _ => .next s

end Sys2Proof.Machine
end

