-- ==== Sys2Proof/Machine/Xlt.lean ====
section
/-! DEFINITION. Translation contexts, entries and windows, translation of one page, invalidation, and the page
counter commands (chapter 06). -/

namespace Sys2Proof.Machine

open Reg

/-- Table 6.4's reasons. -/
abbrev xrNotMapped : Nat := 1
abbrev xrRights : Nat := 2
abbrev xrNonCanon : Nat := 3
abbrev xrNoWindow : Nat := 4
abbrev xrInvalidated : Nat := 5
abbrev xrTooMany : Nat := 6
abbrev xrContext : Nat := 7

/-- The entry that covers a 64 KiB slot of addresses, and the slot it stands at (R127). -/
def XCtx.entryAt (c : XCtx) (slot : Nat) : Option (Nat × XEntry) :=
  match NMap.find c.entries (slot / 32 * 32) with
  | some e =>
    if !e.small then some (slot / 32 * 32, e)
    else match NMap.find c.entries slot with
      | some e => some (slot, e)
      | none => none
  | none =>
    match NMap.find c.entries slot with
    | some e => if e.small then some (slot, e) else none
    | none => none

/-- The window of a POOL context that covers an address (R129). -/
def XCtx.windowAt (c : XCtx) (va : Nat) : Option XWindow :=
  c.windows.find? fun w => w.va ≤ va && va < w.va + 2097152 * w.count

/-- The window whose pool range covers an address (R129). -/
def XCtx.windowOf (c : XCtx) (rpa : Nat) : Option XWindow :=
  c.windows.find? fun w => w.rpa ≤ rpa && rpa < w.rpa + 2097152 * w.count

/-- What translating one address gives: a record, a wait for an invalidation (R134), or a reason. -/
inductive XRes where
  | ok (r : XRec)
  | wait
  | fault (reason : Nat)
  deriving DecidableEq, Repr

/-- The record of an address taken as it stands: its 2 MiB page, every right (R124, R130). -/
def plainRec (a : Nat) : XRec :=
  { slot := a / 2097152 * 32, small := false, rights := 7, rpa := a / 2097152 * 2097152 }

/-- One address translated for a tenant in a context, for an access that needs `need` of the entry's rights
(bit 0 read, bit 1 write, bit 2 atomic; R123, R124, R127, R129). -/
def translate (s : State) (ctx tenant : Nat) (conv : Bool) (va need : Nat) : XRes :=
  if ctx = 0 then .ok (plainRec va)
  else match NMap.find s.xlt.ctxs ctx with
  | none => .fault xrContext
  | some c =>
    if c.tenant ≠ tenant ∨ ¬ s.flag XLT_CFG_ENABLE then .fault xrContext
    else if c.pool ∧ ¬ conv then .ok (plainRec va)
    else if 2 ^ 57 ≤ va then .fault xrNonCanon
    else if c.pool then
      match c.windowAt va with
      | none => .fault xrNoWindow
      | some w => if w.inval then .wait else .ok { plainRec va with rpa := w.rpa + (va / 2097152 * 2097152 - w.va) }
    else match c.entryAt (va / 65536) with
      | none => .fault xrNotMapped
      | some (slot, e) =>
        if e.inval then .wait
        else if Nat.land e.rights need ≠ need then .fault xrRights
        else .ok { slot := slot, small := e.small, rights := e.rights, rpa := e.rpa }

/-- Whether a record covers an address. -/
def XRec.covers (r : XRec) (a : Nat) : Bool :=
  if r.small then a / 65536 == r.slot else a / 2097152 * 32 == r.slot

/-- The rack pool address that a record gives. -/
def XRec.at (r : XRec) (a : Nat) : Nat := r.rpa + a % (if r.small then 65536 else 2097152)

/-- An entry as Table 6.2 lays it out. -/
def entryWord (small : Bool) (rights rpa : Nat) : Nat :=
  1 + 2 * b2n small + 8 * rights + 65536 * (rpa / 65536)

/-! Pins (R130). -/

/-- A context changed where it stands. -/
def State.setCtx (s : State) (ctx : Nat) (c : XCtx) : State :=
  { s with xlt := { s.xlt with ctxs := NMap.insert s.xlt.ctxs ctx c } }

/-- The pins of a translation list added, or taken off: of the entries, or of the windows of a list that was converted; a
POOL list that was not uses none (R129, R130). -/
def State.pin (s : State) (ctx : Nat) (conv : Bool) (xl : List XRec) (add : Bool) : State :=
  match NMap.find s.xlt.ctxs ctx with
  | none => s
  | some c =>
    let step := fun (n : Nat) => if add then n + 1 else n - 1
    if c.pool ∧ ¬ conv then s
    else if c.pool then
      let win := fun (w : XWindow) =>
        if xl.any (fun r => w.va ≤ 65536 * r.slot && 65536 * r.slot < w.va + 2097152 * w.count) then
          { w with pins := step w.pins }
        else w
      s.setCtx ctx { c with windows := c.windows.map win }
    else
      let ent := fun (k : Nat) (e : XEntry) => if xl.any (fun r => r.slot = k) then { e with pins := step e.pins } else e
      s.setCtx ctx { c with entries := NMap.mapVal ent c.entries }

/-- Translation-list records in use (XLT_STATUS.SLAB_USED). -/
def slabUsed (s : State) : Nat :=
  (s.chn.chans.flatMap fun (c : Nat × Chan) => c.2.live.map fun l => l.xl.length).sum

/-- Entries in use: every entry, and one more for each divided page (R127). -/
def XCtx.used (c : XCtx) : Nat :=
  c.entries.length + ((c.entries.filter fun (e : Nat × XEntry) => e.2.small).map fun e => e.1 / 32).eraseDups.length

def entriesUsed (s : State) : Nat := (s.xlt.ctxs.map fun (c : Nat × XCtx) => c.2.used).sum
def windowsUsed (s : State) : Nat := (s.xlt.ctxs.map fun (c : Nat × XCtx) => c.2.windows.length).sum

/-! Commands (R139). -/

/-- A translation command's end. -/
def State.xltEnd (s : State) (st de : Nat) : State := s.endCmd XLT_CMD_CTL_STATUS XLT_CMD_CTL_DETAIL st de

/-- The context a command names, where it is one of 1 to 1,023 and created. -/
def cmdCtx (s : State) : Option XCtx :=
  if s.get XLT_CMD2_CTX = 0 then none else NMap.find s.xlt.ctxs (s.get XLT_CMD2_CTX)

/-- Bytes of a page of the command's SIZE. -/
def cmdPage (s : State) : Nat := if s.get XLT_CMD2_SIZE = 1 then 65536 else 2097152

/-- The slots at which the command's pages stand. -/
def cmdSlots (s : State) : List Nat :=
  (List.range (s.get XLT_CMD2_COUNT)).map fun i => (s.get XLT_CMD0_VA + i * cmdPage s) / 65536

/-- DETAIL 0x2: an address not aligned, or a range past the end of its space. -/
def cmdUnaligned (s : State) (page : Nat) (rpa : Bool) : Bool :=
  let n := s.get XLT_CMD2_COUNT
  s.get XLT_CMD0_VA % page ≠ 0 || 2 ^ 57 < s.get XLT_CMD0_VA + n * page ||
  (rpa && (s.get XLT_CMD1_RPA % page ≠ 0 || 2 ^ 56 < s.get XLT_CMD1_RPA + n * page))

/-- DETAIL 0x9: a SIZE that is reserved, or a COUNT out of range. -/
def cmdBadField (s : State) : Bool :=
  1 < s.get XLT_CMD2_SIZE || s.get XLT_CMD2_COUNT = 0 || 262144 < s.get XLT_CMD2_COUNT

/-- The first DETAIL of a list of conditions that holds. -/
def firstDetail : List (Bool × Nat) → Option Nat
  | [] => none
  | (b, d) :: l => if b then some d else firstDetail l

/-- CTX_CREATE (R124, R125). -/
def execCtxCreate (s : State) : Host.Outcome State Fault Refusal :=
  if s.flag XLT_CMD_CTL_BUSY then .next s
  else
    let ctx := s.get XLT_CMD2_CTX
    let pool := s.flag XLT_CMD3_MODE
    let nodes := s.get XLT_CMD3_NODES
    let agents := s.get XLT_CMD3_AGENTS
    match firstDetail [(ctx = 0 || (NMap.find s.xlt.ctxs ctx).isSome, 1), (!pool && (8 < nodes || 128 < agents), 4),
        (nodes = 0 || 64 < nodes || agents = 0 || 4096 < agents, 9), (!configured s (s.get XLT_CMD3_TENANT), 0xa)] with
    | some de => .next (s.xltEnd stPermission de)
    | none => .next ((s.setCtx ctx ⟨s.get XLT_CMD3_TENANT, pool, [], []⟩).xltEnd stOK 0)

/-- Whether a context's entries or windows hold any pin. -/
def XCtx.pinned (c : XCtx) : Bool :=
  (c.entries.any fun (e : Nat × XEntry) => e.2.pins ≠ 0) || c.windows.any fun w => w.pins ≠ 0

/-- Cirque cache lines dropped. -/
def State.dropCached (s : State) (f : XCached → Bool) : State :=
  { s with xlt := { s.xlt with cache := NMap.mapVal (fun _ (l : List XCached) => l.filter fun x => !f x) s.xlt.cache } }

/-- CTX_DESTROY (R139). -/
def execCtxDestroy (s : State) : Host.Outcome State Fault Refusal :=
  if s.flag XLT_CMD_CTL_BUSY then .next s
  else match cmdCtx s with
  | none => .next (s.xltEnd stPermission 1)
  | some c =>
    if c.pinned then .next (s.xltEnd stPermission 7)
    else
      let ctx := s.get XLT_CMD2_CTX
      let s := s.dropCached fun x => x.ctx = ctx
      .next ({ s with xlt := { s.xlt with ctxs := NMap.erase s.xlt.ctxs ctx } }.xltEnd stOK 0)

/-- Whether something of a 2 MiB page or a 64 KiB slot is mapped already (MAP). -/
def XCtx.taken (c : XCtx) (small : Bool) (slot : Nat) : Bool :=
  if small then (c.entryAt slot).isSome || (NMap.find c.entries (slot / 32 * 32)).any fun e => !e.small
  else (range' slot 32).any fun k => (NMap.find c.entries k).isSome

/-- Entries that a MAP would add, with those of newly divided pages. -/
def mapCost (c : XCtx) (small : Bool) (slots : List Nat) : Nat :=
  let c' := { c with entries := slots.foldl (fun m k => NMap.insert m k ⟨small, 0, 0, 0, false⟩) c.entries }
  c'.used - c.used

/-- MAP (R127): all the pages, or none. -/
def execXltMap (s : State) : Host.Outcome State Fault Refusal :=
  if s.flag XLT_CMD_CTL_BUSY then .next s
  else match cmdCtx s with
  | none => .next (s.xltEnd stPermission 1)
  | some c =>
    let small := s.get XLT_CMD2_SIZE == 1
    let slots := cmdSlots s
    match firstDetail [(!cmdBadField s && cmdUnaligned s (cmdPage s) true, 2),
        (!c.pool && slots.any (c.taken small), 3),
        (!c.pool && 16777216 < entriesUsed s + mapCost c small slots, 5), (c.pool, 6), (cmdBadField s, 9)] with
    | some de => .next (s.xltEnd stPermission de)
    | none =>
      let rpa := s.get XLT_CMD1_RPA
      let es := (slots.zip (List.range slots.length)).foldl (fun m (x : Nat × Nat) =>
        NMap.insert m x.1 ⟨small, s.get XLT_CMD2_RIGHTS, rpa + x.2 * cmdPage s, 0, false⟩) c.entries
      .next ((s.setCtx (s.get XLT_CMD2_CTX) { c with entries := es }).xltEnd stOK 0)

/-! Invalidation (R133 to R135). -/

/-- The slots of a change. -/
def XChange.slots : XChange → List Nat
  | .unmap _ l => l
  | .protect _ l _ => l
  | .remap _ l _ => l
  | .removeWindow _ _ => []

def XChange.ctx : XChange → Nat
  | .unmap c _ => c
  | .protect c _ _ => c
  | .remap c _ _ => c
  | .removeWindow c _ => c

/-- Whether a change names the window or entry behind an address slot. -/
def XChange.hits (s : State) (ch : XChange) (slot : Nat) : Bool :=
  match ch with
  | .removeWindow ctx va =>
    ((NMap.find s.xlt.ctxs ctx).bind fun c => c.windowAt va).any fun w =>
      w.va ≤ 65536 * slot && 65536 * slot < w.va + 2097152 * w.count
  | _ => ch.slots.contains slot

/-- Step 2: entries or windows INVALIDATING. -/
def State.markInval (s : State) (ch : XChange) : State :=
  match NMap.find s.xlt.ctxs ch.ctx with
  | none => s
  | some c =>
    match ch with
    | .removeWindow ctx va =>
      s.setCtx ctx { c with windows := c.windows.map fun w => if w.va = va then { w with inval := true } else w }
    | _ =>
      let mark := fun (k : Nat) (e : XEntry) => if ch.slots.contains k then { e with inval := true } else e
      s.setCtx ch.ctx { c with entries := NMap.mapVal mark c.entries }

/-- A stop told to a live descriptor; the first cause stays (R153). -/
def LiveDesc.stopWith (l : LiveDesc) (c : DStop) : LiveDesc :=
  if l.stop.isNone ∧ l.ended.isNone then { l with stop := some c } else l

def chanOf' (s : State) (c : Nat) : Option Chan := NMap.find s.chn.chans c

def State.setChan (s : State) (c : Nat) (x : Chan) : State := { s with chn := { s.chn with chans := NMap.insert s.chn.chans c x } }

/-- A live descriptor of a channel, by its ring index. -/
def liveOf (s : State) (c i : Nat) : Option LiveDesc := (chanOf' s c).bind fun x => x.live.find? fun l => l.idx = i

/-- A live descriptor changed where it stands. -/
def State.setLive (s : State) (c : Nat) (l : LiveDesc) : State :=
  match chanOf' s c with
  | some x => s.setChan c { x with live := x.live.map fun y => if y.idx = l.idx then l else y }
  | none => s

/-- The cirques of some engines. -/
def cirqsOf (es : List Nat) : List Nat := (es.map (· / 16)).eraseDups

def launchOfDesc (s : State) (c i : Nat) : Option Launch := s.eng.launches.find? fun l => l.ch = c && l.idx = i

/-- The LAUNCH ends without its engines: its cirques are let go. -/
def State.freeLaunch (s : State) (l : Launch) : State :=
  let s := if l.held then (cirqsOf l.engines).foldl (fun s c => s.put (CIRQ_STATUS_BUSY c) 0) s else s
  { s with eng := { s.eng with launches := s.eng.launches.filter fun y => ¬ (y.ch = l.ch ∧ y.idx = l.idx) } }

/-- What a descriptor that ends before its data moves lets go: the accesses its acceptance or its loading waits for, and the
cirques of a LAUNCH that is not loaded. -/
def State.letGo (s : State) (c : Nat) (l : LiveDesc) : State :=
  let s := if l.recording then s else (l.accs.foldl State.closeAcc s).setLive c { l with accs := [] }
  match launchOfDesc s c l.idx with
  | some n => if n.loaded then s else s.freeLaunch n
  | none => s

/-- The live descriptors that `f` selects told to stop (R133 step 4, R153). -/
def State.stopLive (s : State) (cause : DStop) (f : Chan → LiveDesc → Bool) : State :=
  let hit := s.chn.chans.flatMap fun (c : Nat × Chan) =>
    (c.2.live.filter fun l => f c.2 l && l.stop.isNone && l.ended.isNone).map fun l => (c.1, l.idx)
  hit.foldl (fun s p => match liveOf s p.1 p.2 with
    | some l => (s.setLive p.1 (l.stopWith cause)).letGo p.1 (l.stopWith cause)
    | none => s) s

/-- Steps 2 to 4 of Table 6.5: marked, cirque caches cleared of it, users told to stop; the command runs on. -/
def State.startInval (s : State) (ch : XChange) : State :=
  let s0 := s
  let s := s.markInval ch
  let s := s.dropCached fun x => x.ctx = ch.ctx && ch.hits s0 x.slot
  let pool := (NMap.find s0.xlt.ctxs ch.ctx).any XCtx.pool
  let s := s.stopLive ⟨stXlate, xrInvalidated⟩ fun c l =>
    c.ctx = ch.ctx && l.pinned && (!pool || l.d.flags % 2 == 1) && l.xl.any fun r => ch.hits s0 r.slot
  { s with xlt := { s.xlt with change := some ch } }.put XLT_CMD_CTL_BUSY 1

/-- The checks of UNMAP, PROTECT and REMAP. -/
def pagesRefusal (s : State) (c : XCtx) (rpa : Bool) : Option Nat :=
  let small := s.get XLT_CMD2_SIZE == 1
  firstDetail [(!cmdBadField s && cmdUnaligned s (cmdPage s) rpa, 2),
    (!c.pool && (cmdSlots s).any (fun k => !(NMap.find c.entries k).any fun e => e.small == small), 3),
    (c.pool, 6), (cmdBadField s, 9)]

/-- UNMAP (R133). -/
def execUnmap (s : State) : Host.Outcome State Fault Refusal :=
  if s.flag XLT_CMD_CTL_BUSY then .next s
  else match cmdCtx s with
  | none => .next (s.xltEnd stPermission 1)
  | some c =>
    match pagesRefusal s c false with
    | some de => .next (s.xltEnd stPermission de)
    | none => .next (s.startInval (.unmap (s.get XLT_CMD2_CTX) (cmdSlots s)))

/-- The cirque caches' lines of some entries take new rights. -/
def State.giveCached (s : State) (ctx : Nat) (slots : List Nat) (r : Nat) : State :=
  let give := fun (x : XCached) => if x.ctx = ctx ∧ slots.contains x.slot then { x with rights := r } else x
  { s with xlt := { s.xlt with cache := NMap.mapVal (fun _ (l : List XCached) => l.map give) s.xlt.cache } }

/-- PROTECT (R133): at once where it takes no right away. -/
def execProtect (s : State) : Host.Outcome State Fault Refusal :=
  if s.flag XLT_CMD_CTL_BUSY then .next s
  else match cmdCtx s with
  | none => .next (s.xltEnd stPermission 1)
  | some c =>
    match pagesRefusal s c false with
    | some de => .next (s.xltEnd stPermission de)
    | none =>
      let r := s.get XLT_CMD2_RIGHTS
      let slots := cmdSlots s
      if slots.all (fun k => (NMap.find c.entries k).all fun e => Nat.land e.rights r == e.rights) then
        let give := fun (k : Nat) (e : XEntry) => if slots.contains k then { e with rights := r } else e
        let ctx := s.get XLT_CMD2_CTX
        .next (((s.setCtx ctx { c with entries := NMap.mapVal give c.entries }).giveCached ctx slots r).xltEnd stOK 0)
      else .next (s.startInval (.protect (s.get XLT_CMD2_CTX) slots r))

/-- REMAP (R133). -/
def execRemap (s : State) : Host.Outcome State Fault Refusal :=
  if s.flag XLT_CMD_CTL_BUSY then .next s
  else match cmdCtx s with
  | none => .next (s.xltEnd stPermission 1)
  | some c =>
    match pagesRefusal s c true with
    | some de => .next (s.xltEnd stPermission de)
    | none => .next (s.startInval (.remap (s.get XLT_CMD2_CTX) (cmdSlots s) (s.get XLT_CMD1_RPA)))

/-- Whether two ranges of granules meet. -/
def meets (a n b m : Nat) : Bool := a < b + 2097152 * m && b < a + 2097152 * n

/-- WINDOW_ADD (R129). -/
def execWindowAdd (s : State) : Host.Outcome State Fault Refusal :=
  if s.flag XLT_CMD_CTL_BUSY then .next s
  else match cmdCtx s with
  | none => .next (s.xltEnd stPermission 1)
  | some c =>
    let va := s.get XLT_CMD0_VA
    let rpa := s.get XLT_CMD1_RPA
    let n := s.get XLT_CMD2_COUNT
    match firstDetail [(cmdUnaligned s 2097152 true, 2),
        (c.pool && (4096 ≤ c.windows.length || 65536 ≤ windowsUsed s), 5), (!c.pool, 6),
        (c.windows.any (fun w => meets w.va w.count va n || meets w.rpa w.count rpa n), 8),
        (n = 0 || 262144 < n, 9)] with
    | some de => .next (s.xltEnd stPermission de)
    | none => .next ((s.setCtx (s.get XLT_CMD2_CTX) { c with windows := c.windows ++ [⟨va, rpa, n, 0, false⟩] }).xltEnd stOK 0)

/-- WINDOW_REMOVE (R133): of the window that starts at VA; where none does, DETAIL 0x3. -/
def execWindowRemove (s : State) : Host.Outcome State Fault Refusal :=
  if s.flag XLT_CMD_CTL_BUSY then .next s
  else match cmdCtx s with
  | none => .next (s.xltEnd stPermission 1)
  | some c =>
    let va := s.get XLT_CMD0_VA
    match firstDetail [(va % 2097152 ≠ 0, 2), (c.pool && !c.windows.any (fun w => w.va = va), 3), (!c.pool, 6)] with
    | some de => .next (s.xltEnd stPermission de)
    | none => .next (s.startInval (.removeWindow (s.get XLT_CMD2_CTX) va))

/-- QUERY (R139, Table 6.9). -/
def execXltQuery (s : State) : Host.Outcome State Fault Refusal :=
  if s.flag XLT_CMD_CTL_BUSY then .next s
  else match cmdCtx s with
  | none => .next (s.xltEnd stPermission 1)
  | some c =>
    let va := s.get XLT_CMD0_VA
    let (w, pins) :=
      if c.pool then
        match c.windowAt va with
        | some w => (entryWord false 7 (w.rpa + (va / 2097152 * 2097152 - w.va)), w.pins)
        | none => (0, 0)
      else
        match c.entryAt (va / 65536) with
        | some (_, e) => (entryWord e.small e.rights e.rpa, e.pins)
        | none => (0, 0)
    .next (((s.put XLT_VIEW0_DATA w).put XLT_VIEW1_PINS pins).xltEnd stOK 0)

/-- CNT_CLEAR (R136). -/
def execCntClear (s : State) : Host.Outcome State Fault Refusal :=
  if s.flag XLT_CMD_CTL_BUSY then .next s
  else
    let n := s.get XLT_CMD2_COUNT
    if n = 0 ∨ 262144 < n then .next (s.xltEnd stPermission 9)
    else .next ((s.zeroCounters (bits (s.get XLT_CMD1_RPA) 43 21) n).xltEnd stOK 0)

/-! The end of an invalidation. -/

/-- The launch that an engine runs in. -/
def launchOf (s : State) (e : Nat) : Option Launch := s.eng.launches.find? fun l => l.engines.contains e && l.held

/-- Whether an engine request translated from what a change names is still outstanding (step 3). -/
def chased (s : State) (ch : XChange) : Bool :=
  s.eng.engs.any fun (p : Nat × Eng) => (launchOf s p.1).any (fun l => l.ctx = ch.ctx) &&
    p.2.tags.any fun (t : Nat × ATag) => match t.2 with
      | .out r => r.slot.any fun k => ch.hits s k
      | _ => false

/-- Whether any pin is held on what a change names (step 5). -/
def pinsHeld (s : State) (ch : XChange) : Bool :=
  match NMap.find s.xlt.ctxs ch.ctx with
  | none => false
  | some c => match ch with
    | .removeWindow _ va => c.windows.any fun w => w.va = va && w.pins ≠ 0
    | _ => c.entries.any fun (e : Nat × XEntry) => ch.slots.contains e.1 && e.2.pins ≠ 0

/-- Step 6: the change applied. -/
def State.applyChange (s : State) (ch : XChange) : State :=
  match NMap.find s.xlt.ctxs ch.ctx with
  | none => s
  | some c => match ch with
    | .unmap ctx l => s.setCtx ctx { c with entries := NMap.keep (fun k _ => !l.contains k) c.entries }
    | .protect ctx l r =>
      let give := fun (k : Nat) (e : XEntry) => if l.contains k then { e with rights := r, inval := false } else e
      s.setCtx ctx { c with entries := NMap.mapVal give c.entries }
    | .remap ctx l r =>
      let move := fun (k : Nat) (e : XEntry) =>
        if l.contains k then
          { e with rpa := r + l.idxOf k * (if e.small then 65536 else 2097152), inval := false }
        else e
      s.setCtx ctx { c with entries := NMap.mapVal move c.entries }
    | .removeWindow ctx va => s.setCtx ctx { c with windows := c.windows.filter fun w => w.va ≠ va }

/-- INVAL_DONE (R133 step 6): the cirques have acknowledged and every pin is released. -/
def execInvalDone (s : State) : Host.Outcome State Fault Refusal :=
  match s.xlt.change with
  | none => .next s
  | some ch =>
    if chased s ch ∨ pinsHeld s ch then .next s
    else
      let s := s.applyChange ch
      let s := { s with xlt := { s.xlt with change := none } }.put XLT_CMD_CTL_BUSY 0
      .next ((s.xltEnd stOK 0).raise XLT_EVENT_INVAL_DONE)

/-- CNT_EPOCH (R137): every CNT_EPOCH_MS of rack time, counters halve and NOTIFIED bits clear. -/
def execCntEpoch (s : State) : Host.Outcome State Fault Refusal :=
  let p := 1000000 * s.get XLT_CFG_CNT_EPOCH_MS
  if s.now / p ≤ s.xlt.lastEpoch / p then .next s
  else
    let half := fun (c : PageCnt) => ({ cnt := (NMap.mapVal (fun _ n => n / 2) c.cnt).filter fun x => x.2 ≠ 0, notified := [] } : PageCnt)
    .next { s with xlt := { s.xlt with
      counters := (NMap.mapVal (fun _ c => half c) s.xlt.counters).filter fun x => x.2.cnt ≠ []
      lastEpoch := s.now } }

/-- XLT_HOT_POP (R137): the head record discarded, the next one shown. -/
def execXltHotPop (s : State) : Host.Outcome State Fault Refusal :=
  .next { s with xlt := { s.xlt with hotQ := s.xlt.hotQ.drop 1 } }.showHot

end Sys2Proof.Machine
end

