-- ==== Sys2Proof/Machine/Desc.lean ====
section
/-! DEFINITION. Work descriptors: the layout of Table 7.2, where each opcode's operands lie (R148, R151, R157 to
R164), the checks of R149, and the pages a descriptor translates (R130). -/

namespace Sys2Proof.Machine

open Reg

/-- `n` bytes of a byte list from position `i`, as a little-endian number. -/
def fieldLe (l : List Byte) (i n : Nat) : Nat := leNat (slice l i n)

/-- The descriptor that 128 bytes hold (Table 7.2). -/
def descOf (l : List Byte) : Desc :=
  { op := fieldLe l 0 1, flags := fieldLe l 1 1, fmt := fieldLe l 2 1, opx := fieldLe l 3 1
    cnt := [fieldLe l 4 4, fieldLe l 0x28 2, fieldLe l 0x2a 2, fieldLe l 0x2c 2, fieldLe l 0x2e 2]
    userTag := fieldLe l 8 8, src := fieldLe l 0x10 8, dst := fieldLe l 0x18 8, aux := fieldLe l 0x20 8
    start := [fieldLe l 0x30 2, fieldLe l 0x32 2, fieldLe l 0x34 2]
    rsvd := fieldLe l 0x36 2, imm := fieldLe l 0x38 8
    ss := [fieldLe l 0x40 6, fieldLe l 0x46 6, fieldLe l 0x4c 6, fieldLe l 0x52 6]
    ds := [fieldLe l 0x58 6, fieldLe l 0x5e 6, fieldLe l 0x64 6, fieldLe l 0x6a 6]
    xlate := fieldLe l 0x70 8, imm2 := fieldLe l 0x78 8 }

/-! Opcodes of Table 7.3. -/
abbrev opFill : Nat := 0x01
abbrev opCopy : Nat := 0x02
abbrev opCompare : Nat := 0x03
abbrev opReduce : Nat := 0x04
abbrev opGather : Nat := 0x05
abbrev opScatter : Nat := 0x06
abbrev opFilter : Nat := 0x07
abbrev opConvert : Nat := 0x08
abbrev opLaunch : Nat := 0x10
abbrev opPush : Nat := 0x11
abbrev opPublish : Nat := 0x20
abbrev opFlush : Nat := 0x21
abbrev opMark : Nat := 0x30
abbrev opFence : Nat := 0x31

def Desc.known (d : Desc) : Bool :=
  [1, 2, 3, 4, 5, 6, 7, 8, 0x10, 0x11, 0x20, 0x21, 0x30, 0x31].contains d.op
def Desc.tiled (d : Desc) : Bool := [1, 2, 3, 4, 5, 6, 7, 8, 0x11].contains d.op
/-- The byte-moving opcodes, whose element is one byte (R147). -/
def Desc.bytewise (d : Desc) : Bool := [1, 2, 3, 5, 6, 0x11].contains d.op

def Desc.c (d : Desc) (k : Nat) : Nat := d.cnt.getD k 0
def Desc.srcFmt (d : Desc) : Nat := d.fmt % 16
def Desc.dstFmt (d : Desc) : Nat := d.fmt / 16 % 16
def Desc.conv (d : Desc) : Bool := bit d.flags 0

/-- Bits of an element on the source and on the destination side. -/
def Desc.srcBits (d : Desc) : Nat := if d.bytewise then 8 else fmtBits d.srcFmt
def Desc.dstBits (d : Desc) : Nat := if d.bytewise then 8 else fmtBits d.dstFmt

/-- Bytes of one row on each side. -/
def Desc.srcRow (d : Desc) : Nat := divUp (d.srcBits * d.c 0) 8
def Desc.dstRow (d : Desc) : Nat := divUp (d.dstBits * d.c 0) 8

/-! Tiles (R151). -/

/-- Tiles of the whole iteration space, and the ordinal of the first one to run. -/
def Desc.tileCount (d : Desc) : Nat := d.c 2 * d.c 3 * d.c 4
def Desc.first (d : Desc) : Nat := d.start.getD 0 0 + d.c 2 * (d.start.getD 1 0 + d.c 3 * d.start.getD 2 0)

/-- The coordinates of a tile. -/
def Desc.at (d : Desc) (o : Nat) : Nat × Nat × Nat := (o % d.c 2, o / d.c 2 % d.c 3, o / (d.c 2 * d.c 3))

/-- A stride as the signed byte count it is (R147). -/
def strideOf (l : List Nat) (k : Nat) : Int := toInt 48 (l.getD k 0)

/-- The address of row i1 of a tile (R151), as an address of 64 bits. -/
def Desc.rowAt (d : Desc) (base : Nat) (st : List Nat) (o i1 : Nat) : Nat :=
  let (i2, i3, i4) := d.at o
  (((base : Int) + i1 * strideOf st 0 + i2 * strideOf st 1 + i3 * strideOf st 2 + i4 * strideOf st 3) % (2 ^ 64 : Int)).toNat

def Desc.rowsAt (d : Desc) (base : Nat) (st : List Nat) (o : Nat) : List Nat :=
  (List.range (d.c 1)).map (d.rowAt base st o)

/-- Scale bytes of one tile (R162, R200). -/
def Desc.scales (d : Desc) : Nat := d.c 0 * d.c 1 / 32

/-- Mask bytes of one FILTER tile (R161). -/
def Desc.maskBytes (d : Desc) : Nat := divUp (d.c 0 * d.c 1) 8

/-- Tiles that the descriptor could run. -/
def Desc.toRun (d : Desc) : Nat := d.tileCount - d.first

/-- Bytes of one entry of a gather or scatter list (R160). -/
def Desc.entry (d : Desc) : Nat := if bit d.opx 0 then 4 else 8
def Desc.listRows (d : Desc) : Nat := d.c 1 * d.tileCount

/-- The ranges a tile touches, in order: address, bytes, and what they need: bit 0 read, bit 1 write. `rows` is
the list of a GATHER or SCATTER. -/
def Desc.segs (d : Desc) (rows : List Nat) (o : Nat) : List (Nat × Nat × Nat) :=
  let src := (d.rowsAt d.src d.ss o).map fun a => (a, d.srcRow, 1)
  let dst := fun (need : Nat) => (d.rowsAt d.dst d.ds o).map fun a => (a, d.dstRow, need)
  let listed := fun (need : Nat) => (slice rows (o * d.c 1) (d.c 1)).map fun a => (a, d.c 0, need)
  if d.op = opFill then dst 2
  else if d.op = opCopy then src ++ dst 2
  else if d.op = opCompare then src ++ dst 1
  else if d.op = opReduce then
    if d.aux = 0 then src ++ dst 3 else src ++ ((d.rowsAt d.aux d.ss o).map fun a => (a, d.srcRow, 1)) ++ dst 2
  else if d.op = opGather then listed 1 ++ dst 2
  else if d.op = opScatter then src ++ listed 2
  else if d.op = opFilter then
    src ++ [(d.dst, d.toRun * d.dstRow * d.c 1, 2)] ++
      (if d.aux = 0 then [] else [(d.aux, d.toRun * d.maskBytes, 2)])
  else if d.op = opConvert then
    src ++ (if bit d.opx 1 then [(d.aux + o * d.scales, d.scales, 1)] else []) ++ dst 2 ++
      (if bit d.opx 2 then [(d.imm2 + o * d.scales, d.scales, 2)] else [])
  else if d.op = opPush then src ++ (if bit d.imm2 12 then [] else [(d.aux, 8, 2)])
  else []

/-- The list that a GATHER or SCATTER reads. -/
def Desc.listSeg (d : Desc) : List (Nat × Nat × Nat) :=
  if d.op = opGather ∨ d.op = opScatter then [(d.aux, d.listRows * d.entry, 1)] else []

/-- What a descriptor without tiles translates: LAUNCH's program and argument block, FLUSH's range. -/
def Desc.flatSegs (d : Desc) : List (Nat × Nat × Nat) :=
  if d.op = opLaunch then [(d.src, d.c 0, 1), (d.aux, d.c 1, 1)]
  else if d.op = opFlush then [(d.dst, d.imm, 0)]
  else []

/-! Bounding ranges (R149). -/

/-- A bounding range: lowest byte, one past the highest, whether it is written. -/
structure Bound where
  lo : Int
  hi : Int
  wr : Bool
  deriving DecidableEq, Repr

def Desc.boundOf (d : Desc) (base : Nat) (st : List Nat) (row : Nat) (wr : Bool) : Bound :=
  let ext := fun (k : Nat) => ((d.c (k + 1) : Int) - 1) * strideOf st k
  let es := (List.range 4).map ext
  ⟨base + (es.map fun x => min x 0).sum, base + (es.map fun x => max x 0).sum + row, wr⟩

/-- The operands on this node, as bounding ranges. -/
def Desc.bounds (d : Desc) : List Bound :=
  let src := d.boundOf d.src d.ss d.srcRow false
  let dst := fun (w : Bool) => d.boundOf d.dst d.ds d.dstRow w
  let flat := fun (a n : Nat) (w : Bool) => (⟨a, a + n, w⟩ : Bound)
  if d.op = opFill then [dst true]
  else if d.op = opCopy then [src, dst true]
  else if d.op = opCompare then [src, dst false]
  else if d.op = opReduce then
    if d.aux = 0 then [src, dst true] else [src, d.boundOf d.aux d.ss d.srcRow false, dst true]
  else if d.op = opGather then [flat d.aux (d.listRows * d.entry) false, dst true]
  else if d.op = opScatter then [src, flat d.aux (d.listRows * d.entry) false]
  else if d.op = opFilter then
    [src, flat d.dst (d.toRun * d.dstRow * d.c 1) true] ++
      (if d.aux = 0 then [] else [flat d.aux (d.toRun * d.maskBytes) true])
  else if d.op = opConvert then
    [src, dst true] ++ (if bit d.opx 1 then [flat d.aux (d.scales * d.tileCount) false] else []) ++
      (if bit d.opx 2 then [flat d.imm2 (d.scales * d.tileCount) true] else [])
  else if d.op = opPush then src :: (if bit d.imm2 12 then [] else [flat d.aux 8 true])
  else if d.op = opLaunch then [flat d.src (d.c 0) false, flat d.aux (d.c 1) false]
  else if d.op = opFlush then [flat d.dst d.imm false]
  else []

/-- Whether a written operand meets another (DETAIL 0x05). -/
def overlapping : List Bound → Bool
  | [] => false
  | b :: l => (l.any fun x => (b.wr || x.wr) && b.lo < x.hi && x.lo < b.hi) || overlapping l

/-! Checks (Table 7.4). -/

/-- DETAIL 0x02: reserved bits, and the fields that Table 7.3 and the opcode's rule leave unused. -/
def Desc.unusedSet (d : Desc) : Bool :=
  let z := fun (l : List Nat) => l.any (· ≠ 0)
  1 < d.flags || d.rsvd ≠ 0 || d.xlate ≠ 0 ||
  (!d.tiled && (z d.ss || z d.ds || z d.start)) ||
  (if d.op = opFill then z [d.src, d.aux, d.imm2, d.opx / 4]
   else if d.op = opCopy ∨ d.op = opCompare then z [d.aux, d.imm, d.imm2, d.opx]
   else if d.op = opReduce then z [d.imm, d.imm2, d.opx / 4]
   else if d.op = opGather then z [d.imm2, d.opx / 2] || (!bit d.opx 0 && z [d.src, d.imm])
   else if d.op = opScatter then z [d.imm2, d.opx / 2] || (!bit d.opx 0 && z [d.dst, d.imm])
   else if d.op = opFilter then z [d.imm2, d.opx / 8] || z d.ds
   else if d.op = opConvert then
     d.opx / 8 ≠ 0 || (!bit d.opx 0 && d.imm ≠ 0) || (!bit d.opx 1 && d.aux ≠ 0) || (!bit d.opx 2 && d.imm2 ≠ 0)
   else if d.op = opLaunch then z [d.dst, d.imm2, d.opx, d.imm / 2 ^ 32]
   else if d.op = opPush then z [d.imm, d.opx, d.imm2 / 2 ^ 13]
   else if d.op = opPublish then z [d.src, d.dst, d.aux, d.opx, d.imm2 / 2 ^ 32]
   else if d.op = opFlush then z [d.src, d.aux, d.imm2, d.opx]
   else if d.op = opMark then z [d.src, d.dst, d.aux, d.imm2]
   else z [d.src, d.dst, d.aux, d.imm, d.imm2, d.opx])

/-- DETAIL 0x07: formats and OPX values. -/
def Desc.badFormat (d : Desc) : Bool :=
  if d.bytewise ∨ ¬ d.tiled then d.fmt ≠ 0 || (d.op = opMark && 2 < d.opx)
  else if d.op = opReduce then d.srcFmt ≠ d.dstFmt || 4 < d.srcFmt || d.opx % 4 = 3
  else if d.op = opFilter then d.srcFmt ≠ d.dstFmt || !([0, 1, 2, 8].contains d.srcFmt) || 5 < d.opx % 8
  else !fmtOk d.srcFmt || !fmtOk d.dstFmt || (bit d.opx 1 && !fmtScalable d.srcFmt) || (bit d.opx 2 && !fmtScalable d.dstFmt)

/-- DETAIL 0x03: counts, starts, FLUSH's length. -/
def Desc.badCount (d : Desc) : Bool :=
  let used := if d.tiled then 5 else if d.op = opLaunch then 2 else 0
  (List.range 5).any (fun k => d.c k = 0 || (if k = 0 then 65536 else 65535) < d.c k || (used ≤ k && d.c k ≠ 1)) ||
  (d.tiled && (List.range 3).any fun k => d.c (k + 2) ≤ d.start.getD k 0) ||
  (d.op = opFlush && (d.imm = 0 || 2 ^ 44 < d.imm))

/-- DETAIL 0x04: a tile above 64 KiB. -/
def Desc.bigTile (d : Desc) : Bool := d.tiled && 8 * 65536 < max d.srcBits d.dstBits * d.c 0 * d.c 1

/-- Whether a base and the strides in use are multiples of an element size given in bits; of 3 bytes for a 6-bit format
(R197); a 4-bit one may stand at any byte. -/
def Desc.aligned (d : Desc) (bits base : Nat) (st : List Nat) : Bool :=
  let n := if bits = 6 then 3 else bits / 8
  bits = 4 || (base % n = 0 && (List.range 4).all fun k => d.c (k + 1) ≤ 1 || strideOf st k % n = 0)

/-- DETAIL 0x08. -/
def Desc.badAlign (d : Desc) : Bool :=
  let odd := fun (b : Nat) => (b = 4 && d.c 0 % 2 ≠ 0) || (b = 6 && d.c 0 % 4 ≠ 0)
  d.tiled && (odd d.srcBits || odd d.dstBits || (d.op = opConvert && (bit d.opx 1 || bit d.opx 2) && d.c 0 % 32 ≠ 0) ||
    (d.op ≠ opFill && !d.aligned d.srcBits d.src d.ss) || !d.aligned d.dstBits d.dst d.ds ||
    (d.op = opReduce && !d.aligned d.srcBits d.aux d.ss) || (d.op = opPush && d.aux % 8 ≠ 0))

/-- The engines a LAUNCH selects, but for those OFFLINE (R163, R188 step 1). -/
def launchSel (s : State) (imm : Nat) : List Nat :=
  (List.range 256).filter fun e => bit imm (e / 16) && bit imm (16 + e % 16) && !s.flag (ENG_CTL_OFFLINE e)

/-- DETAIL 0x0A. -/
def badLaunch (s : State) (d : Desc) : Bool :=
  d.op = opLaunch && (d.c 0 < 8 || 65536 < d.c 0 || d.c 0 % 8 ≠ 0 || 4096 < d.c 1 || launchSel s d.imm = [])

/-- Whether a range of untranslated addresses leaves this node. -/
def offNode (s : State) (b : Bound) : Bool :=
  b.lo < (s.node * 2 ^ 50 : Nat) || ((s.node + 1) * 2 ^ 50 : Nat) < b.hi

/-! Translation (R130). -/

/-- A translation list so far, or why it stops. -/
inductive XList where
  | ok (l : List XRec)
  | wait
  | fault (reason : Nat)
  deriving DecidableEq, Repr

/-- A range translated page by page; `fuel` bounds its pages. -/
def xlSeg (s : State) (ctx tenant : Nat) (conv : Bool) (need : Nat) : Nat → Nat → Nat → List XRec → XList
  | 0, _, _, l => .ok l
  | fuel + 1, a, n, l =>
    if n = 0 then .ok l
    else match translate s ctx tenant conv a need with
    | .wait => .wait
    | .fault r => .fault r
    | .ok r =>
      let l := if l.any (· = r) then l else l ++ [r]
      let page := if r.small then 65536 else 2097152
      let k := page - a % page
      if 4096 < l.length then .fault xrTooMany else xlSeg s ctx tenant conv need fuel (a + k) (n - k) l

/-- A list of ranges translated in order. -/
def xlSegs (s : State) (ctx tenant : Nat) (conv : Bool) : List (Nat × Nat × Nat) → List XRec → XList
  | [], l => .ok l
  | (a, n, need) :: rest, l =>
    match xlSeg s ctx tenant conv need (n / 65536 + 2) a n l with
    | .ok l => xlSegs s ctx tenant conv rest l
    | x => x

/-- The ranges of a descriptor in the order in which they are first touched. -/
def Desc.allSegs (d : Desc) (rows : List Nat) : List (Nat × Nat × Nat) :=
  d.flatSegs ++ if d.tiled then (range' d.first d.toRun).flatMap (d.segs rows) else []

/-- Whether any page of a range translates to another node; `fuel` bounds its pages. -/
def segStray (s : State) (ctx tenant : Nat) (conv : Bool) : Nat → Nat → Nat → Bool
  | 0, _, _ => false
  | fuel + 1, a, n =>
    if n = 0 then false
    else
      let (away, page) := match translate s ctx tenant conv a 0 with
        | .ok r => (decide (rpaNode r.rpa ≠ s.node), if r.small then 65536 else 2097152)
        | _ => (false, 65536)
      away || segStray s ctx tenant conv fuel (a + (page - a % page)) (n - (page - a % page))

/-- Whether a descriptor's operands leave this node (DETAIL 0x06): its ranges themselves where they are rack pool addresses,
else what their pages translate to (R149). -/
def Desc.stray (s : State) (tenant ctx : Nat) (d : Desc) : Bool :=
  if ctx = 0 || ((NMap.find s.xlt.ctxs ctx).any XCtx.pool && !d.conv) then d.bounds.any (offNode s)
  else (d.listSeg ++ d.allSegs []).any fun x => segStray s ctx tenant d.conv (x.2.1 / 65536 + 2) x.1 x.2.1

/-- The first check that a descriptor fails, in the order of R149; the rows that a list names are checked when it is read
(R160). -/
def descRefusal (s : State) (tenant ctx : Nat) (d : Desc) : Option Nat :=
  let pool := (NMap.find s.xlt.ctxs ctx).any XCtx.pool
  if ¬ d.known then some 0x01
  else if d.unusedSet then some 0x02
  else if d.badFormat then some 0x07
  else match firstDetail [(d.badCount, 0x03), (d.bigTile, 0x04), (overlapping d.bounds, 0x05)] with
  | some de => some de
  | none => firstDetail [(d.stray s tenant ctx, 0x06), (d.badAlign, 0x08), (d.conv && !pool, 0x09), (badLaunch s d, 0x0a),
      (d.op = opPublish && !(NMap.find s.dir.regions (d.imm / 2 ^ 32)).any fun r => r.tenant = tenant, 0x0b)]

/-- The rack pool address of an address of a descriptor. -/
def xlAt (xl : List XRec) (a : Nat) : Option Nat := (xl.find? fun r => r.covers a).map fun r => r.at a

/-- A range as pieces of node-local offsets, cut at 64 KiB. -/
def pieces (xl : List XRec) : Nat → Nat → Nat → List (Nat × Nat)
  | 0, _, _ => []
  | fuel + 1, a, n =>
    if n = 0 then []
    else
      let k := min n (65536 - a % 65536)
      (rpaOff ((xlAt xl a).getD 0), k) :: pieces xl fuel (a + k) (n - k)

def piecesOf (xl : List XRec) (a n : Nat) : List (Nat × Nat) := pieces xl (n / 65536 + 2) a n

/-- Bytes of a range with their poison. -/
def rdRange (s : State) (xl : List XRec) (a n : Nat) : List (Byte × Bool) :=
  (piecesOf xl a n).flatMap fun p => rdFlag s p.1 p.2

/-- Bytes written to a range. -/
def State.wrPieces (s : State) (w : HeldFor) : List (Nat × Nat) → List (Byte × Bool) → State
  | [], _ => s
  | (off, n) :: ps, l => (s.storeFlag off (l.take n) w).wrPieces w ps (l.drop n)

def State.wrRange (s : State) (xl : List XRec) (a : Nat) (l : List (Byte × Bool)) (w : HeldFor) : State :=
  s.wrPieces w (piecesOf xl a l.length) l

/-! What tiles compute. -/

/-- The number that some bytes spell, whether any carries poison. -/
def numOf (l : List (Byte × Bool)) : Nat × Bool := (leNat (l.map Prod.fst), l.any Prod.snd)

/-- A byte list cut into elements of whole bytes. -/
def chunkBytes (n : Nat) : Nat → List (Byte × Bool) → List (List (Byte × Bool))
  | 0, _ => []
  | k + 1, l => l.take n :: chunkBytes n k (l.drop n)

/-- One row of a REDUCE (R159, R211). -/
def reduceRow (fmt op n : Nat) (a b : List (Byte × Bool)) : List (Byte × Bool) :=
  let w := fmtBits fmt / 8
  ((chunkBytes w n a).zip (chunkBytes w n b)).flatMap fun (x : List (Byte × Bool) × List (Byte × Bool)) =>
    let (u, pu) := numOf x.1
    let (v, pv) := numOf x.2
    (natLe w (encodeF .rne fmt (combine32 op (decodeF fmt u) (decodeF fmt v)))).map fun b => (b, pu || pv)

/-- FILTER's test (R161): a NaN satisfies only NE, and −0 equals +0. -/
def filterTest (op : Nat) (x y : FV) : Bool :=
  if op = 0 then x.eqv y
  else if op = 1 then !x.eqv y
  else if x.isNan ∨ y.isNan then false
  else if op = 2 then x.lt y
  else if op = 3 then x.lt y || x.eqv y
  else if op = 4 then y.lt x
  else y.lt x || x.eqv y

/-- Bits packed into bytes, bit 0 first. -/
def packBits : Nat → List Bool → List Byte
  | 0, _ => []
  | n + 1, l => BitVec.ofNat 8 (((l.take 8).zip (List.range 8)).foldl (fun a x => a + b2n x.1 * 2 ^ x.2) 0) :: packBits n (l.drop 8)

/-- The elements of a row with their poison: element i of w bits covers bytes w·i/8 to (w·i + w − 1)/8. -/
def rowElems (w n : Nat) (l : List (Byte × Bool)) : List (Nat × Bool) :=
  let x := leNat (l.map Prod.fst)
  (List.range n).map fun i => (elemAt w x i, (slice l (w * i / 8) ((w * i + w - 1) / 8 - w * i / 8 + 1)).any Prod.snd)

/-- A row of encodings packed into bytes, each byte poisoned by any of its elements. -/
def packRow (w : Nat) (es : List (Nat × Bool)) : List (Byte × Bool) :=
  let n := divUp (w * es.length) 8
  let bs := natLe n (packElems w (es.map Prod.fst))
  (bs.zip (List.range n)).map fun (x : Byte × Nat) =>
    (x.1, (slice es (8 * x.2 / w) ((8 * x.2 + 7) / w - 8 * x.2 / w + 1)).any Prod.snd)

/-- One row of a CONVERT (R162, R201 to R205): encodings with poison, the destination scales, the generator. An element of
a scaled row is computed from its whole block, which sets the scale (R155, R201). -/
def convertRow (d : Desc) (src : List (Byte × Bool)) (scales : List (Byte × Bool)) (g : Nat) :
    List (Nat × Bool) × List (Byte × Bool) × Nat :=
  let es := rowElems d.srcBits (d.c 0) src
  let val := fun (i : Nat) (x : Nat × Bool) =>
    if bit d.opx 1 then
      let sc := scales.getD (i / 32) (0#8, false)
      (decodeScaled d.srcFmt x.1 sc.1.toNat, x.2 || sc.2)
    else (decodeAny d.srcFmt x.1, x.2)
  let vs := (es.zip (List.range es.length)).map fun x => val x.2 x.1
  let scaleOf := fun (b : Nat) => blockScale d.dstFmt ((slice vs (32 * b) 32).map fun v => v.1.r32)
  if bit d.opx 2 then
    let blocks := List.range (d.c 0 / 32)
    let badBlock := fun (b : Nat) => (slice vs (32 * b) 32).any Prod.snd
    let (out, g) := blocks.foldl (fun (acc : List Nat × Nat) b =>
      let (o, g') := convertAll (bit d.opx 0) (fun r v => toScaled r d.dstFmt (scaleOf b) v) acc.2 ((slice vs (32 * b) 32).map Prod.fst)
      (acc.1 ++ o, g')) (([] : List Nat), g)
    (out.zip ((List.range out.length).map fun i => badBlock (i / 32)), blocks.map (fun b => (BitVec.ofNat 8 (scaleOf b), badBlock b)), g)
  else
    let (out, g) := convertAll (bit d.opx 0) (fun r v => encodeAny r d.dstFmt v) g (vs.map Prod.fst)
    (out.zip (vs.map Prod.snd), [], g)

end Sys2Proof.Machine
end

