-- ==== Sys2Proof/Machine/Qos.lean ====
section
/-! DEFINITION. Virtual-time fair queuing, shapers and policers (R297, R301 to R305): the operations the channel
front end and the switch outputs share, and their refills. -/

namespace Sys2Proof.Machine

open Reg

/-- Register banks of the channel tables, the tenant policers and the port shapers. -/
def chBank (c : Nat) : Nat := 0x200a00000 + 0x40 * c
def tpBank (t : Nat) : Nat := 0x200b00000 + 0x40 * t
def portBank (p : Nat) : Nat := 0x200c00000 + 0x40 * p

/-! Fair queuing (R297). -/

/-- a − b ≥ 0 as a signed 64-bit difference. -/
def tagGe (a b : Nat) : Bool := (a + 2 ^ 64 - b % 2 ^ 64) % 2 ^ 64 < 2 ^ 63

def QTag.zero : QTag := ⟨0, 0, false, 0⟩
def tagOf (s : State) (q : Nat) : QTag := NMap.getD s.qos.tags q QTag.zero
def vtOf (s : State) (v : Nat) : Nat := NMap.getD s.qos.vt v 0

def State.setTag (s : State) (q : Nat) (t : QTag) : State := { s with qos := { s.qos with tags := NMap.insert s.qos.tags q t } }
def State.setVt (s : State) (v n : Nat) : State := { s with qos := { s.qos with vt := NMap.insert s.qos.vt v n } }

/-- A queue seen backlogged, or not, at server `v`: one that becomes backlogged never starts in the past. -/
def State.backlog (s : State) (v q : Nat) (b : Bool) : State :=
  let t := tagOf s q
  if b then
    if t.backlogged then s
    else s.setTag q { t with start := if tagGe (vtOf s v) t.finish then vtOf s v else t.finish, backlogged := true, level := v }
  else if t.backlogged then s.setTag q { t with backlogged := false }
  else s

/-- The backlogged queue with the smallest start tag; ties go to the first listed. -/
def smallest (s : State) : List Nat → Option Nat
  | [] => none
  | q :: l =>
    match smallest s l with
    | none => some q
    | some r => if tagGe (tagOf s r).start (tagOf s q).start then some q else some r

/-- A selection of queue `q` at server `v`, of a cost already scaled. -/
def State.serve (s : State) (v q cost weight : Nat) : State :=
  let t := tagOf s q
  let f := (t.start + cost / max 1 weight) % 2 ^ 64
  (s.setVt v t.start).setTag q { t with start := f, finish := f }

/-! Shapers (R300 to R302). -/

/-- The shaper of channel c is c, that of port p is 4,096 + p. -/
def shBank (k : Nat) : Nat := if k < 4096 then chBank k else portBank (k - 4096)

/-- Whether a shaper shapes now. -/
def shaped (s : State) (k : Nat) : Bool := s.flag QOS_CFG_SHAPE_EN && (NMap.getD s.qos.shape k (0, 0)).1 ≠ 0

/-- Tokens as a signed count. -/
def tokens (s : State) (k : Nat) : Int := toInt 32 (s.get (QOS_SHSTATE_TOKENS (shBank k)))

def State.putTokens (s : State) (k : Nat) (t : Int) : State := s.put (QOS_SHSTATE_TOKENS (shBank k)) (t % (2 ^ 32 : Int)).toNat

def eligible (s : State) (k : Nat) : Bool := !shaped s k || 0 < tokens s k

/-- A selection's cost spent. -/
def State.spendTokens (s : State) (k cost : Nat) : State := if shaped s k then s.putTokens k (tokens s k - cost) else s

/-- One refill of a shaper, with the parameters its registers hold now. -/
def State.refillShaper (s : State) (k : Nat) : State :=
  let rate := s.get (QOS_SHAPE_RATE (shBank k))
  let burst := s.get (QOS_SHAPE_BURST (shBank k))
  let s := { s with qos := { s.qos with shape := NMap.insert s.qos.shape k (rate, burst) } }
  if tokens s k < burst then s.putTokens k (min (burst : Int) (tokens s k + rate)) else s

/-- Entries of a register bank that hold anything but its reset values. -/
def banksUsed (s : State) (base n : Nat) : List Nat :=
  ((NMap.keys s.regs).filterMap fun k =>
    let off := k / 64
    if base ≤ off && off < base + 0x40 * n then some ((off - base) / 0x40) else none).eraseDups

/-- SHAPER_REFILL (R301): every shaper, at each whole microsecond of rack time. -/
def execShaperRefill (s : State) : Host.Outcome State Fault Refusal :=
  if s.now / 1000 ≤ s.qos.shapedAt / 1000 then .next s
  else
    let ks := (banksUsed s (chBank 0) 4096 ++ (banksUsed s (portBank 0) 72).map (4096 + ·) ++ NMap.keys s.qos.shape).eraseDups
    let s := ks.foldl State.refillShaper s
    .next { s with qos := { s.qos with shapedAt := s.now } }

/-! Policers (R303 to R306). The policer of channel c is c, tenant policer t is 4,096 + t. -/

def polBank (k : Nat) : Nat := if k < 4096 then chBank k else tpBank (k - 4096)

def Policer.off : Policer := ⟨0, false, 0, 0, 0, 0⟩
def policerOf (s : State) (k : Nat) : Policer := NMap.getD s.qos.police k Policer.off

/-- A policer's buckets. -/
def buckets (s : State) (k : Nat) : Nat × Nat := (s.get (POLSTATE_TC (polBank k)), s.get (POLSTATE_TE_TP (polBank k)))

def State.putBuckets (s : State) (k tc te : Nat) : State :=
  (s.put (POLSTATE_TC (polBank k)) tc).put (POLSTATE_TE_TP (polBank k)) te

/-- The mark of a unit of `b` bytes with pre-colour `pre` (RFC 2697, RFC 2698), and the buckets after it. -/
def mark (p : Policer) (tc te b pre : Nat) : Nat × Nat × Nat :=
  let pre := if p.aware then min pre 2 else 0
  if p.algo = 1 then
    if pre = 0 ∧ b ≤ tc then (0, tc - b, te)
    else if pre ≤ 1 ∧ b ≤ te then (1, tc, te - b)
    else (2, tc, te)
  else
    if pre = 2 ∨ te < b then (2, tc, te)
    else if pre = 1 ∨ tc < b then (1, tc, te - b)
    else (0, tc - b, te - b)

/-- A unit counted by its colour. -/
def State.countColour (s : State) (k c : Nat) : State :=
  if c = 0 then s.count (POLCNT0_GREEN (polBank k)) 1
  else if c = 1 then s.count (POLCNT0_YELLOW (polBank k)) 1
  else s.count (POLCNT1_RED (polBank k)) 1

/-- One refill of a policer's buckets with the parameters its registers hold now; turned on, they fill whole. -/
def State.refillPolicer (s : State) (k : Nat) : State :=
  let u := polBank k
  let old := policerOf s k
  let p : Policer := ⟨s.get (POLA_ALGO u), s.flag (POLA_AWARE u), s.get (POLA_CIR u), s.get (POLA_CBS u),
    s.get (POLB_PIR u), s.get (POLB_EBS_PBS u)⟩
  let s := { s with qos := { s.qos with police := NMap.insert s.qos.police k p } }
  let (tc, te) := buckets s k
  if p.algo = 0 then s
  else if old.algo = 0 then s.putBuckets k p.cbs p.ebs
  else if p.algo = 1 then
    let a := min p.cir (p.cbs - tc)
    s.putBuckets k (tc + a) (max te (min p.ebs (te + (p.cir - a))))
  else s.putBuckets k (max tc (min p.cbs (tc + p.cir))) (max te (min p.ebs (te + p.pir)))

/-- POLICER_REFILL (R303, R305): every policer; a channel that was deferred is metered afresh. -/
def execPolicerRefill (s : State) : Host.Outcome State Fault Refusal :=
  if s.now / 1000 ≤ s.qos.policedAt / 1000 then .next s
  else
    let ks := (banksUsed s (chBank 0) 4096 ++ (banksUsed s (tpBank 0) 64).map (4096 + ·) ++ NMap.keys s.qos.police).eraseDups
    let s := ks.foldl State.refillPolicer s
    .next { s with qos := { s.qos with policedAt := s.now, deferred := [] } }

/-- A channel's unit metered (R305): its colour, or none where it is deferred. -/
def State.meterChannel (s : State) (c cost : Nat) : Option Nat × State :=
  let p := policerOf s c
  if p.algo = 0 then (some 0, s)
  else
    let (tc, te) := buckets s c
    let (col, tc', te') := mark { p with aware := false } tc te cost 0
    if col = 2 ∧ s.get (POLA_RED_ACT (chBank c)) = 1 then
      (none, (((s.countColour c 2).count (POLCNT1_DROPPED (chBank c)) 1).raise QOS_EVENT_CH_DEFER))
    else (some col, (s.putBuckets c tc' te').countColour c col)

end Sys2Proof.Machine
end

