-- ==== Sys2Proof/Machine/EngCore.lean ====
section
/-! DEFINITION. Engines as units: their state beside the register bank, faults and stops (R191, R192, R232 to
R234), what a launch holds, and the trace and counters they feed (chapters 08, 10). -/

namespace Sys2Proof.Machine

open Reg

/-- Fault causes of Table 8.6. -/
abbrev ecIllegal : Nat := 1
abbrev ecPcRange : Nat := 2
abbrev ecNeveRange : Nat := 3
abbrev ecAlign : Nat := 4
abbrev ecMemory : Nat := 5
abbrev ecPoison : Nat := 6
abbrev ecWatchdog : Nat := 7
abbrev ecSync : Nat := 8
abbrev ecUnit : Nat := 9
abbrev ecAborted : Nat := 10
abbrev ecStopped : Nat := 11

/-- The STATUS of a cause (Table 8.6); MEMORY takes its tag's. -/
def causeStatus (c : Nat) : Nat :=
  if c = 0 then 0
  else if c = ecPoison then stPoisoned
  else if c = ecWatchdog ∨ c = ecAborted ∨ c = ecStopped then stAborted
  else if c = ecUnit then stDevErr
  else stPermission

/-- An engine that has run nothing. -/
def Eng.idle : Eng :=
  { pc := 0, from_ := 0, s := [], p := [], v := [], t := [], neve := [], poison := [], imem := [], prog := 0,
    rnd := 0, tags := [], wait := none, nst := [] }

def engOf (s : State) (e : Nat) : Eng := NMap.getD s.eng.engs e Eng.idle

def State.setEng (s : State) (e : Nat) (x : Eng) : State := { s with eng := { s.eng with engs := NMap.insert s.eng.engs e x } }

/-- ENG_STATUS.STATE codes (Table 8.9). -/
def engSt (s : State) (e : Nat) : Nat := if e < 256 then s.get (ENG_STATUS_STATE e) else 0
def State.putSt (s : State) (e n : Nat) : State := s.put (ENG_STATUS_STATE e) n

def running (s : State) (e : Nat) : Bool := engSt s e == 2
def engBusy (s : State) (e : Nat) : Bool := engSt s e == 2 || engSt s e == 3

/-- Tags outstanding. -/
def tagsOut (x : Eng) : Nat := (x.tags.filter fun (t : Nat × ATag) => match t.2 with | .out _ => true | _ => false).length

def tagOut (x : Eng) (t : Nat) : Bool := match NMap.find x.tags t with
  | some (.out _) => true
  | _ => false

/-- ENG_STATUS.TAGS_OUT and PC follow the engine. -/
def State.showEng (s : State) (e : Nat) : State :=
  let x := engOf s e
  (s.put (ENG_STATUS_TAGS_OUT e) (tagsOut x)).put (ENG_STATUS_PC e) x.pc

/-- The tenant of an engine's current or last LAUNCH. -/
def engTenant (s : State) (e : Nat) : Nat := s.get (ENG_STATUS_TENANT e)

/-- A trace record of an engine (R370). -/
def State.engTrace (s : State) (e ty a0 a1 : Nat) : State :=
  s.trace { time := s.now, type := ty, unitType := utEngine, unitIndex := e, tenant := some (engTenant s e), arg0 := a0, arg1 := a1 }

/-- An operation counted for an engine, its tenant and the node. -/
def State.engCount (s : State) (e i d : Nat) : State := s.opCount (some e) (some (engTenant s e)) i d

/-- Cycles pass: how many, the model does not say (log entry 2); the counters follow (R377 index 21). -/
def State.cycles (s : State) (e : Nat) : State :=
  let (k, s) := s.take
  let n := (Config.freeValue k).toNat % 2 ^ 32
  (s.bump (ENG_CYCLES_CYCLES e) n).engCount e 21 n

/-! Neve-store bytes. -/

def bytesPoisoned (x : Eng) (a n : Nat) : Bool := (chunksOf a n).any fun c => x.poison.contains c

/-- Bytes written to an engine's store: a chunk written whole takes the writer's poison, a chunk written in part
keeps its own (R175). -/
def Eng.wr (x : Eng) (a : Nat) (l : List Byte) (poison : Bool) : Eng :=
  let m := l.map some
  { x with neve := wrMasked x.neve a m, poison := poisonAfter x.poison a m poison }

/-- A neighbour store performed at its owner. -/
def State.nbrWrite (s : State) (n : NStore) : State := s.setEng n.owner ((engOf s n.owner).wr n.addr n.data false)

/-- Every neighbour store of an engine completes (R187). -/
def State.flushNbr (s : State) (e : Nat) : State :=
  let l := (engOf s e).nst
  let s := s.setEng e { engOf s e with nst := [] }
  l.foldl State.nbrWrite s

/-! Faults (R191, R192). -/

/-- What a fault records. -/
structure EFault where
  cause : Nat
  status : Nat
  detail : Nat
  pc : Nat
  tag : Nat
  addr : Nat
  deriving DecidableEq, Repr

def faultOf (cause pc : Nat) (addr : Nat) : EFault := ⟨cause, causeStatus cause, 0, pc, 0, addr⟩

/-- A waiting engine's barrier arrival or semaphore place given up (R233). -/
def State.abandon (s : State) (e : Nat) : State :=
  let x := engOf s e
  let c := e / 16
  let s := match x.wait with
    | some (.bar b) =>
      let f := if b < 4 then CIRQ_BAR0_ARRIVED c else CIRQ_BAR1_ARRIVED c
      s.put f (setBits (s.get f) (16 * (b % 4) + e % 16) (16 * (b % 4) + e % 16) 0)
    | some (.sem m _) =>
      let k := 32 * c + m
      { s with eng := { s.eng with semQ := NMap.insert s.eng.semQ k ((NMap.getD s.eng.semQ k []).filter fun w => w.1 ≠ e) } }
    | _ => s
  s.setEng e { engOf s e with wait := none }

/-- Step 1 of Table 8.7 for one engine: it stops issue and drains; an engine that drains already notes MORE. -/
def State.engStop (s : State) (e : Nat) (f : EFault) : State :=
  let st := engSt s e
  if st = 1 ∨ st = 2 ∨ st = 3 then
    let s := s.abandon e
    let s := ((((s.put (ENG_FAULT_CAUSE e) f.cause).put (ENG_FAULT_STATUS e) f.status).put (ENG_FAULT_DETAIL e) f.detail).put
      (ENG_FAULT_PC e) f.pc).put (ENG_FAULT_TAG e) f.tag
    ((s.put (ENG_FAULT_ADDR_ADDR e) f.addr).putSt e 4).showEng e
  else if st = 4 then s.put (ENG_FAULT_MORE e) 1
  else s

/-- Engines stopped with cause ABORTED (R234). -/
def State.abortEngines (s : State) (es : List Nat) : State :=
  es.foldl (fun s e => s.engStop e (faultOf ecAborted (engOf s e).pc 0)) s

/-- A fault: step 1, and step 2 for a cause other than ABORTED. -/
def State.engFault (s : State) (e : Nat) (f : EFault) : State :=
  let others := ((launchOf s e).map fun l => l.engines.filter (· ≠ e)).getD []
  let first := engBusy s e || engSt s e == 1
  let s := s.engStop e f
  if first ∧ f.cause ≠ ecAborted then s.abortEngines others else s

/-- ENG_FAULT as one word. -/
def faultWord (s : State) (e : Nat) : Nat :=
  s.get (ENG_FAULT_MORE e) * 2 ^ 63 + s.get (ENG_FAULT_STATUS e) * 2 ^ 48 + s.get (ENG_FAULT_DETAIL e) * 2 ^ 40 +
  s.get (ENG_FAULT_CAUSE e) * 2 ^ 32 + s.get (ENG_FAULT_PC e) * 2 ^ 16 + s.get (ENG_FAULT_TAG e)

/-- How an engine ended noted in its LAUNCH (R190). -/
def State.noteEnd (s : State) (e : Nat) : State :=
  let x : EngEnd := ⟨s.get (ENG_FAULT_CAUSE e), s.get (ENG_FAULT_STATUS e), s.get (ENG_FAULT_DETAIL e)⟩
  let note := fun (l : Launch) => if l.loaded ∧ l.engines.contains e then { l with ends := NMap.insert l.ends e x } else l
  { s with eng := { s.eng with launches := s.eng.launches.map note } }

/-- The end of an engine's part in a LAUNCH: its trace record (ENG_END). -/
def State.engEnd (s : State) (e st : Nat) : State :=
  ((((s.flushNbr e).engTrace e 7 (s.get (ENG_EXIT_EXIT e)) (s.get (ENG_FAULT_CAUSE e) + 256 * s.get (ENG_CYCLES_CYCLES e))).noteEnd e).putSt
    e st).showOffline e

/-- The error record of step 4 (R192), and the recovery that it closes. -/
def State.engRecord (s : State) (e cls : Nat) : State :=
  let c := s.get (ENG_FAULT_CAUSE e)
  let a := s.get (ENG_FAULT_ADDR_ADDR e)
  let s := s.post
    { cls := cls, unitType := utEngine, unitIndex := e, cause := c, status := s.get (ENG_FAULT_STATUS e),
      tenant := if engSt s e = 0 then none else some (engTenant s e), agent := 0,
      addr := if c = ecMemory ∨ c = ecNeveRange ∨ c = ecAlign ∨ c = ecPoison then some a else none,
      info := faultWord s e }
  s.closeRec utEngine e

end Sys2Proof.Machine
end

