-- ==== Sys2Proof/Machine/Channel.lean ====
section
/-! DEFINITION. Channels: rings and doorbells, acceptance and start of descriptors, tiles, stops, completion
records, faults, reset, and the channel commands (chapter 07); the channel scheduler (R295, R298). -/

namespace Sys2Proof.Machine

open Reg

/-! Channel states (Table 7.7). -/
abbrev chDisabled : Nat := 0
abbrev chRunning : Nat := 1
abbrev chPaused : Nat := 2
abbrev chFaulted : Nat := 3
abbrev chResetting : Nat := 4

/-- A channel event (CHN_EVENT). -/
def State.chnEvent (s : State) (c : Nat) (f : Fld) : State := (s.raise f).put CHN_EVENT_LAST_CHANNEL c

/-- The rack tenant that holds a tenant slot. -/
def windowTenant (s : State) (w : Nat) : Option Nat :=
  (s.sec.tenants.find? fun (t : Nat × TenRec) => t.2.st ≠ .none && t.2.slot = w).map Prod.fst

/-- A channel fault (R166): recorded once, of a RUNNING or PAUSED channel. -/
def State.chanFault (s : State) (c st detail idx : Nat) : State :=
  match chanOf' s c with
  | none => s
  | some x =>
    if x.st = chRunning ∨ x.st = chPaused then
      let s := s.setChan c { x with st := chFaulted, fStatus := st, fDetail := detail, fIndex := idx }
      (s.chnEvent c CHN_EVENT_CH_FAULT).post
        { cls := 1, unitType := utChannel, unitIndex := c, cause := detail, status := st, tenant := some x.tenant,
          agent := 0, addr := none, info := idx }
    else s

/-! Doorbells (R142, R143, R141). -/

/-- A count of 16 bits ahead of another. -/
def ahead (a b : Nat) : Nat := (a + 65536 - b % 65536) % 65536

/-- Step 1's refusal of a write of window w: ignored, with the event and a corrected record (R451) that names
the agent that wrote (0 for a write of no agent) and the register's address. -/
def State.badBell (s : State) (w c agent addr : Nat) : State :=
  (s.chnEvent c CHN_EVENT_DOORBELL_BAD).post
    { cls := 0, unitType := utChannel, unitIndex := c, cause := 0x0007, status := stPermission,
      tenant := windowTenant s w, agent := agent, addr := some addr, info := 0 }

/-- The doorbell of channel c in window w (Table 7.14). -/
def bellAddr (w c : Nat) : Nat := 0x8008000 + 0x10000 * w + 8 * c

/-- Whether a window may act on a channel that is RUNNING or PAUSED. -/
def bellOk (s : State) (w c : Nat) : Bool :=
  (chanOf' s c).any fun x => windowTenant s w = some x.tenant && (x.st = chRunning || x.st = chPaused)

/-- Steps 2 to 4 of R143 for a channel whose entry is cached. -/
def State.applyBell (s : State) (b : Bell) : State :=
  if ¬ bellOk s b.win b.ch then s.badBell b.win b.ch b.agent (bellAddr b.win b.ch)
  else match chanOf' s b.ch with
  | none => s
  | some x =>
    let tail := bits b.val 15 0
    let head := bits b.val 47 32
    let tailOk := !bit b.val 31 || (ahead tail x.sqTail ≤ ahead tail x.sqHead && ahead tail x.sqHead ≤ 2 ^ x.sqLog)
    let headOk := !bit b.val 63 || ahead x.cqTail head ≤ ahead x.cqTail x.cqHead
    if ¬ tailOk then s.chanFault b.ch stPermission 0x4 0
    else if ¬ headOk then s.chanFault b.ch stPermission 0x5 0
    else
      let x := if bit b.val 31 then { x with sqTail := tail, rings := x.rings ++ [(tail, s.now)] } else x
      s.setChan b.ch (if bit b.val 63 then { x with cqHead := head } else x)

/-- The cached entry that a load may replace: the least recently used whose channel has nothing to do. -/
def replaceable (s : State) : Option Nat :=
  s.chn.cache.find? fun c => (chanOf' s c).all fun x => x.live = [] && x.sqHead = x.sqTail

/-- A cached entry used: it becomes the most recent. -/
def State.useCached (s : State) (c : Nat) : State := { s with chn := { s.chn with cache := s.chn.cache.filter (· ≠ c) ++ [c] } }

/-- DOORBELL (R143): ignored while CHN_CFG.ENABLE is 0; a channel that is not cached waits for its load. -/
def execDoorbell (w c a : Nat) (v : Word64) (s : State) : Host.Outcome State Fault Refusal :=
  let b : Bell := ⟨w, c, v.toNat, a⟩
  if ¬ s.flag CHN_CFG_ENABLE then .next s
  else if ¬ bellOk s w c then .next (s.badBell w c a (bellAddr w c))
  else if s.chn.cache.contains c then .next ((s.useCached c).applyBell b)
  else
    let s := { s with chn := { s.chn with bells := s.chn.bells ++ [b] } }
    if s.chn.cache.length < 512 ∨ (replaceable s).isSome then .next s
    else .next (s.chnEvent c CHN_EVENT_CACHE_WAIT)

/-- CDT_LOAD (R141): the entry of a channel whose doorbell waits is loaded, and its doorbells act; where no cached entry can
be replaced they wait on. -/
def execCdtLoad (c : Nat) (s : State) : Host.Outcome State Fault Refusal :=
  let mine := s.chn.bells.filter fun b => b.ch = c
  if mine = [] then .next s
  else
    let room : Option (List Nat) :=
      if s.chn.cache.contains c ∨ s.chn.cache.length < 512 then some s.chn.cache
      else (replaceable s).map fun r => s.chn.cache.filter (· ≠ r)
    match room with
    | none => .next (s.chnEvent c CHN_EVENT_CACHE_WAIT)
    | some l =>
      let s := { s with chn := { s.chn with cache := l.filter (· ≠ c) ++ [c], bells := s.chn.bells.filter fun b => b.ch ≠ c } }
      .next (mine.foldl State.applyBell s)

/-! Acceptance (R144, R145, R149, R150, R130, R160). -/

/-- A descriptor entry just made, before its ring slot is read. -/
def LiveDesc.blank (i : Nat) : LiveDesc :=
  { idx := i, read := false, d := descOf [], ready := false, started := false, xl := [], pinned := false, rows := [],
    stop := none, poison := false, next := 0, delivered := 0, tiles := [], result := 0, ended := none, accs := [],
    covers := [], ctrDue := 0, ctrAccs := [], engines := [], xlate := none, recording := false }

/-- Whether a LAUNCH of the channel that has started still waits for its engines, and so holds the channel's order
(R163). -/
def launchWaits (s : State) (c : Nat) (x : Chan) : Bool :=
  x.live.any fun l => l.d.op = opLaunch && l.started && l.ended.isNone && l.stop.isNone &&
    !(s.eng.launches.any fun n => n.ch = c && n.idx = l.idx && n.held)

/-- Conditions 1 to 5 of R145 for the next descriptor, but for the scheduler: a FENCE is live until its record is written
(R130). -/
def mayRead (s : State) (c : Nat) (x : Chan) : Bool :=
  !shut s && s.flag CHN_CFG_ENABLE && x.st = chRunning && s.chn.cache.contains c && x.sqHead ≠ x.sqTail &&
  (x.live.all fun l => l.started || l.ended.isSome) && !(x.live.any fun l => l.d.op = opFence) &&
  !launchWaits s c x && x.live.length < x.liveMax && ahead x.cqTail x.cqHead + x.live.length < 2 ^ x.cqLog

/-- An access of the channel front end ready to be read, and closed; `none` while some of them wait. -/
def State.closeFront (s : State) (ids : List Nat) : Option State :=
  if ids.all (accReady s) then some (ids.foldl State.closeAcc s) else none

/-- Ranges admitted for a descriptor: the first refusal, with its MODE_MISMATCH mark. -/
def admitSegs (s : State) (tenant : Nat) (k : ReqKind) (need : Nat) : List (Nat × Nat) → Option (Nat × Bool × Nat)
  | [] => none
  | (off, n) :: l =>
    match admitOff s tenant off n k need with
    | .refuse st mm => some (st, mm, off)
    | .ok _ _ => admitSegs s tenant k need l

/-- The distinct lines of some ranges, each with whether any of them writes it (bit 1 of what a range needs). -/
def lineSet (ps : List (Nat × Nat × Nat)) : NMap Bool :=
  ps.foldl (fun m p => (linesOf p.1 p.2.1).foldl (fun m l => NMap.insert m l (NMap.getD m l false || bit p.2.2 1)) m) []

/-- Runs of neighbouring lines of one page that are accessed alike: first line, count, whether written. -/
def runsOf : NMap Bool → List (Nat × Nat × Bool)
  | [] => []
  | (l, w) :: rest => match runsOf rest with
    | (l', n, w') :: rs => if l' = l + 1 ∧ l' % 16384 ≠ 0 ∧ w' = w then (l, n + 1, w) :: rs else (l, 1, w) :: (l', n, w') :: rs
    | [] => [(l, 1, w)]

def State.openRuns (s : State) (org : Origin) : List (Nat × Nat × Bool) → List Nat × State
  | [] => ([], s)
  | (l, n, w) :: rest =>
    let (id, s) := (s.touch 1 (128 * l) (128 * n)).openAcc org (genNow s) w (128 * l) (128 * n)
    let (ids, s) := s.openRuns org rest
    (id :: ids, s)

/-- Accesses opened for ranges that have been admitted: one for each line, however many of the ranges share it. -/
def State.openSegs (s : State) (org : Origin) (ps : List (Nat × Nat × Nat)) : List Nat × State := s.openRuns org (runsOf (lineSet ps))

/-- A staged descriptor's end before any data moves. -/
def LiveDesc.endWith (l : LiveDesc) (st de : Nat) : LiveDesc := { l with ended := some ⟨st, de⟩, accs := [] }

/-- The ring slot of the next descriptor read (R142, R144): a refusal or poison faults the channel. It asks for the read
right alone, as R142 does of the ring's extent (DESIGN CHOICE, log entry 173: bit 3 of RIGHTS is not asked). -/
def State.ringRead (s : State) (c : Nat) (x : Chan) : State :=
  let off := x.sqBase + 128 * (x.sqHead % 2 ^ x.sqLog)
  match admitOff s x.tenant off 128 .engRead rtRead with
  | .refuse st mm =>
    (s.admitFail utChannel c x.tenant 0 (s.node * 2 ^ 50 + off) st mm).chanFault c st 0x1 x.sqHead
  | .ok _ _ =>
    let (ids, s) := s.openSegs (.front c) [(off, 128, 1)]
    s.setChan c { x with live := x.live ++ [{ LiveDesc.blank x.sqHead with accs := ids }] }

/-- The descriptor taken from its ring slot once the access is ready. -/
def State.ringTake (s : State) (c : Nat) (l : LiveDesc) : State :=
  match s.closeFront l.accs, chanOf' s c with
  | some s, some x =>
    let off := x.sqBase + 128 * (l.idx % 2 ^ x.sqLog)
    let (bs, bad) := rdPool s off 128
    if bad then
      (s.poisonRead.setChan c { x with live := x.live.filter fun y => y.idx ≠ l.idx }).chanFault c stPoisoned 0x2 l.idx
    else
      let d := descOf bs
      let l := { l with
        read := true
        d := d
        accs := []
        engines := if d.op = opLaunch then launchSel s d.imm else [] }
      let fenced := (NMap.find s.sec.tenants x.tenant).any fun r => r.st = .fenced || r.st = .drained || r.st = .erased
      let l := if fenced then l.endWith stFenced 0
        else match descRefusal s x.tenant x.ctx d with
          | some de => l.endWith stPermission de
          | none => l
      s.setChan c { x with sqHead := (l.idx + 1) % 65536, live := x.live.map fun y => if y.idx = l.idx then l else y }
  | _, _ => s

/-- Whether every page of a list lies on this node. -/
def onNode (s : State) (xl : List XRec) : Bool := xl.all fun r => rpaNode r.rpa == s.node

/-- The addresses of the rows that a list names (R160). -/
def listRows (d : Desc) (bs : List Byte) : List Nat :=
  let base := if d.op = opGather then d.src else d.dst
  (List.range d.listRows).map fun i =>
    let x := fieldLe bs (i * d.entry) d.entry
    if bit d.opx 0 then (base + x * d.imm) % 2 ^ 64 else x

/-- Whether a descriptor still has to read its list. -/
def LiveDesc.needsList (l : LiveDesc) : Bool := (l.d.op = opGather || l.d.op = opScatter) && l.rows = []

/-- A descriptor refused before any data moves: it keeps no pin (R130). -/
def State.failDesc (s : State) (c : Nat) (x : Chan) (l : LiveDesc) (st de : Nat) : State :=
  (if l.pinned then s.pin x.ctx l.d.conv l.xl false else s).setLive c { l.endWith st de with pinned := false, xl := [] }

/-- The list of a GATHER or SCATTER: translated, pinned, admitted and read once, during translation. -/
def State.listRead (s : State) (c : Nat) (x : Chan) (l : LiveDesc) : State :=
  match xlSegs s x.ctx x.tenant l.d.conv l.d.listSeg [] with
  | .wait => s
  | .fault r => s.failDesc c x l stXlate r
  | .ok xl =>
    let ps := piecesOf xl l.d.aux (l.d.listRows * l.d.entry)
    if ¬ onNode s xl then s.failDesc c x l stPermission 0x06
    else if 1048576 < slabUsed s + xl.length then s.raise XLT_EVENT_SLAB_FULL
    else match admitSegs s x.tenant .engRead (rtRead + rtEngine) ps with
      | some (st, mm, off) => (s.admitFail utChannel c x.tenant 0 (s.node * 2 ^ 50 + off) st mm).failDesc c x l st 0
      | none =>
        let (ids, s) := (s.pin x.ctx l.d.conv xl true).openSegs (.front c) (ps.map fun p => (p.1, p.2, 1))
        s.setLive c { l with accs := ids, xl := xl, pinned := true }

/-- The list taken once its accesses are ready, where its pages were when it was translated (R134). -/
def State.listTake (s : State) (c : Nat) (x : Chan) (l : LiveDesc) : State :=
  match s.closeFront l.accs with
  | none => s
  | some s =>
    let bs := rdRange s l.xl l.d.aux (l.d.listRows * l.d.entry)
    if bs.any Prod.snd then s.poisonRead.failDesc c x { l with poison := true } stPoisoned 0
    else
      let rows := listRows l.d (bs.map Prod.fst)
      let plain := x.ctx = 0 || ((NMap.find s.xlt.ctxs x.ctx).any XCtx.pool && !l.d.conv)
      if plain ∧ rows.any (fun a => offNode s ⟨a, a + l.d.c 0, false⟩) then s.failDesc c x l stPermission 0x06
      else s.setLive c { l with rows := rows, accs := [] }

/-- Whether a FLUSH's range meets an extent of another tenant (R74). -/
def flushForeign (s : State) (tenant : Nat) (ps : List (Nat × Nat)) : Bool :=
  s.ext.table.any fun (e : Nat × Extent) => e.2.tenant ≠ tenant &&
    ps.any fun p => e.2.base < p.1 + p.2 && p.1 < e.2.base + 2097152 * e.2.length

/-- The pages of a descriptor translated and pinned, where the slab has room (R130), after those of its list; the list's
handle is a free value (DESIGN CHOICE, log entry 184). A FLUSH whose range meets no extent completes, in the carve-out too (R74 says so, R26
refuses every request there: DESIGN CHOICE, log entry 172). -/
def State.translateDesc (s : State) (c : Nat) (x : Chan) (l : LiveDesc) : State :=
  match xlSegs s x.ctx x.tenant l.d.conv (l.d.allSegs l.rows) l.xl with
  | .wait => s
  | .fault r => s.failDesc c x l stXlate r
  | .ok xl =>
    if ¬ onNode s xl then s.failDesc c x l stPermission 0x06
    else if l.d.op = opFlush ∧ flushForeign s x.tenant (piecesOf xl l.d.dst l.d.imm) then s.failDesc c x l stPermission 0x0b
    else if 1048576 < slabUsed s + xl.length - l.xl.length then s.raise XLT_EVENT_SLAB_FULL
    else
      let (k, s) := s.take
      let r := if l.d.op = opCompare then 2 ^ 64 - 1 else 0
      ((s.pin x.ctx l.d.conv l.xl false).pin x.ctx l.d.conv xl true).setLive c { l with
        xl := xl
        pinned := true
        ready := true
        next := l.d.first
        result := r
        xlate := some ((Config.freeValue k).toNat, xl.length) }

/-- The descriptor that acceptance works on. -/
def stagedOf (x : Chan) : Option LiveDesc := x.live.find? fun l => !l.ready && l.ended.isNone && l.stop.isNone

/-- One stage of acceptance for a staged descriptor. -/
def State.acceptStage (s : State) (c : Nat) : State :=
  match chanOf' s c with
  | none => s
  | some x => match stagedOf x with
    | none => s
    | some l =>
      if ¬ l.read then s.ringTake c l
      else if l.needsList ∧ l.accs = [] then s.listRead c x l
      else if l.needsList then s.listTake c x l
      else s.translateDesc c x l

/-- DESCRIPTOR_ACCEPT (R144, R149, R150): the next descriptor is read once it can start, checked, and translated;
what must wait is tried again by the next such command. -/
def execDescriptorAccept (c : Nat) (s : State) : Host.Outcome State Fault Refusal :=
  match chanOf' s c with
  | none => .next s
  | some x =>
    let s := if stagedOf x = none ∧ mayRead s c x then s.ringRead c x else s
    .next ((((s.acceptStage c).acceptStage c).acceptStage c).acceptStage c)

/-! The scheduler (R295, R298). -/

/-- Whether a descriptor has a tile that may start. -/
def LiveDesc.hasTile (l : LiveDesc) : Bool :=
  l.started && l.d.tiled && l.stop.isNone && l.ended.isNone && l.next < l.d.tileCount && l.tiles.length < 4 &&
  (l.d.op ≠ opPush || ((l.d.at l.next).2.2 = (l.d.at (l.d.first + l.delivered)).2.2 && l.ctrDue = 0))

/-- A descriptor that may start (a FENCE only after every earlier one has completed, R164). -/
def mayStart (x : Chan) : Option LiveDesc :=
  x.live.find? fun l => l.ready && !l.started && l.ended.isNone && l.stop.isNone && (l.d.op ≠ opFence || x.live.length = 1)

/-- The channel's unit (R295): a descriptor of which a tile starts, or one that starts itself, which it does only while
CHN_CFG.ENABLE is 1. -/
def unitOfChan (s : State) (x : Chan) : Option (LiveDesc × Bool) :=
  match x.live.find? LiveDesc.hasTile with
  | some l => some (l, true)
  | none => if x.st = chRunning ∧ s.flag CHN_CFG_ENABLE then (mayStart x).map fun l => (l, false) else none

/-- A unit's cost (R295). -/
def unitCost (d : Desc) : Nat :=
  if d.op = opCompare ∨ d.op = opPush then d.srcRow * d.c 1
  else if d.tiled then d.dstRow * d.c 1
  else if d.op = opLaunch then d.c 0 + d.c 1
  else 128

/-- Whether a channel is backlogged at its level (R298). -/
def chanBacklogged (s : State) (c : Nat) (x : Chan) : Bool :=
  !shut s && (unitOfChan s x).isSome && eligible s c && !s.qos.deferred.contains c && s.chn.cache.contains c

/-- The channels of a level, in number order, that are backlogged. -/
def levelQueue (s : State) (v : Nat) : List Nat :=
  (s.chn.chans.filter fun (p : Nat × Chan) => (tagOf s p.1).backlogged && (tagOf s p.1).level = v).map Prod.fst

/-- Whether the unit selected last has still to start: its descriptor has not ended or stopped since. -/
def selStands (s : State) : Bool :=
  s.chn.sel.any fun q => match q.tileOf with
    | some i => (liveOf s q.ch i).any LiveDesc.hasTile
    | none => (chanOf' s q.ch).any fun x => x.st = chRunning && s.flag CHN_CFG_ENABLE && (mayStart x).isSome

/-- CHANNEL_SCHED_SELECT (R298): one unit of the highest level that has a backlogged channel, by R297; it is
metered first, and a red unit of a policer that defers is not taken (R305). -/
def execChannelSchedSelect (s : State) : Host.Outcome State Fault Refusal :=
  if selStands s then .next s
  else
    let s := s.chn.chans.foldl (fun (s : State) (p : Nat × Chan) => s.backlog p.2.prio p.1 (chanBacklogged s p.1 p.2)) s
    match [3, 2, 1, 0].findSome? fun v => smallest s (levelQueue s v) with
    | none => .next s
    | some c => match chanOf' s c with
      | none => .next s
      | some x => match unitOfChan s x with
        | none => .next s
        | some (l, isTile) =>
          let cost := unitCost l.d
          match s.meterChannel c cost with
          | (none, s) => .next { s with qos := { s.qos with deferred := insSorted c s.qos.deferred } }
          | (some col, s) =>
            let s := ((s.serve (tagOf s c).level c (cost * 16) x.weight).spendTokens c cost).opCount none (some x.tenant) 23 cost
            .next { s with chn := { s.chn with sel := some ⟨c, if isTile then some l.idx else none, col⟩ } }

/-! Tiles (R152, R153). -/

/-- The pieces of a tile's ranges, with what each needs. -/
def tilePieces (l : LiveDesc) (o : Nat) : List (Nat × Nat × Nat) :=
  (l.d.segs l.rows o).flatMap fun x => (piecesOf l.xl x.1 x.2.1).map fun p => (p.1, p.2, x.2.2)

/-- Every extent a tile touches admits it, or the first refusal. -/
def admitTile (s : State) (tenant : Nat) : List (Nat × Nat × Nat) → Option (Nat × Bool × Nat)
  | [] => none
  | (off, n, need) :: l =>
    let k := if bit need 1 then ReqKind.engWrite else ReqKind.engRead
    let rights := b2n (bit need 0) * rtRead + b2n (bit need 1) * rtWrite + rtEngine
    match admitOff s tenant off n k rights with
    | .refuse st mm => some (st, mm, off)
    | .ok _ _ => admitTile s tenant l

/-- The mover of a tile (R152): the home tile of its first destination line; of its first source line for COMPARE and
PUSH_STREAM. -/
def moverOf (s : State) (l : LiveDesc) (o : Nat) : Nat :=
  let a := if l.d.op = opCompare ∨ l.d.op = opPush then l.d.rowAt l.d.src l.d.ss o 0
    else if l.d.op = opScatter then l.rows.getD (o * l.d.c 1) 0
    else l.d.rowAt l.d.dst l.d.ds o 0
  homeTile s (rpaOff ((xlAt l.xl a).getD 0))

/-- The lines that a tile opens as it starts: those it reads and writes; of a FILTER its sources alone, since what it writes
is known only from them; a progress counter is opened when it is written. -/
def tileLines (l : LiveDesc) (o : Nat) : NMap Bool :=
  let ps := tilePieces l o
  lineSet (if l.d.op = opFilter ∨ l.d.op = opPush then ps.filter fun p => !bit p.2.2 1 else ps)

/-- The next tile of a descriptor started: admitted against every extent it touches, or the descriptor stops. -/
def State.startTile (s : State) (c : Nat) (x : Chan) (l : LiveDesc) (colour : Nat) : State :=
  let o := l.next
  let ps := tilePieces l o
  let fenced := (NMap.find s.sec.tenants x.tenant).any fun r => r.st = .fenced || r.st = .drained || r.st = .erased
  if fenced then s.setLive c (l.stopWith ⟨stFenced, 0⟩)
  else match admitTile s x.tenant ps with
  | some (st, mm, off) =>
    (s.admitFail utMover (moverOf s l o) x.tenant 0 (s.node * 2 ^ 50 + off) st mm).setLive c (l.stopWith ⟨st, 0⟩)
  | none =>
    let g := genNow s
    let (ids, s) := s.openRuns (.tile c l.idx o) (runsOf (tileLines l o))
    let t : Tile := { ord := o, accs := ids, gen := g, colour := colour, performed := false, delivered := false,
                      due := 0, began := s.now, res := 0, taken := false, out := [] }
    (s.enter g).setLive c { l with next := o + 1, tiles := l.tiles ++ [t] }

/-- Posted writes that a FLUSH covers: accepted from agents of the tenant to its range, or waiting for the standby
(R74). -/
def flushCovers (s : State) (tenant : Nat) (ps : List (Nat × Nat)) : List Nat :=
  let hit := fun (a n : Nat) => ps.any fun p => a < p.1 + p.2 && p.1 < a + n
  (s.dir.accs.filterMap fun (x : Nat × HomeAcc) => match x.2.org with
    | .fabric q => if q.opcode = 0x70 && q.tenant = tenant && hit x.2.off x.2.len then some x.1 else none
    | _ => none) ++
  s.mir.held.filterMap fun (h : Nat × Held) => match h.2.forWhom with
    | .acc id _ _ => if hit h.2.off h.2.len then some id else none
    | _ => none

/-- DESCRIPTOR_START (R145): the selected descriptor starts; its first tile starts with it (R295). -/
def execDescriptorStart (c slot : Nat) (s : State) : Host.Outcome State Fault Refusal :=
  match s.chn.sel, chanOf' s c, liveOf s c slot with
  | some q, some x, some l =>
    if q.ch = c ∧ q.tileOf = none then
      let s := { s with chn := { s.chn with sel := none } }
      if s.flag CHN_CFG_ENABLE ∧ x.st = chRunning ∧ l.ready ∧ ¬ l.started ∧ l.stop.isNone ∧ l.ended.isNone then
        let l := { l with
          started := true
          covers := if l.d.op = opFlush then flushCovers s x.tenant (piecesOf l.xl l.d.dst l.d.imm) else [] }
        let x := { x with rings := x.rings.filter fun r => ahead r.1 (l.idx + 1) ≠ 0 && ahead r.1 (l.idx + 1) < 32769 }
        let s := (s.setChan c x).setLive c l
        let s := s.trace { time := s.now, type := 4, unitType := utChannel, unitIndex := c, tenant := some x.tenant,
                           arg0 := l.d.userTag, arg1 := l.d.op + 65536 * l.idx }
        .next (if l.d.tiled then s.startTile c x l q.colour else s)
      else .next s
    else .next s
  | _, _, _ => .next s

/-- TILE_START (R152): the selected tile, once its admission passes; a FENCED node of a pair starts none on a MIRRORED
extent (R340). -/
def execTileStart (c slot : Nat) (s : State) : Host.Outcome State Fault Refusal :=
  match s.chn.sel, chanOf' s c, liveOf s c slot with
  | some q, some x, some l =>
    if q.ch = c ∧ q.tileOf = some slot then
      let s := { s with chn := { s.chn with sel := none } }
      let halted := s.get MIR_STATUS_STATE == 5 && (tilePieces l l.next).any fun p => (extAt s p.1).any fun x => x.2.mirrored
      .next (if l.hasTile && !halted then s.startTile c x l q.colour else s)
    else .next s
  | _, _, _ => .next s

/-- The oldest tile whose work is still to be done, where its lines are free. -/
def nextWork (s : State) (l : LiveDesc) : Option Tile :=
  match l.tiles.find? fun t => !t.performed with
  | some t => if t.accs.all (accReady s) then some t else none
  | none => none

/-- A tile's work done: what it adds to RESULT, poison met, PUSH_WRs sent; its accesses end. -/
def State.tileDone (s : State) (c : Nat) (l : LiveDesc) (t : Tile) (res due : Nat) (bad : Bool) : State :=
  let s := t.accs.foldl State.closeAcc s
  let s := if bad then s.poisonRead else s
  let t' := { t with performed := true, res := res, due := due, accs := [], out := [] }
  s.setLive c { l with poison := l.poison || bad, tiles := l.tiles.map fun y => if y.ord = t.ord then t' else y }

/-- The end of a descriptor decided while tiles may still be in flight. -/
def LiveDesc.decide (l : LiveDesc) (st : Nat) : LiveDesc := if l.ended.isNone ∧ l.stop.isNone then { l with ended := some ⟨st, 0⟩ } else l

/-- A tile that met a unit with a fatal error, or whose writes met a lost page, ends its descriptor with DEVICE_ERROR
(Table 7.6). -/
def State.lostTile (s : State) (c i : Nat) (ps : List (Nat × Nat × Nat)) : State :=
  if ps.any fun p => failedIn s p.1 p.2.1 || (bit p.2.2 1 && lostIn s p.1 p.2.1) then
    match liveOf s c i with
    | some l => s.setLive c (l.decide stDevErr)
    | none => s
  else s

/-- Guard of a descriptor's own row: a live descriptor of that opcode with a tile to work on. -/
def workOf (s : State) (c slot op : Nat) : Option (Chan × LiveDesc × Tile) :=
  match chanOf' s c, liveOf s c slot with
  | some x, some l => if l.d.op = op then (nextWork s l).map fun t => (x, l, t) else none
  | _, _ => none

/-- Rows written at a tile's destination addresses. -/
def State.wrRows (s : State) (l : LiveDesc) (w : HeldFor) (rows : List (Nat × List (Byte × Bool))) : State :=
  rows.foldl (fun s r => s.wrRange l.xl r.1 r.2 w) s

/-- The rows of a tile read from its source addresses. -/
def srcRows (s : State) (l : LiveDesc) (o : Nat) : List (List (Byte × Bool)) :=
  (l.d.rowsAt l.d.src l.d.ss o).map fun a => rdRange s l.xl a l.d.srcRow

def anyBad (rows : List (List (Byte × Bool))) : Bool := rows.any fun r => r.any Prod.snd

/-- A tile that writes its rows and counts their bytes. -/
def State.finishRows (s : State) (c : Nat) (l : LiveDesc) (t : Tile) (rows : List (Nat × List (Byte × Bool))) (res : Nat)
    (bad : Bool) : State :=
  let s' := s.wrRows l (.tile c l.idx t.ord) rows
  (s'.tileDone c l t res 0 bad).lostTile c l.idx (tilePieces l t.ord)

/-- FILL (R157). -/
def execDFill (c slot : Nat) (s : State) : Host.Outcome State Fault Refusal :=
  match workOf s c slot opFill with
  | none => .next s
  | some (_, l, t) =>
    let w := 2 ^ (l.d.opx % 4)
    let row := (List.range (l.d.c 0)).map fun i => ((natLe 8 l.d.imm).getD (i % w) 0#8, false)
    .next (s.finishRows c l t ((l.d.rowsAt l.d.dst l.d.ds t.ord).map fun a => (a, row)) (l.d.dstRow * l.d.c 1) false)

/-- COPY (R157). -/
def execDCopy (c slot : Nat) (s : State) : Host.Outcome State Fault Refusal :=
  match workOf s c slot opCopy with
  | none => .next s
  | some (_, l, t) =>
    let src := srcRows s l t.ord
    .next (s.finishRows c l t ((l.d.rowsAt l.d.dst l.d.ds t.ord).zip src) (l.d.dstRow * l.d.c 1) (anyBad src))

/-- The place of the first difference in two lists. -/
def firstDiff : List (Byte × Bool) → List (Byte × Bool) → Nat → Option Nat
  | x :: xs, y :: ys, i => if x.1 = y.1 then firstDiff xs ys (i + 1) else some i
  | _, _, _ => none

/-- COMPARE (R158, R155): it stops after the tile with the first difference, and at poison. -/
def execDCompare (c slot : Nat) (s : State) : Host.Outcome State Fault Refusal :=
  match workOf s c slot opCompare with
  | none => .next s
  | some (_, l, t) =>
    let a := srcRows s l t.ord
    let b := (l.d.rowsAt l.d.dst l.d.ds t.ord).map fun a => rdRange s l.xl a l.d.dstRow
    let bad := anyBad a || anyBad b
    let diff := firstDiff a.flatten b.flatten (t.ord * l.d.c 0 * l.d.c 1)
    let s := (s.tileDone c l t 0 0 bad).lostTile c slot (tilePieces l t.ord)
    match liveOf s c slot with
    | none => .next s
    | some l =>
      let l := match diff with
        | some i => if l.result = 2 ^ 64 - 1 then { l with result := i } else l
        | none => l
      .next (s.setLive c (if bad then l.decide stPoisoned else if diff.isSome then l.decide stOK else l))

/-- One row of a REDUCE tile combined into its destination, and whether it met poison (R211). -/
def State.reduceInto (s : State) (c : Nat) (l : LiveDesc) (t : Tile) (i1 : Nat) : Bool × State :=
  let src := rdRange s l.xl (l.d.rowAt l.d.src l.d.ss t.ord i1) l.d.srcRow
  let to_ := l.d.rowAt l.d.dst l.d.ds t.ord i1
  let other := if l.d.aux = 0 then rdRange s l.xl to_ l.d.dstRow
    else rdRange s l.xl (l.d.rowAt l.d.aux l.d.ss t.ord i1) l.d.srcRow
  let f := reduceRow l.d.dstFmt (l.d.opx % 4) (l.d.c 0)
  let row := if l.d.aux = 0 then f other src else f src other
  (anyBad [src, other], s.wrRange l.xl to_ row (.tile c l.idx t.ord))

/-- REDUCE (R159, R211): each row combined in its home slice in turn, so rows that share bytes accumulate. -/
def execDReduce (c slot : Nat) (s : State) : Host.Outcome State Fault Refusal :=
  match workOf s c slot opReduce with
  | none => .next s
  | some (x, l, t) =>
    let s := s.opCount none (some x.tenant) 24 (l.d.c 0 * l.d.c 1)
    let (bad, s) := (List.range (l.d.c 1)).foldl
      (fun (acc : Bool × State) i =>
        let (b, s) := acc.2.reduceInto c l t i
        (acc.1 || b, s)) (false, s)
    .next (s.finishRows c l t [] (l.d.dstRow * l.d.c 1) bad)

/-- GATHER (R160). -/
def execDGather (c slot : Nat) (s : State) : Host.Outcome State Fault Refusal :=
  match workOf s c slot opGather with
  | none => .next s
  | some (_, l, t) =>
    let src := (slice l.rows (t.ord * l.d.c 1) (l.d.c 1)).map fun a => rdRange s l.xl a (l.d.c 0)
    .next (s.finishRows c l t ((l.d.rowsAt l.d.dst l.d.ds t.ord).zip src) (l.d.c 0 * l.d.c 1) (anyBad src))

/-- SCATTER (R160): rows written in iteration order, so a later row wins. -/
def execDScatter (c slot : Nat) (s : State) : Host.Outcome State Fault Refusal :=
  match workOf s c slot opScatter with
  | none => .next s
  | some (_, l, t) =>
    let src := srcRows s l t.ord
    .next (s.finishRows c l t ((slice l.rows (t.ord * l.d.c 1) (l.d.c 1)).zip src) (l.d.c 0 * l.d.c 1) (anyBad src))

/-- What a FILTER tile writes: the elements that pass, densely after what earlier tiles wrote, and its mask, which starts on
a byte; how many pass; whether the source met poison (R161, R155). -/
def filterOut (s : State) (l : LiveDesc) (o : Nat) : List (Nat × List (Byte × Bool)) × Nat × Bool :=
  let w := l.d.srcBits
  let src := srcRows s l o
  let y := decodeAny l.d.srcFmt (l.d.imm % 2 ^ w)
  let es := src.flatMap fun r => rowElems w (l.d.c 0) r
  let pass := es.map fun e => filterTest (l.d.opx % 8) (decodeAny l.d.srcFmt e.1) y
  let kept := ((es.zip pass).filter Prod.snd).map Prod.fst
  let earlier := l.result + ((l.tiles.filter fun u => u.performed).map Tile.res).sum
  let flags := es.map Prod.snd
  let n := l.d.maskBytes
  let mask := (packBits n pass).zip ((List.range n).map fun i => (slice flags (8 * i) 8).any id)
  ((if kept = [] then [] else [(l.d.dst + earlier * w / 8, packRow w kept)]) ++
    (if l.d.aux = 0 then [] else [(l.d.aux + (o - l.d.first) * n, mask)]), kept.length, anyBad src)

/-- A FILTER tile's rows written; poison stops the descriptor after the tile (R155). -/
def State.filterWrite (s : State) (c : Nat) (l : LiveDesc) (t : Tile) : State :=
  let s := s.finishRows c l t t.out t.res false
  match liveOf s c l.idx with
  | none => s
  | some l => s.setLive c (if l.poison then l.decide stPoisoned else l)

/-- FILTER (R161): the source is read first; then the lines that its output takes are opened, and written once they are
ready. -/
def execDFilter (c slot : Nat) (s : State) : Host.Outcome State Fault Refusal :=
  match workOf s c slot opFilter with
  | none => .next s
  | some (_, l, t) =>
    if t.taken then .next (s.filterWrite c l t)
    else
      let (rows, n, bad) := filterOut s l t.ord
      let s := t.accs.foldl State.closeAcc s
      let s := if bad then s.poisonRead else s
      let (ids, s) := s.openSegs (.tile c l.idx t.ord) (rows.flatMap fun r => (piecesOf l.xl r.1 r.2.length).map fun p => (p.1, p.2, 2))
      let t := { t with taken := true, out := rows, res := n, accs := ids }
      let l := { l with poison := l.poison || bad, tiles := l.tiles.map fun y => if y.ord = t.ord then t else y }
      let s := s.setLive c l
      .next (if ids.all (accReady s) then s.filterWrite c l t else s)

/-- CONVERT (R162, R252). -/
def execDConvert (c slot : Nat) (s : State) : Host.Outcome State Fault Refusal :=
  match workOf s c slot opConvert with
  | none => .next s
  | some (x, l, t) =>
    let src := srcRows s l t.ord
    let scs := if bit l.d.opx 1 then rdRange s l.xl (l.d.aux + t.ord * l.d.scales) l.d.scales else []
    let k := l.d.c 0 / 32
    let (rows, out, _) := (src.zip (List.range src.length)).foldl
      (fun (acc : List (List (Byte × Bool)) × List (Byte × Bool) × Nat) (r : List (Byte × Bool) × Nat) =>
        let (es, sc, g) := convertRow l.d r.1 (slice scs (r.2 * k) k) acc.2.2
        (acc.1 ++ [packRow l.d.dstBits es], acc.2.1 ++ sc, g))
      ([], [], seedOf (Nat.xor l.d.imm t.ord))
    let rows := (l.d.rowsAt l.d.dst l.d.ds t.ord).zip rows ++
      (if bit l.d.opx 2 then [(l.d.imm2 + t.ord * l.d.scales, out)] else [])
    let s := s.opCount none (some x.tenant) 24 (l.d.c 0 * l.d.c 1)
    .next (s.finishRows c l t rows (l.d.dstRow * l.d.c 1) (anyBad src || scs.any Prod.snd))

/-- A PUSH_WR (Table 14.2, R164): 1 to 1,024 bytes to an agent's address. -/
def pushPkt (s : State) (x : Chan) (agent addr colour : Nat) (bs : List (Byte × Bool)) : Pkt :=
  { request s 0x28 2 agent x.tenant with
    addr := addr
    len := bs.length
    colour := colour
    tenEpoch := (NMap.find s.sec.tenants x.tenant).elim 0 TenRec.cur
    poison := bs.any Prod.snd
    payload := bs.map Prod.fst }

/-- A row cut into packets of 1,024 bytes. -/
def packets : Nat → Nat → List (Byte × Bool) → List (Nat × List (Byte × Bool))
  | 0, _, _ => []
  | _, _, [] => []
  | n + 1, a, l => (a, l.take 1024) :: packets n (a + 1024) (l.drop 1024)

/-- The number under which a descriptor's progress-counter write waits. -/
abbrev ctrTile : Nat := 2 ^ 60

/-- A progress counter in this node's memory written, once its home-side access is ready (R59, R164). -/
def State.ctrWrite (s : State) (c i : Nat) : State :=
  match liveOf s c i with
  | some l =>
    if l.ctrAccs ≠ [] ∧ l.ctrAccs.all (accReady s) then
      let bs := (natLe 8 l.result).map fun b => (b, false)
      ((l.ctrAccs.foldl State.closeAcc s).setLive c { l with ctrDue := 0, ctrAccs := [] }).wrRange l.xl l.d.aux bs (.tile c i ctrTile)
    else s
  | none => s

/-- PUSH_STREAM (R164): a counter write that waited is tried; the tile's rows are sent to the agent. -/
def execDPushStream (c slot : Nat) (s : State) : Host.Outcome State Fault Refusal :=
  let s := s.ctrWrite c slot
  match workOf s c slot opPush with
  | none => .next s
  | some (x, l, t) =>
    let src := srcRows s l t.ord
    let ps := ((l.d.rowsAt l.d.dst l.d.ds t.ord).zip src).flatMap fun r => packets (l.d.c 0 / 1024 + 1) r.1 r.2
    let s := ps.foldl (fun s p => s.sendReq (pushPkt s x (l.d.imm2 % 4096) p.1 t.colour p.2) (.tile c slot t.ord)) s
    .next ((s.tileDone c l t 0 ps.length (anyBad src)).lostTile c slot (tilePieces l t.ord))

/-- Delivered tiles taken off the front (R153): each adds to RESULT and leaves its fence generation; at the end of a
layer a PUSH_STREAM writes its progress counter. -/
def State.popTiles (s : State) (c i : Nat) : Nat → State
  | 0 => s
  | n + 1 =>
    match chanOf' s c, liveOf s c i with
    | some x, some l => match l.tiles with
      | t :: ts =>
        if t.delivered ∧ t.ord = l.d.first + l.delivered then
          let layer := (l.d.at t.ord).2.2
          let last := t.ord + 1 = l.d.tileCount || (l.d.at (t.ord + 1)).2.2 ≠ layer
          let l := { l with tiles := ts, delivered := l.delivered + 1, result := l.result + t.res }
          let s := s.leave t.gen
          if l.d.op = opPush ∧ last then
            let l := { l with result := layer + 1 }
            if bit l.d.imm2 12 then
              let bs := (natLe 8 (layer + 1)).map fun b => (b, false)
              ((s.setLive c { l with ctrDue := 1 }).sendReq (pushPkt s x (l.d.imm2 % 4096) l.d.aux 0 bs) (.tile c i ctrTile)).popTiles c i n
            else
              let (ids, s) := s.openSegs (.tile c i ctrTile) ((piecesOf l.xl l.d.aux 8).map fun p => (p.1, p.2, 2))
              ((s.setLive c { l with ctrDue := 1, ctrAccs := ids }).ctrWrite c i).popTiles c i n
          else (s.setLive c l).popTiles c i n
        else s
      | [] => s
    | _, _ => s

/-- TILE_DELIVERED (R152): every write of the tile performed, committed on the standby where mirrored, and every
PUSH_WR acknowledged. -/
def execTileDelivered (c slot tile : Nat) (s : State) : Host.Outcome State Fault Refusal :=
  match liveOf s c slot with
  | none => .next s
  | some l => match l.tiles.find? fun t => t.ord = tile with
    | none => .next s
    | some t =>
      if t.performed ∧ t.due = 0 ∧ ¬ heldFor s (.tile c slot tile) then
        let s := s.setLive c { l with tiles := l.tiles.map fun y => if y.ord = tile then { y with delivered := true } else y }
        .next (s.popTiles c slot 4)
      else .next s

/-- A tile given up, with those after it: they end undelivered, and the descriptor stops for the agent (Table 7.6). -/
def State.failPush (s : State) (c i ord : Nat) : State :=
  match liveOf s c i with
  | none => s
  | some l =>
    let gone := l.tiles.filter fun t => ord ≤ t.ord
    let s := gone.foldl (fun s t => (t.accs.foldl State.closeAcc s).leave t.gen) s
    let s := l.ctrAccs.foldl State.closeAcc s
    s.setLive c ({ l with tiles := l.tiles.filter fun t => t.ord < ord, ctrDue := 0, ctrAccs := [] }.stopWith ⟨stDevErr, 0⟩)

/-- PUSH_ACK_TIMEOUT (Table 7.6): a PUSH_WR not acknowledged within 1 ms. -/
def execPushAckTimeout (c slot : Nat) (s : State) : Host.Outcome State Fault Refusal :=
  match liveOf s c slot with
  | none => .next s
  | some l =>
    if l.d.op = opPush then
      match l.tiles.find? fun t => t.performed && t.due ≠ 0 && t.began + 1000000 ≤ s.now with
      | some t => .next (s.failPush c slot t.ord)
      | none =>
        let late := s.fab.reqs.any fun (r : Nat × OwnReq) => r.2.purpose = .tile c slot ctrTile && r.2.sent + 1000000 ≤ s.now
        .next (if l.ctrDue ≠ 0 ∧ late then s.failPush c slot l.next else s)
    else .next s

/-! Descriptors without tiles. -/

/-- Guard of such a descriptor's own row: started and not ended. -/
def flatOf (s : State) (c slot op : Nat) : Option (Chan × LiveDesc) :=
  match chanOf' s c, liveOf s c slot with
  | some x, some l => if l.d.op = op ∧ l.started ∧ l.ended.isNone ∧ l.stop.isNone then some (x, l) else none
  | _, _ => none

/-- LAUNCH (R163, R188): it asks for its engines; LAUNCH_START gives them. -/
def execDLaunch (c slot : Nat) (s : State) : Host.Outcome State Fault Refusal :=
  match flatOf s c slot opLaunch with
  | none => .next s
  | some (x, l) =>
    if s.eng.launches.any fun y => y.ch = c && y.idx = slot then .next s
    else
      let new : Launch := ⟨c, slot, x.tenant, x.ctx, l.engines, false, false, []⟩
      .next { s with eng := { s.eng with launches := s.eng.launches ++ [new] } }

/-- PUBLISH (R70): handed to the region's home. -/
def execDPublish (c slot : Nat) (s : State) : Host.Outcome State Fault Refusal :=
  match flatOf s c slot opPublish with
  | none => .next s
  | some (_, l) =>
    if s.dir.pubs.any fun p => p.ch = c && p.slot = slot then .next s
    else .next { s with dir := { s.dir with
      pubs := s.dir.pubs ++ [⟨l.d.imm / 2 ^ 32, l.d.imm % 2 ^ 32, l.d.imm2 % 2 ^ 32, c, slot, false, 0⟩] } }

/-- FLUSH (R74): ends once every posted write it covers has been performed. -/
def execDFlush (c slot : Nat) (s : State) : Host.Outcome State Fault Refusal :=
  match flatOf s c slot opFlush with
  | none => .next s
  | some (_, l) =>
    if l.covers.all (fun id => (NMap.find s.dir.accs id).isNone && !(heldIds s fun _ => true).contains id) then
      .next (s.setLive c (l.endWith stOK 0))
    else .next s

/-- MARK (R164): the trace record, and RESULT the rack time recorded. -/
def execDMark (c slot : Nat) (s : State) : Host.Outcome State Fault Refusal :=
  match flatOf s c slot opMark with
  | none => .next s
  | some (x, l) =>
    let s := s.trace { time := s.now, type := 1 + l.d.opx, unitType := utChannel, unitIndex := c, tenant := some x.tenant,
                       arg0 := l.d.imm, arg1 := slot }
    .next (s.setLive c { l.endWith stOK 0 with result := s.now })

/-- FENCE (R164). -/
def execDFence (c slot : Nat) (s : State) : Host.Outcome State Fault Refusal :=
  match flatOf s c slot opFence with
  | none => .next s
  | some (_, l) => .next (s.setLive c (l.endWith stOK 0))

/-! Completion (R146, R153 to R156, R165). -/

/-- Whether a descriptor is done: no tile in flight, and an end, a stop, or every tile delivered. -/
def LiveDesc.over (s : State) (c : Nat) (l : LiveDesc) : Bool :=
  l.tiles = [] && l.ctrDue = 0 && !heldFor s (.tile c l.idx ctrTile) && !(s.eng.launches.any fun y => y.ch = c && y.idx = l.idx) &&
  (l.ended.isSome || l.stop.isSome || (l.started && l.d.tiled && l.delivered = l.d.toRun))

/-- STATUS, CAUSE and DETAIL of a completed descriptor (Tables 7.5, 7.6); a stop that comes when every tile is in flight cuts
nothing short. -/
def LiveDesc.outcome (l : LiveDesc) : Nat × Nat × Nat :=
  match l.ended with
  | some e => (e.status, 0, e.detail)
  | none => match l.stop with
    | some e =>
      if e.status = stAborted then (stAborted, 0, 0)
      else if l.d.tiled ∧ e.status ≠ stDevErr ∧ l.delivered = l.d.toRun then (if l.poison then stPoisoned else stOK, 0, 0)
      else if l.delivered ≠ 0 then (stPartial, e.status, e.detail)
      else (e.status, 0, e.detail)
    | none => (if l.poison then stPoisoned else stOK, 0, 0)

/-- RESULT (Table 7.3). -/
def LiveDesc.resultWord (l : LiveDesc) : Nat := l.result

/-- The 32 bytes of a completion record (Table 7.5). -/
def recordBytes (x : Chan) (l : LiveDesc) : List Byte :=
  let (st, ca, de) := l.outcome
  let (r2, r3, r4) := if st = stPartial then l.d.at (l.d.first + l.delivered) else (0, 0, 0)
  let mask := if l.d.op = opFilter ∧ l.d.aux ≠ 0 then l.delivered * l.d.maskBytes else 0
  natLe 1 st ++ natLe 1 ca ++ natLe 1 de ++ natLe 1 (b2n x.phase + 2 * b2n l.poison) ++ natLe 2 l.idx ++ natLe 2 x.sqHead ++
  natLe 8 l.d.userTag ++ natLe 8 l.resultWord ++ natLe 2 r2 ++ natLe 2 r3 ++ natLe 2 r4 ++ natLe 2 mask

/-- The opcodes whose RESULT counts bytes written (Table 7.1). -/
def countsBytes (op : Nat) : Bool := [opFill, opCopy, opReduce, opGather, opScatter, opConvert].contains op

/-- What a descriptor leaves once its record is written or lost: its pins, its place, the counters, a pause or a fault. -/
def State.retire (s : State) (c : Nat) (l : LiveDesc) (written : Bool) : State :=
  match chanOf' s c with
  | none => s
  | some x =>
    let (st, ca, _) := l.outcome
    let s := if l.pinned then s.pin x.ctx l.d.conv l.xl false else s
    let tail := (x.cqTail + 1) % 65536
    let x := { x with live := x.live.filter fun y => y.idx ≠ l.idx }
    let x := if written then
        { x with
          cqTail := tail
          phase := if tail % 2 ^ x.cqLog = 0 then !x.phase else x.phase
          descDone := (x.descDone + 1) % 2 ^ 64
          bytesDone := if countsBytes l.d.op then (x.bytesDone + l.result) % 2 ^ 64 else x.bytesDone }
      else x
    let pause := written && x.stopOnErr && st ≠ stOK && x.st = chRunning
    let x := if pause then { x with st := chPaused } else x
    let s := s.setChan c x
    let s := if pause then s.chnEvent c CHN_EVENT_CH_PAUSED else s
    let s := s.opCount none (some x.tenant) 22 1
    let s := s.trace { time := s.now, type := 5, unitType := utChannel, unitIndex := c, tenant := some x.tenant,
                       arg0 := l.resultWord, arg1 := st + 256 * ca + 65536 * l.idx }
    if st = stDevErr then s.chanFault c stDevErr 0x6 l.idx else s

/-- The write of a completion record's bytes, and what follows it. -/
def State.writeRecord (s : State) (c : Nat) (x : Chan) (l : LiveDesc) (off : Nat) : State :=
  (s.store off ((recordBytes x l).map some) false .nobody).retire c l true

/-- COMPLETION_RECORD (R146): the record written to the slot reserved for it, as one access, one record of the channel after
another; a refused write loses it and faults the channel. -/
def execCompletionRecord (c slot : Nat) (s : State) : Host.Outcome State Fault Refusal :=
  match chanOf' s c, liveOf s c slot with
  | some x, some l =>
    let off := x.cqBase + 32 * (x.cqTail % 2 ^ x.cqLog)
    if ¬ l.over s c ∨ x.live.any fun y => y.recording && y.idx ≠ slot then .next s
    else if l.recording then .next (((s.closeFront l.accs).map fun s => s.writeRecord c x l off).getD s)
    else match admitOff s x.tenant off 32 .engWrite rtWrite with
      | .refuse st mm =>
        let s := s.admitFail utChannel c x.tenant 0 (s.node * 2 ^ 50 + off) st mm
        .next ((s.retire c l false).chanFault c st 0x3 slot)
      | .ok _ _ =>
        let (ids, s) := s.openSegs (.front c) [(off, 32, 2)]
        match s.closeFront ids with
        | some s => .next (s.writeRecord c x l off)
        | none => .next (s.setLive c { l with accs := ids, recording := true })
  | _, _ => .next s

/-! Publication at the region's home (Table 3.9). -/

/-- The end of a PUBLISH descriptor. -/
def State.pubEnd (s : State) (p : Publish) (st result : Nat) : State :=
  let s := { s with dir := { s.dir with pubs := s.dir.pubs.erase p } }
  match liveOf s p.ch p.slot with
  | some l => if l.ended.isNone ∧ l.stop.isNone then s.setLive p.ch { l.endWith st 0 with result := result } else s
  | none => s

/-- A region's slots changed. -/
def State.mapSlots (s : State) (r : Nat) (f : Slot → Slot) : State :=
  { s with dir := { s.dir with regions := NMap.adjust s.dir.regions r fun g => { g with slots := g.slots.map f } } }

/-- PUBLISH_ACCEPT (steps 1 to 4): the oldest PUBLISH of a region, once every earlier one has ended; only a PUBLISHED region
takes one (Table 3.3). -/
def execPublishAccept (region : Nat) (s : State) : Host.Outcome State Fault Refusal :=
  match s.dir.pubs.find? fun p => p.region = region with
  | none => .next s
  | some p =>
    if p.accepted then .next s
    else match NMap.find s.dir.regions region with
    | none => .next (s.pubEnd p stPermission 0)
    | some g =>
      if g.mode ≠ .published then .next (s.pubEnd p stPermission 0)
      else if g.curVersion ≠ p.expect then .next (s.pubEnd p stConflict g.curVersion)
      else if ¬ g.slots.any (fun v => v.extent = p.extent && v.role = .staging) then .next (s.pubEnd p stPermission 0)
      else
        let s := s.mapSlots region fun v => if v.extent = p.extent ∧ v.role = .staging then { v with role := .publishing } else v
        .next { s with dir := { s.dir with pubs := s.dir.pubs.map fun q => if q = p then { p with accepted := true } else q } }

/-- Writes to an extent that were admitted before and are still to be performed or committed (steps 5 and 6). -/
def writesTo (s : State) (x : Extent) : Bool :=
  (s.dir.accs.any fun (a : Nat × HomeAcc) => a.2.write && x.has a.2.off) ||
  (s.mir.held.any fun (h : Nat × Held) => x.has h.2.off) ||
  s.chn.chans.any fun (c : Nat × Chan) => c.2.live.any fun l => l.tiles.any fun t =>
    (tilePieces l t.ord).any fun p => bit p.2.2 1 && x.has p.1

/-- PUBLISH_COMPLETE (steps 5 to 7), or its end where a fence reached the extent first (R70); the fence itself has put the
slot back. The version after 0xFFFF_FFFF is 0 (DESIGN CHOICE, log entry 166). -/
def execPublishComplete (region : Nat) (s : State) : Host.Outcome State Fault Refusal :=
  match s.dir.pubs.find? fun p => p.region = region with
  | none => .next s
  | some p =>
    if ¬ p.accepted then .next s
    else match NMap.find s.dir.regions region with
    | none => .next (s.pubEnd p stPermission 0)
    | some g => match NMap.find s.ext.table p.extent with
      | none => .next (s.pubEnd p stRevoked 0)
      | some x =>
        if x.st = .fencing ∨ x.st = .scrubbing then .next (s.pubEnd p stRevoked 0)
        else if writesTo s x then .next s
        else
          let v := (p.expect + 1) % 2 ^ 32
          let step := fun (t : Slot) =>
            if t.extent = p.extent ∧ t.role = .publishing then { t with role := .current, version := v }
            else if t.role = .current then
              (if t.readers = 0 then { t with role := .staging, version := 0 } else { t with role := .retained })
            else t
          let s := { s with dir := { s.dir with
            regions := NMap.insert s.dir.regions region { g with curVersion := v, slots := g.slots.map step } } }
          .next ((s.pubEnd p stOK v).raise DIR_EVENT_PUBLISH_DONE)

/-! Commands (Tables 7.9, 7.12, 7.13). -/

def State.chnEnd (s : State) (st de : Nat) : State := s.endCmd CHN_CMD_STATUS CHN_CMD_DETAIL st de

/-- The 128 bytes of CHN_ENTRY. -/
def entryBytes (s : State) : List Byte := (List.range 16).flatMap fun n => natLe 8 (s.get (CHN_ENTRY_DATA n))

/-- A CDT entry as Table 7.1 lays it out. -/
def chanBytes (x : Chan) : List Byte :=
  natLe 2 x.tenant ++ natLe 2 x.ctx ++ natLe 1 x.st ++ natLe 1 (b2n x.stopOnErr) ++ natLe 1 x.sqLog ++ natLe 1 x.cqLog ++
  natLe 8 x.sqBase ++ natLe 8 x.cqBase ++ natLe 1 x.liveMax ++ natLe 1 x.prio ++ natLe 1 x.weight ++ natLe 5 0 ++
  natLe 2 x.sqHead ++ natLe 2 x.sqTail ++ natLe 2 x.cqTail ++ natLe 2 x.cqHead ++ natLe 1 (b2n x.phase) ++
  natLe 1 x.live.length ++ natLe 2 0 ++ natLe 1 x.fStatus ++ natLe 1 x.fDetail ++ natLe 2 x.fIndex ++
  natLe 8 x.descDone ++ natLe 8 x.bytesDone ++ natLe 64 0

/-- The channel that CREATE writes: the driver's fields as written, the device's at the values of Table 7.1. -/
def chanOfEntry (l : List Byte) : Chan :=
  { tenant := fieldLe l 0 2, ctx := fieldLe l 2 2, st := chDisabled, stopOnErr := bit (fieldLe l 5 1) 0
    sqLog := fieldLe l 6 1, cqLog := fieldLe l 7 1, sqBase := fieldLe l 8 8, cqBase := fieldLe l 0x10 8
    liveMax := fieldLe l 0x18 1, prio := fieldLe l 0x19 1, weight := fieldLe l 0x1a 1
    sqHead := 0, sqTail := 0, cqTail := 0, cqHead := 0, phase := true, fStatus := 0, fDetail := 0, fIndex := 0
    descDone := 0, bytesDone := 0, live := [], rings := [] }

/-- Whether a ring lies in one ACTIVE extent of the tenant that R142 allows. -/
def ringOk (s : State) (tenant base bytes right : Nat) : Bool :=
  match extAt s base with
  | some (_, x) => x.st = .active && x.tenant = tenant && (x.mode = .coherent || x.mode = .software) &&
      base + bytes ≤ x.base + 2097152 * x.length && hasRights x right
  | none => false

/-- DETAIL 0x4 of CREATE: a field out of range, or a reserved field that is not zero. -/
def badEntry (l : List Byte) (x : Chan) : Bool :=
  1024 ≤ x.tenant || 1024 ≤ x.ctx || 2 ≤ fieldLe l 5 1 || x.sqLog < 4 || 15 < x.sqLog || x.cqLog < 4 || 15 < x.cqLog ||
  x.sqBase % 4096 ≠ 0 || 2 ^ 44 ≤ x.sqBase || x.cqBase % 4096 ≠ 0 || 2 ^ 44 ≤ x.cqBase || x.liveMax = 0 || 64 < x.liveMax ||
  3 < x.prio || x.weight = 0 || fieldLe l 0x1b 5 ≠ 0 || fieldLe l 0x2a 2 ≠ 0 || fieldLe l 0x40 64 ≠ 0

/-- CREATE (Table 7.12). -/
def execChnCreate (s : State) : Host.Outcome State Fault Refusal :=
  if s.flag CHN_CMD_BUSY then .next s
  else
    let c := s.get CHN_CMD_CHANNEL
    let l := entryBytes s
    let x := chanOfEntry l
    let ctxBad := x.ctx ≠ 0 && !(NMap.find s.xlt.ctxs x.ctx).any fun k => k.tenant = x.tenant
    match firstDetail [((chanOf' s c).isSome, 1), (!configured s x.tenant || ctxBad, 3), (badEntry l x, 4),
        (!ringOk s x.tenant x.sqBase (128 * 2 ^ x.sqLog) rtRead || !ringOk s x.tenant x.cqBase (32 * 2 ^ x.cqLog) rtWrite, 5)] with
    | some de => .next (s.chnEnd stPermission de)
    | none => .next ((s.setChan c x).chnEnd stOK 0)

/-- The channel a command names, with the command's end where it is not created. -/
def onChan (s : State) (f : Nat → Chan → State) : Host.Outcome State Fault Refusal :=
  if s.flag CHN_CMD_BUSY then .next s
  else match chanOf' s (s.get CHN_CMD_CHANNEL) with
  | none => .next (s.chnEnd stPermission 1)
  | some x => .next (f (s.get CHN_CMD_CHANNEL) x)

/-- DESTROY (Table 7.12). -/
def execChnDestroy (s : State) : Host.Outcome State Fault Refusal :=
  onChan s fun c x =>
    if x.st ≠ chDisabled then s.chnEnd stPermission 2
    else { s with chn := { s.chn with
      chans := NMap.erase s.chn.chans c
      cache := s.chn.cache.filter (· ≠ c)
      bells := s.chn.bells.filter fun b => b.ch ≠ c } }.chnEnd stOK 0

/-- QUERY (Table 7.12). -/
def execChnQuery (s : State) : Host.Outcome State Fault Refusal :=
  onChan s fun _ x =>
    let l := chanBytes x
    ((List.range 16).foldl (fun s n => s.put (CHN_ENTRY_DATA n) (fieldLe l (8 * n) 8)) s).chnEnd stOK 0

/-- ENABLE: DISABLED to RUNNING; none where the state forbids it. -/
def State.enableChan (s : State) (c : Nat) (x : Chan) : Option State :=
  if x.st = chDisabled then some (s.setChan c { x with st := chRunning }) else none

/-- RESUME: PAUSED to RUNNING. -/
def State.resumeChan (s : State) (c : Nat) (x : Chan) : Option State :=
  if x.st = chPaused then some (s.setChan c { x with st := chRunning }) else none

/-- The LAUNCHes of a channel given up: one that is not loaded is dropped, one that is has its engines stopped (Table 8.6,
cause 0xA). -/
def State.dropLaunch (s : State) (c : Nat) : State :=
  (s.eng.launches.filter fun l => l.ch = c).foldl (fun s l => if l.loaded then s.abortEngines l.engines else s.freeLaunch l) s

/-- A live descriptor aborted: a tiled one stops once its tiles are done, another ends, unless its engines must drain. -/
def abortDesc (s : State) (c : Nat) (l : LiveDesc) : LiveDesc :=
  if l.d.tiled ∧ l.started then l.stopWith ⟨stAborted, 0⟩
  else if l.ended.isNone ∧ l.stop.isNone ∧ ¬ (s.eng.launches.any fun y => y.ch = c && y.idx = l.idx && y.loaded) then
    l.endWith stAborted 0
  else l

/-- The accesses that the loading of a channel's LAUNCHes waits for, closed. -/
def State.dropLoads (s : State) (x : Chan) : State :=
  ((x.live.filter fun l => l.d.op = opLaunch && l.ended.isNone && !l.recording).flatMap LiveDesc.accs).foldl State.closeAcc s

/-- The publications of a channel given up. -/
def State.dropPubs (s : State) (c : Nat) : State :=
  let mine := s.dir.pubs.filter fun p => p.ch = c
  let s := mine.foldl (fun s p => s.mapSlots p.region fun v =>
    if v.extent = p.extent ∧ v.role = .publishing then { v with role := .staging } else v) s
  { s with dir := { s.dir with pubs := s.dir.pubs.filter fun p => p.ch ≠ c } }

/-- Steps 1 to 3 of Table 7.9: descriptors read but not started are discarded, live ones stop. -/
def State.resetChan (s : State) (c : Nat) (x : Chan) : State :=
  let staged := x.live.filter fun l => !l.started && l.ended.isNone
  let s := (staged.foldl (fun s l => l.accs.foldl State.closeAcc (if l.pinned then s.pin x.ctx l.d.conv l.xl false else s)) s).dropLoads x
  let live := (x.live.filter fun l => l.started || l.ended.isSome).map (abortDesc s c)
  let s := s.dropPubs c
  let s := { s with chn := { s.chn with
    sel := match s.chn.sel with | some q => if q.ch = c then none else some q | none => none
    bells := s.chn.bells.filter fun b => b.ch ≠ c } }
  (s.setChan c { x with st := chResetting, live := live, rings := [] }).dropLaunch c

/-- Every started descriptor of a channel aborted, the channel in its state (Table 20.2 step 4). -/
def State.abortLive (s : State) (c : Nat) (x : Chan) : State :=
  let live := x.live.map fun l => if l.started || l.ended.isSome then abortDesc s c l else l
  (((s.dropPubs c).dropLoads x).setChan c { x with live := live }).dropLaunch c

/-- CHANNEL_RESET_DONE (Table 7.9 step 4): LIVE is 0. -/
def execChannelResetDone (c : Nat) (s : State) : Host.Outcome State Fault Refusal :=
  match chanOf' s c with
  | none => .next s
  | some x =>
    if x.st = chResetting ∧ x.live = [] then
      let s := (s.setChan c { x with
        st := chDisabled, sqHead := 0, sqTail := 0, cqTail := 0, cqHead := 0, phase := true, fStatus := 0, fDetail := 0,
        fIndex := 0 }).closeRec utChannel c
      .next (if s.flag CHN_CMD_BUSY ∧ s.get CHN_CMD_CHANNEL = c then (s.put CHN_CMD_BUSY 0).chnEnd stOK 0 else s)
    else .next s

/-- A command that changes a channel's state, or ends with DETAIL 0x2. -/
def stateCmd (s : State) (f : Nat → Chan → Option State) : Host.Outcome State Fault Refusal :=
  onChan s fun c x => match f c x with
    | some s => s.chnEnd stOK 0
    | none => s.chnEnd stPermission 2

/-- ENABLE (Table 7.12). -/
def execChnEnable (s : State) : Host.Outcome State Fault Refusal := stateCmd s s.enableChan

/-- RESET (R167): from any state except DISABLED. -/
def State.resetCmd (s : State) (c : Nat) (x : Chan) : Option State :=
  if x.st = chDisabled then none else if x.st = chResetting then some s else some (s.resetChan c x)

/-- CHN_RESET: the command ends with step 4 of Table 7.9 (R450). -/
def execChnReset (s : State) : Host.Outcome State Fault Refusal :=
  onChan s fun c x => match s.resetCmd c x with
    | some s => s.put CHN_CMD_BUSY 1
    | none => s.chnEnd stPermission 2

/-- RESUME (Table 7.12). -/
def execChnResume (s : State) : Host.Outcome State Fault Refusal := stateCmd s s.resumeChan

/-- SET_SCHED (R298): PRIORITY and WEIGHT from CHN_ENTRY. -/
def execSetSched (s : State) : Host.Outcome State Fault Refusal :=
  onChan s fun c x =>
    let l := entryBytes s
    let p := fieldLe l 0x19 1
    let w := fieldLe l 0x1a 1
    if 3 < p ∨ w = 0 then s.chnEnd stPermission 4
    else (s.setChan c { x with prio := p, weight := w }).chnEnd stOK 0

/-- A CHN_TCTL write (Table 7.14): of the window's own tenant's channel; else as in step 1 of R143. -/
def tctl (w c a : Nat) (f : State → Nat → Chan → Option State) (s : State) : Host.Outcome State Fault Refusal :=
  match chanOf' s c with
  | none => .next (s.badBell w c a (0x8000200 + 0x10000 * w))
  | some x =>
    if windowTenant s w = some x.tenant then .next ((f s c x).getD s)
    else .next (s.badBell w c a (0x8000200 + 0x10000 * w))

/-- CHN_TCTL ENABLE. -/
def execTctlEnable (w c a : Nat) (s : State) : Host.Outcome State Fault Refusal := tctl w c a State.enableChan s

/-- CHN_TCTL RESET. -/
def execTctlReset (w c a : Nat) (s : State) : Host.Outcome State Fault Refusal := tctl w c a State.resetCmd s

/-- CHN_TCTL RESUME. -/
def execTctlResume (w c a : Nat) (s : State) : Host.Outcome State Fault Refusal := tctl w c a State.resumeChan s

end Sys2Proof.Machine
end

