-- ==== Sys2Proof/Machine/EngMem.lean ====
section
/-! DEFINITION. An engine's asynchronous requests (R181 to R183, R229, R246, R248): translation through the cirque
cache, lines admitted and performed, replies from other nodes, completion of tags; launches (R188 to R190), faults
drained, barriers and semaphores (R185, R186). -/

namespace Sys2Proof.Machine

open Reg

/-! Tags. -/

def putTag (x : Eng) (t : Nat) (a : ATag) : Eng := { x with tags := NMap.insert x.tags t a }

/-- The request outstanding on a tag. -/
def reqOf (s : State) (e t : Nat) : Option AReq := match NMap.find (engOf s e).tags t with
  | some (.out r) => some r
  | _ => none

def State.setReq (s : State) (e t : Nat) (r : AReq) : State := s.setEng e (putTag (engOf s e) t (.out r))

/-- The right of an entry that a request needs (R127), and those of the extent (R47). -/
def AKind.xright : AKind → Nat
  | .get => 1
  | .put => 2
  | .atom .. => 4
  | _ => 0

def AKind.right : AKind → Nat
  | .get => rtRead + rtEngine
  | .put => rtWrite + rtEngine
  | _ => rtAtomic + rtEngine

def AKind.req : AKind → ReqKind
  | .get => .engRead
  | .put => .engWrite
  | _ => .atomic

/-- The context that an engine translates through. -/
def engCtx (s : State) (e : Nat) : Nat := ((launchOf s e).map Launch.ctx).getD 0

/-- Whether a context's addresses are VAs for engine requests (R132). -/
def isVirtual (s : State) (ctx : Nat) : Bool := ctx ≠ 0 && !(NMap.find s.xlt.ctxs ctx).any XCtx.pool

/-- A line of the cirque's translation cache. -/
def cached (s : State) (e ctx va : Nat) : Option XCached :=
  (NMap.getD s.xlt.cache (e / 16) []).find? fun x =>
    x.ctx = ctx && (if x.small then x.slot = va / 65536 else x.slot = va / 2097152 * 32)

/-- A line put into the cache; the oldest of 1,024 makes room. -/
def State.cacheFill (s : State) (cirq : Nat) (x : XCached) : State :=
  let l := (NMap.getD s.xlt.cache cirq []).filter fun y => ¬ (y.ctx = x.ctx ∧ y.slot = x.slot)
  { s with xlt := { s.xlt with cache := NMap.insert s.xlt.cache cirq ((if 1024 ≤ l.length then l.drop 1 else l) ++ [x]) } }

/-- The 128-byte lines of a request. -/
def linesOfReq (a n : Nat) : List ALine :=
  (linesOf a n).map fun l =>
    let lo := max a (128 * l)
    ⟨lo, lo - a, min (a + n) (128 * l + 128) - lo, .new, false⟩

/-- A line's new state. -/
def AReq.setLine (r : AReq) (pos : Nat) (f : ALine → ALine) : AReq :=
  { r with lines := r.lines.map fun l => if l.pos = pos then f l else l }

/-- Bytes written to a store chunk by chunk with their poison (R175). -/
def Eng.wrFlag (x : Eng) : Nat → Nat → List (Byte × Bool) → Eng
  | 0, _, _ => x
  | _, _, [] => x
  | n + 1, a, l =>
    let k := 64 - a % 64
    let c := l.take k
    (x.wr a (c.map Prod.fst) (c.any Prod.snd)).wrFlag n (a + k) (l.drop k)

/-- A line of this node performed in its home slice (R14, R175, R247). -/
def State.performLine (s : State) (e t : Nat) (r : AReq) (l : ALine) : State :=
  let off := rpaOff l.addr
  match r.kind with
  | .get =>
    let bs := rdFlag s off l.len
    let bad := bs.any Prod.snd
    let s := if bad then s.poisonRead else s
    let s := s.setEng e ((engOf s e).wrFlag 4 (r.loc + l.pos) bs)
    (s.setReq e t (r.setLine l.pos fun y => { y with st := .done stOK 0, poison := bad })).engCount e 17 l.len
  | .put =>
    let bs := (slice r.data l.pos l.len).zip ((range' l.pos l.len).map fun i => r.poison.contains ((r.loc + i) / 64))
    let held := heldAt s off
    let lost := lostIn s off l.len
    let s := s.storeFlag off bs (.engine e t)
    let st := if lost then LineSt.done stDevErr 0 else if held then .held else .done stOK 0
    (s.setReq e t (r.setLine l.pos fun y => { y with st := st })).engCount e 18 l.len
  | .atom arg aux ret =>
    let n := atomicSize arg
    let v := leNat (rdBytes s.mem off n)
    if poisonedIn s off n ∨ lostIn s off n then
      let s := if ret then s.setEng e ((engOf s e).wrFlag 2 r.loc ((natLe 8 0).map fun b => (b, true))) else s
      s.setReq e t (r.setLine l.pos fun y => { y with st := .done stOK 0, poison := true })
    else
      let held := heldAt s off
      let s := s.store off ((natLe n (atomicVal arg v aux)).map some) false (.engine e t)
      let s := if ret then s.setEng e ((engOf s e).wrFlag 2 r.loc ((natLe 8 v).map fun b => (b, false))) else s
      s.setReq e t (r.setLine l.pos fun y => { y with st := if held then .held else .done stOK 0 })
  | _ => s

/-- A request of this engine to another node (R181). -/
def remotePkt (s : State) (e : Nat) (r : AReq) (l : ALine) : Pkt :=
  let tenant := engTenant s e
  let base := { request s 0x01 0 (Config.nodeAgent (rpaNode l.addr) % 4096) tenant with
    domain := l.addr / 128 % 8
    addr := l.addr
    len := l.len
    tenEpoch := (NMap.find s.sec.tenants tenant).elim 0 TenRec.cur }
  match r.kind with
  | .put => { base with
      opcode := 0x02
      payload := slice r.data l.pos l.len
      poison := (range' l.pos l.len).any fun i => r.poison.contains ((r.loc + i) / 64) }
  | .atom arg aux _ => { base with opcode := 0x08, len := 0, arg := arg, aux := aux }
  | _ => base

/-- One line admitted and accepted at its home slice, or sent to its node (R38, R181, R183). -/
def State.beginLine (s : State) (e t : Nat) (l : ALine) : State :=
  match reqOf s e t with
  | none => s
  | some r =>
    if rpaNode l.addr ≠ s.node then
      (s.setReq e t (r.setLine l.pos fun y => { y with st := .remote })).sendReq (remotePkt s e r l) (.engine e t l.pos)
    else match admitOff s (engTenant s e) (rpaOff l.addr) l.len r.kind.req r.kind.right with
      | .refuse st mm =>
        ((s.admitFail utEngine e (engTenant s e) 0 l.addr st mm).nocTaken e t l.pos).setReq e t
          (r.setLine l.pos fun y => { y with st := .done st 0 })
      | .ok _ _ =>
        let tile := homeTile s (rpaOff l.addr)
        if !sliceTakes s (rpaOff l.addr) l.len || nocBehind s e t l.pos tile then
          (if crossesNoc s e tile then s.nocWait e t l.pos tile (64 + r.data.length) else s)
        else
        let s := s.nocTaken e t l.pos
        let g := genNow s
        let (id, s) := (s.touch 1 (rpaOff l.addr) l.len).openAcc (.engine e t) g (r.kind ≠ .get) (rpaOff l.addr) l.len
        s.setReq e t { r.setLine l.pos fun y => { y with st := .waits id } with gens := g :: r.gens }

/-- Lines whose home slices are ready, performed in address order; a held line is done once the standby has it, and a line
that its slice did not take is tried again (R60). -/
def State.pump (s : State) (e t : Nat) : State :=
  match reqOf s e t with
  | none => s
  | some r =>
    r.lines.foldl (fun s l => match l.st with
      | .waits id =>
        if accReady s id then
          match reqOf s e t with
          | some r => (s.closeAccHeld id).performLine e t r l
          | none => s
        else s
      | .held =>
        if heldFor s (.engine e t) then s
        else match reqOf s e t with
          | some r => s.setReq e t (r.setLine l.pos fun y => { y with st := .done stOK 0 })
          | none => s
      | .new => if r.missing then s else s.beginLine e t l
      | _ => s) s

/-- A translated request begins: its lines, from rack pool address `rpa`. -/
def State.beginReq (s : State) (e t rpa : Nat) : State :=
  match reqOf s e t with
  | none => s
  | some r =>
    let ls := linesOfReq rpa r.len
    let s := s.setReq e t { r with missing := false, lines := ls }
    (ls.foldl (fun s l => s.beginLine e t l) s).pump e t

/-- A request that fails translation completes with TRANSLATION_FAULT (R132). -/
def State.xlFail (s : State) (e t reason : Nat) : State :=
  match reqOf s e t with
  | none => s
  | some r => s.setReq e t { r with missing := false, lines := [⟨r.pool, 0, r.len, .done stXlate reason, false⟩] }

/-- A request translated with a cache line, or failed by its rights. -/
def State.useLine (s : State) (e t : Nat) (x : XCached) : State :=
  match reqOf s e t with
  | none => s
  | some r =>
    if ¬ s.flag XLT_CFG_ENABLE then s.xlFail e t xrContext
    else if Nat.land x.rights r.kind.xright ≠ r.kind.xright then s.xlFail e t xrRights
    else
      let page := if x.small then 65536 else 2097152
      (s.setReq e t { r with slot := some x.slot }).beginReq e t (x.rpa + r.pool % page)

/-- The requests of an engine that wait for an entry: tag and request. -/
def missesOf (s : State) (e : Nat) : List (Nat × AReq) :=
  (List.range 512).filterMap fun t => (reqOf s e t).bind fun r => if r.missing then some (t, r) else none

/-- The oldest of them. -/
def firstMiss (s : State) (e : Nat) : Option (Nat × AReq) :=
  (missesOf s e).foldl (fun m x => match m with
    | some y => if x.2.seq < y.2.seq then some x else m
    | none => some x) none

/-- A request issued on its tag (R181): translated, or kept by a cache miss; one issued behind a miss of its engine stays
behind it, since both may touch one line (R182 rule 1). -/
def State.issueReq (s : State) (e t : Nat) (r : AReq) : State :=
  let r := { r with seq := s.get (ENG_RETIRED_RETIRED e) }
  let ctx := engCtx s e
  if isVirtual s ctx then
    if ¬ s.flag XLT_CFG_ENABLE then (s.setReq e t r).xlFail e t xrContext
    else if 2 ^ 57 ≤ r.pool then (s.setReq e t r).xlFail e t xrNonCanon
    else match cached s e ctx r.pool with
      | some x => if missesOf s e = [] then (s.setReq e t r).useLine e t x else s.setReq e t { r with missing := true }
      | none => s.setReq e t { r with missing := true }
  else (s.setReq e t r).beginReq e t r.pool

/-- The waiting requests of an engine that its cache now serves, in issue order; `n` bounds them. -/
def State.runMisses (s : State) (e : Nat) : Nat → State
  | 0 => s
  | n + 1 => match firstMiss s e with
    | none => s
    | some (t, r) => match cached s e (engCtx s e) r.pool with
      | none => s
      | some x => (s.useLine e t x).runMisses e n

/-- XLT_MISS_FILL (R132, R134): a miss of a cirque is filled from the node's copy; one on an INVALIDATING entry waits. -/
def execXltMissFill (cirq ctx va : Nat) (s : State) : Host.Outcome State Fault Refusal :=
  let es := range' (16 * cirq) 16
  let users := es.flatMap fun e => (missesOf s e).filterMap fun p =>
    if engCtx s e = ctx ∧ p.2.pool / 65536 = va / 65536 then some (e, p.1) else none
  match users with
  | [] => .next s
  | (e, _) :: _ =>
    match translate s ctx (engTenant s e) false va 0 with
    | .wait => .next s
    | .fault r => .next (es.foldl (fun s e => s.runMisses e 512) (users.foldl (fun s u => s.xlFail u.1 u.2 r) s))
    | .ok r =>
      .next (es.foldl (fun s e => s.runMisses e 512) (s.cacheFill cirq ⟨ctx, r.slot, r.small, r.rights, r.rpa⟩))

/-- A reply from another node for one line of a request (R274). -/
def State.engReply (s : State) (e t pos st : Nat) (bs : List Byte) (bad : Bool) : State :=
  match reqOf s e t with
  | none => s
  | some r =>
    let bad := bad || st == stPoisoned
    let fl := fun (l : List Byte) => l.map fun b => (b, bad)
    let good := st = stOK ∨ st = stPoisoned ∨ st = stDuplicate ∨ st = stUncertain
    let s := if ¬ good then s
      else match r.kind with
      | .get => (s.setEng e ((engOf s e).wrFlag 4 (r.loc + pos) (fl bs))).engCount e 17 bs.length
      | .put => s.engCount e 18 ((r.lines.find? fun l => l.pos = pos).elim 0 ALine.len)
      | .atom _ _ ret => if ret then s.setEng e ((engOf s e).wrFlag 2 r.loc (fl (fitBytes 8 bs))) else s
      | .cred .. => s.setEng e ((engOf s e).wrFlag 20 r.loc (fl (fitBytes r.len bs)))
      | .cgath .. => s
    match reqOf s e t with
    | none => s
    | some r => s.setReq e t (r.setLine pos fun y => { y with st := .done (if st = stPoisoned then stOK else st) 0, poison := bad })

/-- The status of a tag whose lines are all done (R183), with its reason and the address of what was refused. -/
def tagStatus (r : AReq) : Nat × Nat × Nat :=
  let bad := r.lines.find? fun l => match l.st with
    | .done st _ => st ≠ stOK && st ≠ stDuplicate && st ≠ stUncertain
    | _ => true
  match bad with
  | some l => match l.st with
    | .done st de => (st, de, l.addr)
    | _ => (stDevErr, 0, l.addr)
  | none =>
    if r.lines.any ALine.poison then (stPoisoned, 0, 0)
    else match r.lines.find? fun l => l.st = .done stDuplicate 0 ∨ l.st = .done stUncertain 0 with
      | some l => (match l.st with | .done st _ => st | _ => stOK, 0, 0)
      | none => (stOK, 0, 0)

def refusalStatus (st : Nat) : Bool := !([stOK, stPoisoned, stDuplicate, stUncertain].contains st)

def AReq.finished (r : AReq) : Bool := !r.missing && r.lines.all fun l => match l.st with
  | .done _ _ => true
  | _ => false

/-- TAG_COMPLETE (R183): the tag keeps its status; a refusal raises MEMORY. -/
def execTagComplete (e t : Nat) (s : State) : Host.Outcome State Fault Refusal :=
  let s := s.pump e t
  match reqOf s e t with
  | none => .next s
  | some r =>
    if r.finished then
      let (st, de, addr) := tagStatus r
      let s := r.gens.foldl State.leave s
      let s := (s.setEng e (putTag (engOf s e) t (.kept st de))).showEng e
      .next (if refusalStatus st then s.engFault e ⟨ecMemory, st, de, (engOf s e).pc, t, addr⟩ else s)
    else .next s

/-! Faults (R191, R192). -/

/-- WATCHDOG (R191). -/
def execWatchdog (e : Nat) (s : State) : Host.Outcome State Fault Refusal :=
  let k := s.get (ENG_CTL_WDOG_KCYC e)
  if (engBusy s e ∨ (engSt s e = 4 ∧ s.get (ENG_FAULT_CAUSE e) ≠ ecWatchdog)) ∧ k ≠ 0 ∧ 1024 * k < s.get (ENG_CYCLES_CYCLES e) then .next (s.engFault e (faultOf ecWatchdog (engOf s e).pc 0))
  else .next s

/-- ENG_STOP (R191): ENG_CTL.STOP written 1. -/
def execEngStop (e : Nat) (s : State) : Host.Outcome State Fault Refusal :=
  if engBusy s e ∨ engSt s e = 4 then .next (s.engFault e (faultOf ecStopped (engOf s e).pc 0)) else .next s

/-- A unit fault of an idle engine: offline at once (R192). ENG_FAULT holds this fault alone. -/
def State.idleUnitFault (s : State) (e : Nat) : State :=
  let s := [ENG_FAULT_MORE e, ENG_FAULT_DETAIL e, ENG_FAULT_PC e, ENG_FAULT_TAG e, ENG_FAULT_ADDR_ADDR e].foldl (fun s f => s.put f 0) s
  let s := (s.put (ENG_FAULT_CAUSE e) ecUnit).put (ENG_FAULT_STATUS e) stDevErr
  ((s.engRecord e 2).takeOffline utEngine e).putSt e 5

/-- IDLE_ENGINE_UNIT_FAULT (R192). -/
def execIdleEngineUnitFault (e : Nat) (s : State) : Host.Outcome State Fault Refusal :=
  if engSt s e = 0 ∧ e < 256 then .next (s.idleUnitFault e) else .next s

/-- ENGINE_FAULT_DRAINED (Table 8.7 steps 3 and 4). -/
def execEngineFaultDrained (e : Nat) (s : State) : Host.Outcome State Fault Refusal :=
  if engSt s e = 4 ∧ tagsOut (engOf s e) = 0 then
    if s.get (ENG_FAULT_CAUSE e) = ecUnit then .next (((s.engRecord e 2).takeOffline utEngine e).engEnd e 5)
    else .next ((s.engRecord e 1).engEnd e 0)
  else .next s

/-- NEVE_ECC_ERROR (R175): corrected and counted, or the chunk poisoned. -/
def execNeveEccError (e addr : Nat) (corrected : Bool) (s : State) : Host.Outcome State Fault Refusal :=
  if 256 ≤ e then .next s
  else if corrected then .next (s.count (ENG_ECC_CORR e) 1)
  else
    let x := engOf s e
    .next ((s.setEng e { x with poison := insSorted (addr % 1048576 / 64) x.poison }).count (ENG_ECC_UNCORR e) 1)

/-! Launch (R184, R188, R189). -/

/-- The mask of a launch in one cirque. -/
def maskIn (es : List Nat) (c : Nat) : Nat := (es.filter fun e => e / 16 = c).foldl (fun m e => m + 2 ^ (e % 16)) 0

def State.setLaunch (s : State) (l : Launch) : State :=
  { s with eng := { s.eng with launches := s.eng.launches.map fun y => if y.ch = l.ch ∧ y.idx = l.idx then l else y } }

/-- A cirque's masks for a LAUNCH: its engines there, who are every barrier's participants (R185). -/
def State.cirqMasks (s : State) (l : Launch) (c : Nat) : State :=
  let m := maskIn l.engines c
  let all := m * (1 + 2 ^ 16 + 2 ^ 32 + 2 ^ 48)
  (((s.put (CIRQ_BARMASK0_PARTICIPANTS c) all).put (CIRQ_BARMASK1_PARTICIPANTS c) all).put (CIRQ_STATUS_BUSY c) (b2n (m ≠ 0))).put
    (CIRQ_STATUS_LAUNCH_MASK c) m

/-- A cirque taken (R184, R185, R186): zeroed where its last LAUNCH was another tenant's, its barriers and semaphores
set. -/
def State.takeCirq (s : State) (l : Launch) (c : Nat) : State :=
  let other := (NMap.find s.eng.lastTen c).any (· ≠ l.tenant)
  let s := if other then
      (range' (16 * c) 16).foldl (fun s e => s.setEng e { engOf s e with neve := [], poison := [] }) s
    else s
  let s := (s.put (CIRQ_BAR0_ARRIVED c) 0).put (CIRQ_BAR1_ARRIVED c) 0
  let s := (List.range 8).foldl (fun s n => s.put (CIRQ_SEM_COUNT c n) 0) s
  let s := { s with eng := { s.eng with lastTen := NMap.insert s.eng.lastTen c l.tenant } }
  ((s.put (CIRQ_STATUS_TENANT c) l.tenant).put (CIRQ_STATUS_CHANNEL c) l.ch).cirqMasks l c

/-- An engine loaded (Table 8.5 step 4, R189): program, argument block, initial registers. -/
def State.loadEngine (s : State) (l : Launch) (prog : List Nat) (args : List Byte) (rank e : Nat) : State :=
  let x := engOf s e
  let regs : NMap Nat := [(1, args.length), (2, e), (3, rank), (4, l.engines.length), (5, maskIn l.engines (e / 16))]
  let x := { x with
    pc := 0, from_ := 0, s := regs.filter fun r => r.2 ≠ 0, p := [], v := [], t := [], imem := prog, prog := prog.length
    rnd := seedOf (s.get (ENG_SEED_SEED e)), tags := [], wait := none, nst := [] }
  let x := x.wr 0 args false
  let s := s.setEng e x
  let clear := [ENG_FAULT_MORE e, ENG_FAULT_STATUS e, ENG_FAULT_DETAIL e, ENG_FAULT_CAUSE e, ENG_FAULT_PC e, ENG_FAULT_TAG e,
    ENG_FAULT_ADDR_ADDR e, ENG_EXIT_EXIT e, ENG_CYCLES_CYCLES e, ENG_RETIRED_RETIRED e]
  let s := clear.foldl (fun s f => s.put f 0) s
  (((s.put (ENG_STATUS_TENANT e) l.tenant).put (ENG_STATUS_CHANNEL e) l.ch).putSt e 1).showEng e

/-- The pins of a LAUNCH released once its program and arguments are loaded (R130). -/
def State.unpinLaunch (s : State) (c : Nat) (x : Chan) (l : LiveDesc) : State :=
  (if l.pinned then s.pin x.ctx l.d.conv l.xl false else s).setLive c { l with pinned := false, xl := [], accs := [] }

/-- Program words of a byte list. -/
def wordsOf : Nat → List Byte → List Nat
  | 0, _ => []
  | n + 1, l => leNat (l.take 8) :: wordsOf n (l.drop 8)

/-- The engines that a LAUNCH not yet loaded still selects: one that has gone OFFLINE is left out (R188, R192; DESIGN CHOICE,
log entry 183). -/
def stillOn (s : State) (es : List Nat) : List Nat := es.filter fun e => !s.flag (ENG_CTL_OFFLINE e)

/-- The LAUNCH's program and argument block loaded into its engines, or its end where they read poison (Table 8.5 step 4). -/
def State.loadLaunch (s : State) (c : Nat) (x : Chan) (l : LiveDesc) (n : Launch) : State :=
  let prog := rdRange s l.xl l.d.src (l.d.c 0)
  let args := rdRange s l.xl l.d.aux (l.d.c 1)
  let s := s.unpinLaunch c x l
  if prog.any Prod.snd ∨ args.any Prod.snd then
    (s.poisonRead.setLive c { l.endWith stPoisoned 0 with poison := true, pinned := false, xl := [] }).freeLaunch n
  else
    let words := wordsOf (l.d.c 0 / 8) (prog.map Prod.fst)
    ((n.engines.zip (List.range n.engines.length)).foldl
      (fun s p => s.loadEngine n words (args.map Prod.fst) p.2 p.1) s).setLaunch { n with loaded := true }

/-- LAUNCH_START (Table 8.5 steps 2 to 4): every selected engine idle, no other LAUNCH in their cirques, no divisor change
(R388). Program and argument block are read once; a refusal ends the LAUNCH with its status, poison with POISONED. -/
def execLaunchStart (c slot : Nat) (s : State) : Host.Outcome State Fault Refusal :=
  match launchOfDesc s c slot, chanOf' s c, liveOf s c slot with
  | some n, some x, some l =>
    let on := stillOn s n.engines
    if n.loaded ∨ l.stop.isSome ∨ l.ended.isSome then .next s
    else if on = [] then .next (((l.accs.foldl State.closeAcc s).freeLaunch n).failDesc c x l stPermission 0x0a)
    else
      let free := !s.flag CLK_CMD_BUSY && on.all (fun e => engSt s e = 0) && (cirqsOf on).all fun q => !s.flag (CIRQ_STATUS_BUSY q)
      if ¬ n.held ∧ ¬ free then .next s
      else
        let m := { n with held := true, engines := on }
        let s := (if n.held then (if on = n.engines then s else (cirqsOf n.engines).foldl (fun s q => s.cirqMasks m q) s)
          else (cirqsOf on).foldl (fun s q => s.takeCirq m q) s).setLaunch m
        let ps := piecesOf l.xl l.d.src (l.d.c 0) ++ piecesOf l.xl l.d.aux (l.d.c 1)
        match (if l.accs = [] then admitSegs s x.tenant .engRead (rtRead + rtEngine) ps else none) with
        | some (st, mm, off) =>
          .next (((s.admitFail utChannel c x.tenant 0 (s.node * 2 ^ 50 + off) st mm).failDesc c x l st 0).freeLaunch m)
        | none =>
          let (ids, s) := if l.accs = [] then s.openSegs (.front c) (ps.map fun p => (p.1, p.2, 1)) else (l.accs, s)
          match s.closeFront ids with
          | none => .next (s.setLive c { l with accs := ids })
          | some s => .next (s.loadLaunch c x l m)
  | _, _, _ => .next s

/-- ENGINE_START (Table 8.5 step 5): every loaded engine of a cirque starts together. -/
def execEngineStart (cirq : Nat) (s : State) : Host.Outcome State Fault Refusal :=
  let es := (range' (16 * cirq) 16).filter fun e => engSt s e = 1
  .next (es.foldl (fun s e => (s.engTrace e 6 (s.get (ENG_STATUS_CHANNEL e)) 0).putSt e 2) s)

/-- LAUNCH_COMPLETE (R163, R190): every launched engine has ended; what becomes of one afterwards does not count (R192). -/
def execLaunchComplete (c slot : Nat) (s : State) : Host.Outcome State Fault Refusal :=
  match launchOfDesc s c slot, liveOf s c slot with
  | some n, some l =>
    let ended := n.engines.filterMap fun e => NMap.find n.ends e
    if n.loaded ∧ ended.length = n.engines.length then
      let bad := ended.find? fun x => x.cause ≠ 0 ∧ x.cause ≠ ecAborted
      let st := match bad with
        | some x => x.status
        | none => if ended.any fun x => x.cause = ecAborted then stAborted else stOK
      let res := (n.engines.head?).elim 0 fun e => s.get (ENG_EXIT_EXIT e)
      let det := match bad with
        | some x => if st = stXlate then x.detail else 0
        | none => 0
      .next ((s.setLive c { l.endWith st det with result := res }).freeLaunch n)
    else .next s
  | _, _ => .next s

/-! Barriers and semaphores (R185, R186, R231). -/

def barField (c b : Nat) : Fld := if b < 4 then CIRQ_BAR0_ARRIVED c else CIRQ_BAR1_ARRIVED c
def maskField (c b : Nat) : Fld := if b < 4 then CIRQ_BARMASK0_PARTICIPANTS c else CIRQ_BARMASK1_PARTICIPANTS c

/-- Arrived and participant masks of a barrier. -/
def arrived (s : State) (c b : Nat) : Nat := bits (s.get (barField c b)) (16 * (b % 4) + 15) (16 * (b % 4))
def members (s : State) (c b : Nat) : Nat := bits (s.get (maskField c b)) (16 * (b % 4) + 15) (16 * (b % 4))

def State.putArrived (s : State) (c b m : Nat) : State :=
  s.put (barField c b) (setBits (s.get (barField c b)) (16 * (b % 4) + 15) (16 * (b % 4)) m)
def State.putMembers (s : State) (c b m : Nat) : State :=
  s.put (maskField c b) (setBits (s.get (maskField c b)) (16 * (b % 4) + 15) (16 * (b % 4)) m)

/-- A semaphore's count. -/
def semCount (s : State) (c m : Nat) : Nat := bits (s.get (CIRQ_SEM_COUNT c (m / 4))) (16 * (m % 4) + 15) (16 * (m % 4))
def State.putSem (s : State) (c m v : Nat) : State :=
  s.put (CIRQ_SEM_COUNT c (m / 4)) (setBits (s.get (CIRQ_SEM_COUNT c (m / 4))) (16 * (m % 4) + 15) (16 * (m % 4)) v)

def semWaiters (s : State) (c m : Nat) : List (Nat × Nat) := NMap.getD s.eng.semQ (32 * c + m) []

/-- Neighbour stores still on their way may complete at any time (R187; log entry 2). -/
def State.nbrDrain (s : State) (e : Nat) : State :=
  if (engOf s e).nst = [] then s
  else
    let (go, s) := s.draw 1
    if go then s.flushNbr e else s

/-- An instruction retired: the next index, the counters. -/
def State.retireI (s : State) (e npc : Nat) : State :=
  let s := s.nbrDrain e
  let x := engOf s e
  (((s.setEng e { x with pc := npc % 2 ^ 64, from_ := x.pc, wait := none }).bump (ENG_RETIRED_RETIRED e) 1).cycles e).showEng e

/-- A waiting engine goes on past the instruction it waits at. -/
def State.resume (s : State) (e : Nat) : State := (s.putSt e 2).retireI e ((engOf s e).pc + 1)

/-- Whether an engine is a participant that no longer can arrive: halted or faulted (R185). -/
def gone (s : State) (e : Nat) : Bool := !engBusy s e

/-- Whether some participant of a barrier has halted or faulted. -/
def brokenBar (s : State) (c b : Nat) : Bool :=
  (List.range 16).any fun j => bit (members s c b) j && gone s (16 * c + j) && !bit (arrived s c b) j

/-- BARRIER_RELEASE (R185): the arrived mask equals the participant mask, and every waiter is released; where a
participant has halted or faulted, a waiter faults with SYNC. -/
def execBarrierRelease (cirq b : Nat) (s : State) : Host.Outcome State Fault Refusal :=
  let c := cirq % 16
  let b := b % 8
  let ws := (range' (16 * c) 16).filter fun e => engSt s e = 3 && (engOf s e).wait == some (.bar b)
  if arrived s c b ≠ 0 ∧ arrived s c b = members s c b then .next (ws.foldl State.resume (s.putArrived c b 0))
  else if brokenBar s c b then
    .next (ws.foldl (fun s e => if engSt s e = 3 then s.engFault e (faultOf ecSync (engOf s e).pc 0) else s) s)
  else .next s

/-- SEMWAIT_GRANT (R186): the waiter at the head takes its n. -/
def execSemwaitGrant (cirq m : Nat) (s : State) : Host.Outcome State Fault Refusal :=
  let c := cirq % 16
  let m := m % 32
  match semWaiters s c m with
  | [] => .next s
  | (e, n) :: rest =>
    if n ≤ semCount s c m then
      let s := s.putSem c m (semCount s c m - n)
      let s := { s with eng := { s.eng with semQ := NMap.insert s.eng.semQ (32 * c + m) rest } }
      .next (if engSt s e = 3 then s.resume e else s)
    else .next s

/-- Whether what an engine waits for has come. -/
def waitOver (x : Eng) : Bool :=
  match x.wait with
  | some (.tag t) => !tagOut x t
  | some .all => tagsOut x = 0
  | some (.most n) => tagsOut x ≤ n
  | some .halt => tagsOut x = 0
  | _ => false

/-- HALT's end (R190): the exit value kept, the engine IDLE. -/
def State.haltNow (s : State) (e exit : Nat) : State :=
  ((s.put (ENG_EXIT_EXIT e) exit).retireI e ((engOf s e).pc + 1)).engEnd e 0

/-- A scalar register; s0 reads zero. -/
def sreg (x : Eng) (n : Nat) : Nat := if n = 0 then 0 else NMap.getD x.s n 0 % 2 ^ 64

/-- WAIT_SATISFIED (R230, R190): TWAIT, TWAITALL, TWAITN, and the tag drain of HALT. -/
def execWaitSatisfied (e : Nat) (s : State) : Host.Outcome State Fault Refusal :=
  let x := engOf s e
  if engSt s e = 3 ∧ waitOver x then
    if x.wait = some .halt then .next (s.haltNow e (sreg x (bits (x.imem.getD x.pc 0) 41 37)))
    else .next (s.resume e)
  else .next s

end Sys2Proof.Machine
end

