-- ==== Sys2Proof/Machine/EngIns.lean ====
section
/-! DEFINITION. The engine instruction word and what every instruction shares: decode checks, predication,
retirement, faults (R213 to R220, R232); control flow, scalar, predicate and vector instructions (Tables 10.3 to
10.9). -/

namespace Sys2Proof

/-! The fields of a word as numbers, RC and X of the R layout (R213). -/

def Ins.rc (w : Ins) : Nat := Machine.bits w.imm.toNat 31 27
def Ins.x (w : Ins) : Nat := Machine.bits w.imm.toNat 26 0
def Ins.f (w : Ins) : Nat := w.f4.toNat
def Ins.d (w : Ins) : Nat := w.rd.toNat
def Ins.a (w : Ins) : Nat := w.ra.toNat
def Ins.b (w : Ins) : Nat := w.rb.toNat

/-- IMM sign-extended to 64 bits. -/
def Ins.i (w : Ins) : Nat := (BitVec.signExtend 64 w.imm).toNat

end Sys2Proof

namespace Sys2Proof.Machine

open Reg

/-! The word (Table 10.1). -/

/-- The instruction word of a class, an operation and its fields. -/
def wordOf (cls op : Nat) (w : Ins) : Nat :=
  cls * 2 ^ 59 + op * 2 ^ 55 + w.p.toNat * 2 ^ 52 + w.n.toNat * 2 ^ 51 + w.f4.toNat * 2 ^ 47 + w.rd.toNat * 2 ^ 42 +
    w.ra.toNat * 2 ^ 37 + w.rb.toNat * 2 ^ 32 + w.imm.toNat

/-- CLASS, OP and the fields of a word. -/
def wordClass (x : Nat) : Nat := bits x 63 59
def wordOp (x : Nat) : Nat := bits x 58 55
def insOf (x : Nat) : Ins :=
  { p := BitVec.ofNat 3 (bits x 54 52), n := BitVec.ofNat 1 (bits x 51 51), f4 := BitVec.ofNat 4 (bits x 50 47),
    rd := BitVec.ofNat 5 (bits x 46 42), ra := BitVec.ofNat 5 (bits x 41 37), rb := BitVec.ofNat 5 (bits x 36 32),
    imm := BitVec.ofNat 32 (bits x 31 0) }

/-- How many OP values from 0 a class has (R251); 0 for a reserved class. -/
def opsOf (c : Nat) : Nat :=
  [6, 13, 14, 7, 8, 0, 0, 0, 10, 10, 0, 0, 12, 2, 2, 10, 2, 4, 3, 6, 1, 2, 13, 2, 4].getD c 0

/-- A reserved CLASS or OP (R215, R251). -/
def reservedWord (x : Nat) : Bool := opsOf (wordClass x) ≤ wordOp x || (wordClass x == 0x0c && wordOp x == 7)

/-! Registers (R216, Table 8.1). -/

/-- A register map with a value written; zero is not listed. -/
def putReg (m : NMap Nat) (n v : Nat) : NMap Nat := if v = 0 then NMap.erase m n else NMap.insert m n v

/-- A scalar register written; s0 discards. -/
def Eng.setS (x : Eng) (n v : Nat) : Eng := if n = 0 then x else { x with s := putReg x.s n (v % 2 ^ 64) }

/-- A predicate; p0 reads 1. -/
def preg (x : Eng) (n : Nat) : Bool := n % 8 = 0 || NMap.getD x.p (n % 8) 0 != 0

def Eng.setP (x : Eng) (n : Nat) (v : Bool) : Eng := if n % 8 = 0 then x else { x with p := putReg x.p (n % 8) (b2n v) }

/-- A vector register of 1,024 bits. -/
def vreg (x : Eng) (n : Nat) : Nat := NMap.getD x.v n 0 % 2 ^ 1024

def Eng.setV (x : Eng) (n v : Nat) : Eng := { x with v := putReg x.v n (v % 2 ^ 1024) }

/-! The frame of an instruction. -/

/-- The instruction at an engine's PC is this word, and the engine runs. -/
def atWord (s : State) (e cls op : Nat) (w : Ins) : Bool :=
  let x := engOf s e
  !shut s && running s e && x.pc < x.prog && x.imem.getD x.pc 0 == wordOf cls op w

/-- p[PRED] xor PN (R217). -/
def predOn (x : Eng) (w : Ins) : Bool := preg x w.p.toNat != (w.n.toNat == 1)

/-- An engine with new registers retires its instruction. -/
def State.retireWith (s : State) (e : Nat) (x : Eng) : State := (s.setEng e x).retireI e (x.pc + 1)

/-- A precise fault at the instruction (R232). -/
def State.preciseFault (s : State) (e cause addr : Nat) : State := s.engFault e (faultOf cause (engOf s e).pc addr)

/-- One instruction: nothing where the engine is not at this word; ILLEGAL where its encoding breaks R215, whatever
its predicate; predicated off, it retires with no effect; else `body` (R171, R215, R217). -/
def runI (e cls op : Nat) (w : Ins) (legal : Bool) (body : Eng → State → State) (s : State) :
    Host.Outcome State Fault Refusal :=
  if atWord s e cls op w then
    let x := engOf s e
    if !legal then .next (s.preciseFault e ecIllegal 0)
    else if !predOn x w then .next (s.retireI e (x.pc + 1))
    else .next (body x s)
  else .next s

/-- ENGINE_FAULT: a fetch past the program (R189, R220), a reserved CLASS or OP (R215), or an uncorrectable
instruction-memory word (R175). -/
def execEngineFault (e : Nat) (unit : Bool) (s : State) : Host.Outcome State Fault Refusal :=
  let x := engOf s e
  if unit then
    if 1 ≤ engSt s e ∧ engSt s e ≤ 4 then .next (s.engFault e (faultOf ecUnit x.pc 0)) else .next s
  else if running s e then
    if x.prog ≤ x.pc then .next (s.engFault e (faultOf ecPcRange x.from_ 0))
    else if reservedWord (x.imem.getD x.pc 0) then .next (s.preciseFault e ecIllegal 0)
    else .next s
  else .next s

/-! Control flow (Table 10.3). -/

/-- COND of Table 10.5. -/
def condHolds (c a b : Nat) : Bool :=
  if c = 0 then a == b
  else if c = 1 then a != b
  else if c = 2 then toInt 64 a < toInt 64 b
  else if c = 3 then !(toInt 64 a < toInt 64 b : Bool)
  else if c = 4 then a < b
  else !(a < b : Bool)

def execINop (e : Nat) (w : Ins) (s : State) : Host.Outcome State Fault Refusal :=
  runI e 0 0 w (w.f == 0 && w.d == 0 && w.a == 0 && w.b == 0 && w.imm == 0) (fun x s => s.retireWith e x) s

def execIBr (e : Nat) (w : Ins) (s : State) : Host.Outcome State Fault Refusal :=
  runI e 0 1 w (w.f == 0 && w.d == 0 && w.a == 0 && w.b == 0) (fun x s => s.retireI e (x.pc + w.i)) s

def execICb (e : Nat) (w : Ins) (s : State) : Host.Outcome State Fault Refusal :=
  runI e 0 2 w (w.f < 6 && w.d == 0)
    (fun x s => s.retireI e (if condHolds w.f (sreg x w.a) (sreg x w.b) then x.pc + w.i else x.pc + 1)) s

def execIJal (e : Nat) (w : Ins) (s : State) : Host.Outcome State Fault Refusal :=
  runI e 0 3 w (w.f == 0 && w.a == 0 && w.b == 0)
    (fun x s => (s.setEng e (x.setS w.d (x.pc + 1))).retireI e (x.pc + w.i)) s

def execIJr (e : Nat) (w : Ins) (s : State) : Host.Outcome State Fault Refusal :=
  runI e 0 4 w (w.f == 0 && w.d == 0 && w.b == 0) (fun x s => s.retireI e (sreg x w.a + w.i)) s

/-- HALT (R190): it waits for every tag. -/
def execIHalt (e : Nat) (w : Ins) (s : State) : Host.Outcome State Fault Refusal :=
  runI e 0 5 w (w.f == 0 && w.d == 0 && w.b == 0 && w.imm == 0)
    (fun x s => if tagsOut x = 0 then s.haltNow e (sreg x w.a)
      else (s.setEng e { x with wait := some .halt }).putSt e 3) s

/-! Scalar instructions (Tables 10.4 and 10.6). -/

/-- SALU and SALUI operations by OP (R221), 64-bit operands. -/
def salu (op a b : Nat) : Nat :=
  let k := b % 64
  if op = 0 then a + b
  else if op = 1 then a + (2 ^ 64 - b)
  else if op = 2 then Nat.land a b
  else if op = 3 then Nat.lor a b
  else if op = 4 then Nat.xor a b
  else if op = 5 then a * 2 ^ k
  else if op = 6 then a / 2 ^ k
  else if op = 7 then ((BitVec.ofNat 64 a).sshiftRight k).toNat
  else if op = 8 then (if toInt 64 b < toInt 64 a then b else a)
  else if op = 9 then (if toInt 64 a < toInt 64 b then b else a)
  else if op = 10 then min a b
  else max a b

/-- A SALU instruction. -/
def runSalu (e op : Nat) (w : Ins) (s : State) : Host.Outcome State Fault Refusal :=
  runI e 1 op w (w.f == 0 && w.imm == 0) (fun x s => s.retireWith e (x.setS w.d (salu op (sreg x w.a) (sreg x w.b)))) s

/-- A SALUI instruction. -/
def runSalui (e op : Nat) (w : Ins) (s : State) : Host.Outcome State Fault Refusal :=
  runI e 2 op w (w.f == 0 && w.b == 0) (fun x s => s.retireWith e (x.setS w.d (salu op (sreg x w.a) w.i))) s

def execIAdd (e : Nat) (w : Ins) (s : State) : Host.Outcome State Fault Refusal := runSalu e 0 w s
def execISub (e : Nat) (w : Ins) (s : State) : Host.Outcome State Fault Refusal := runSalu e 1 w s
def execIAnd (e : Nat) (w : Ins) (s : State) : Host.Outcome State Fault Refusal := runSalu e 2 w s
def execIOr (e : Nat) (w : Ins) (s : State) : Host.Outcome State Fault Refusal := runSalu e 3 w s
def execIXor (e : Nat) (w : Ins) (s : State) : Host.Outcome State Fault Refusal := runSalu e 4 w s
def execIShl (e : Nat) (w : Ins) (s : State) : Host.Outcome State Fault Refusal := runSalu e 5 w s
def execIShr (e : Nat) (w : Ins) (s : State) : Host.Outcome State Fault Refusal := runSalu e 6 w s
def execISra (e : Nat) (w : Ins) (s : State) : Host.Outcome State Fault Refusal := runSalu e 7 w s
def execIMin (e : Nat) (w : Ins) (s : State) : Host.Outcome State Fault Refusal := runSalu e 8 w s
def execIMax (e : Nat) (w : Ins) (s : State) : Host.Outcome State Fault Refusal := runSalu e 9 w s
def execIMinu (e : Nat) (w : Ins) (s : State) : Host.Outcome State Fault Refusal := runSalu e 10 w s
def execIMaxu (e : Nat) (w : Ins) (s : State) : Host.Outcome State Fault Refusal := runSalu e 11 w s

def execISel (e : Nat) (w : Ins) (s : State) : Host.Outcome State Fault Refusal :=
  runI e 1 12 w (w.f == 0 && w.x == 0 && w.rc < 8)
    (fun x s => s.retireWith e (x.setS w.d (if preg x w.rc then sreg x w.a else sreg x w.b))) s

def execIAddi (e : Nat) (w : Ins) (s : State) : Host.Outcome State Fault Refusal := runSalui e 0 w s
def execISubi (e : Nat) (w : Ins) (s : State) : Host.Outcome State Fault Refusal := runSalui e 1 w s
def execIAndi (e : Nat) (w : Ins) (s : State) : Host.Outcome State Fault Refusal := runSalui e 2 w s
def execIOri (e : Nat) (w : Ins) (s : State) : Host.Outcome State Fault Refusal := runSalui e 3 w s
def execIXori (e : Nat) (w : Ins) (s : State) : Host.Outcome State Fault Refusal := runSalui e 4 w s
def execIShli (e : Nat) (w : Ins) (s : State) : Host.Outcome State Fault Refusal := runSalui e 5 w s
def execIShri (e : Nat) (w : Ins) (s : State) : Host.Outcome State Fault Refusal := runSalui e 6 w s
def execISrai (e : Nat) (w : Ins) (s : State) : Host.Outcome State Fault Refusal := runSalui e 7 w s
def execIMini (e : Nat) (w : Ins) (s : State) : Host.Outcome State Fault Refusal := runSalui e 8 w s
def execIMaxi (e : Nat) (w : Ins) (s : State) : Host.Outcome State Fault Refusal := runSalui e 9 w s
def execIMinui (e : Nat) (w : Ins) (s : State) : Host.Outcome State Fault Refusal := runSalui e 10 w s
def execIMaxui (e : Nat) (w : Ins) (s : State) : Host.Outcome State Fault Refusal := runSalui e 11 w s

def execILi (e : Nat) (w : Ins) (s : State) : Host.Outcome State Fault Refusal :=
  runI e 2 12 w (w.f == 0 && w.a == 0 && w.b == 0) (fun x s => s.retireWith e (x.setS w.d w.i)) s

def execILih (e : Nat) (w : Ins) (s : State) : Host.Outcome State Fault Refusal :=
  runI e 2 13 w (w.f == 0 && w.b == 0)
    (fun x s => s.retireWith e (x.setS w.d (w.imm.toNat * 2 ^ 32 + sreg x w.a % 2 ^ 32))) s

/-- SMUL operations by OP (R222). -/
def smul (op a b : Nat) : Nat :=
  let p : Int := toInt 64 a * toInt 64 b
  let ones := 2 ^ 64 - 1
  let i64 := fun (v : Int) => (v % (2 ^ 64 : Int)).toNat
  if op = 0 then a * b
  else if op = 1 then i64 (p / (2 ^ 64 : Int))
  else if op = 2 then a * b / 2 ^ 64
  else if op = 3 then (if b = 0 then ones else i64 ((toInt 64 a).tdiv (toInt 64 b)))
  else if op = 4 then (if b = 0 then ones else a / b)
  else if op = 5 then (if b = 0 then a else i64 ((toInt 64 a).tmod (toInt 64 b)))
  else (if b = 0 then a else a % b)

/-- An SMUL instruction. -/
def runSmul (e op : Nat) (w : Ins) (s : State) : Host.Outcome State Fault Refusal :=
  runI e 3 op w (w.f == 0 && w.imm == 0) (fun x s => s.retireWith e (x.setS w.d (smul op (sreg x w.a) (sreg x w.b)))) s

def execIMul (e : Nat) (w : Ins) (s : State) : Host.Outcome State Fault Refusal := runSmul e 0 w s
def execIMulh (e : Nat) (w : Ins) (s : State) : Host.Outcome State Fault Refusal := runSmul e 1 w s
def execIMulhu (e : Nat) (w : Ins) (s : State) : Host.Outcome State Fault Refusal := runSmul e 2 w s
def execIDiv (e : Nat) (w : Ins) (s : State) : Host.Outcome State Fault Refusal := runSmul e 3 w s
def execIDivu (e : Nat) (w : Ins) (s : State) : Host.Outcome State Fault Refusal := runSmul e 4 w s
def execIRem (e : Nat) (w : Ins) (s : State) : Host.Outcome State Fault Refusal := runSmul e 5 w s
def execIRemu (e : Nat) (w : Ins) (s : State) : Host.Outcome State Fault Refusal := runSmul e 6 w s

/-! Predicates (Table 10.7). -/

def execIPcmp (e : Nat) (w : Ins) (s : State) : Host.Outcome State Fault Refusal :=
  runI e 4 0 w (w.f < 6 && w.d < 8 && w.imm == 0)
    (fun x s => s.retireWith e (x.setP w.d (condHolds w.f (sreg x w.a) (sreg x w.b)))) s

def execIPcmpi (e : Nat) (w : Ins) (s : State) : Host.Outcome State Fault Refusal :=
  runI e 4 1 w (w.f < 6 && w.d < 8 && w.b == 0) (fun x s => s.retireWith e (x.setP w.d (condHolds w.f (sreg x w.a) w.i))) s

/-- A predicate operation of two predicates. -/
def runPlog (e op : Nat) (f : Bool → Bool → Bool) (w : Ins) (s : State) : Host.Outcome State Fault Refusal :=
  runI e 4 op w (w.f == 0 && w.d < 8 && w.a < 8 && w.b < 8 && w.imm == 0)
    (fun x s => s.retireWith e (x.setP w.d (f (preg x w.a) (preg x w.b)))) s

def execIPand (e : Nat) (w : Ins) (s : State) : Host.Outcome State Fault Refusal := runPlog e 2 (· && ·) w s
def execIPor (e : Nat) (w : Ins) (s : State) : Host.Outcome State Fault Refusal := runPlog e 3 (· || ·) w s
def execIPxor (e : Nat) (w : Ins) (s : State) : Host.Outcome State Fault Refusal := runPlog e 4 (· != ·) w s
def execIPandn (e : Nat) (w : Ins) (s : State) : Host.Outcome State Fault Refusal := runPlog e 5 (fun a b => a && !b) w s

def execIPtos (e : Nat) (w : Ins) (s : State) : Host.Outcome State Fault Refusal :=
  runI e 4 6 w (w.f == 0 && w.a < 8 && w.b == 0 && w.imm == 0) (fun x s => s.retireWith e (x.setS w.d (b2n (preg x w.a)))) s

def execIStop (e : Nat) (w : Ins) (s : State) : Host.Outcome State Fault Refusal :=
  runI e 4 7 w (w.f == 0 && w.d < 8 && w.b == 0 && w.imm == 0) (fun x s => s.retireWith e (x.setP w.d (sreg x w.a != 0))) s

/-! Vector arithmetic (Table 10.8, R208, R224, R225). -/

/-- Lanes of a register by lane width, and the register of lanes. -/
def lanes (w v : Nat) : List Nat := (List.range (1024 / w)).map (elemAt w v)

/-- One lane operation on encodings, rounded once to the lane format (R208). -/
def lane2 (c : Nat) (f : FV → FV → FV) (a b : Nat) : Nat := encodeF .rne c (f (decodeF c a) (decodeF c b))
def lane3 (c : Nat) (a b d : Nat) : Nat := encodeF .rne c (((decodeF c a).mul (decodeF c b)).add (decodeF c d))

/-- A VARITH instruction whose lanes come from `f` of the engine's lanes and lane number. -/
def runVarith (e op : Nat) (w : Ins) (ok : Bool) (f : Eng → Nat → Nat) (s : State) : Host.Outcome State Fault Refusal :=
  runI e 8 op w (w.f < 5 && ok)
    (fun x s =>
      let b := fmtBits w.f
      let v := packElems b ((List.range (1024 / b)).map (f x))
      (s.engCount e (10 + w.f) (1024 / b)).retireWith e (x.setV w.d v)) s

/-- Lane `i` of the sources of an instruction, and the scalar operand's lane value. -/
def laneA (w : Ins) (x : Eng) (i : Nat) : Nat := elemAt (fmtBits w.f) (vreg x w.a) i
def laneB (w : Ins) (x : Eng) (i : Nat) : Nat := elemAt (fmtBits w.f) (vreg x w.b) i
def laneC (w : Ins) (x : Eng) (i : Nat) : Nat := elemAt (fmtBits w.f) (vreg x w.rc) i
def laneS (w : Ins) (x : Eng) : Nat := sreg x w.b % 2 ^ fmtBits w.f

/-- A VARITH instruction of two vectors. -/
def runVV (e op : Nat) (f : FV → FV → FV) (w : Ins) (s : State) : Host.Outcome State Fault Refusal :=
  runVarith e op w (w.imm == 0) (fun x i => lane2 w.f f (laneA w x i) (laneB w x i)) s

/-- A VARITH instruction of a vector and a scalar. -/
def runVS (e op : Nat) (f : FV → FV → FV) (w : Ins) (s : State) : Host.Outcome State Fault Refusal :=
  runVarith e op w (w.imm == 0) (fun x i => lane2 w.f f (laneA w x i) (laneS w x)) s

def execIVadd (e : Nat) (w : Ins) (s : State) : Host.Outcome State Fault Refusal := runVV e 0 FV.add w s
def execIVsub (e : Nat) (w : Ins) (s : State) : Host.Outcome State Fault Refusal := runVV e 1 (fun a b => a.add b.neg) w s
def execIVmul (e : Nat) (w : Ins) (s : State) : Host.Outcome State Fault Refusal := runVV e 2 FV.mul w s

def execIVfma (e : Nat) (w : Ins) (s : State) : Host.Outcome State Fault Refusal :=
  runVarith e 3 w (w.x == 0) (fun x i => lane3 w.f (laneA w x i) (laneB w x i) (laneC w x i)) s

def execIVmin (e : Nat) (w : Ins) (s : State) : Host.Outcome State Fault Refusal := runVV e 4 FV.min w s
def execIVmax (e : Nat) (w : Ins) (s : State) : Host.Outcome State Fault Refusal := runVV e 5 FV.max w s
def execIVadds (e : Nat) (w : Ins) (s : State) : Host.Outcome State Fault Refusal := runVS e 6 FV.add w s
def execIVmuls (e : Nat) (w : Ins) (s : State) : Host.Outcome State Fault Refusal := runVS e 7 FV.mul w s

def execIVfmas (e : Nat) (w : Ins) (s : State) : Host.Outcome State Fault Refusal :=
  runVarith e 8 w (w.x == 0) (fun x i => lane3 w.f (laneA w x i) (laneS w x) (laneC w x i)) s

/-- CMP of Table 10.8: a NaN satisfies only NE, and −0 equals +0. -/
def cmpHolds (c : Nat) (a b : FV) : Bool :=
  if c = 0 then a.eqv b
  else if c = 1 then !a.eqv b
  else if c = 2 then !a.isNan && !b.isNan && a.lt b
  else if c = 3 then !a.isNan && !b.isNan && !b.lt a
  else if c = 4 then !a.isNan && !b.isNan && b.lt a
  else !a.isNan && !b.isNan && !a.lt b

def execIVcmp (e : Nat) (w : Ins) (s : State) : Host.Outcome State Fault Refusal :=
  runVarith e 9 w (w.rc == 0 && w.x < 6)
    (fun x i => if cmpHolds w.x (decodeF w.f (laneA w x i)) (decodeF w.f (laneB w x i)) then 2 ^ fmtBits w.f - 1 else 0) s

/-! Vector logic and lane moves (Table 10.9, R226). -/

/-- A bitwise VBIT instruction. -/
def runVbit (e op : Nat) (w : Ins) (ok : Bool) (f : Eng → Nat) (s : State) : Host.Outcome State Fault Refusal :=
  runI e 9 op w (w.f == 0 && ok) (fun x s => s.retireWith e (x.setV w.d (f x))) s

def execIVand (e : Nat) (w : Ins) (s : State) : Host.Outcome State Fault Refusal :=
  runVbit e 0 w (w.imm == 0) (fun x => Nat.land (vreg x w.a) (vreg x w.b)) s
def execIVor (e : Nat) (w : Ins) (s : State) : Host.Outcome State Fault Refusal :=
  runVbit e 1 w (w.imm == 0) (fun x => Nat.lor (vreg x w.a) (vreg x w.b)) s
def execIVxor (e : Nat) (w : Ins) (s : State) : Host.Outcome State Fault Refusal :=
  runVbit e 2 w (w.imm == 0) (fun x => Nat.xor (vreg x w.a) (vreg x w.b)) s

/-- VSEL: (vA and vC) or (vB and not vC). -/
def execIVsel (e : Nat) (w : Ins) (s : State) : Host.Outcome State Fault Refusal :=
  runVbit e 3 w (w.x == 0)
    (fun x => Nat.lor (Nat.land (vreg x w.a) (vreg x w.rc)) (Nat.land (vreg x w.b) (2 ^ 1024 - 1 - vreg x w.rc))) s

def execIVmov (e : Nat) (w : Ins) (s : State) : Host.Outcome State Fault Refusal :=
  runVbit e 4 w (w.b == 0 && w.imm == 0) (fun x => vreg x w.a) s
def execIVzero (e : Nat) (w : Ins) (s : State) : Host.Outcome State Fault Refusal :=
  runVbit e 5 w (w.a == 0 && w.b == 0 && w.imm == 0) (fun _ => 0) s

/-- A lane-width format: any but FP6 (R226). -/
def laneFmt (c : Nat) : Bool := c < 10 && c != 5 && c != 6

def execIVbcast (e : Nat) (w : Ins) (s : State) : Host.Outcome State Fault Refusal :=
  runI e 9 6 w (laneFmt w.f && w.b == 0 && w.imm == 0)
    (fun x s =>
      let b := fmtBits w.f
      s.retireWith e (x.setV w.d (packElems b (List.replicate (1024 / b) (sreg x w.a))))) s

/-- The lane index of VEXT, VINS and VROT is within the register. -/
def laneOk (w : Ins) : Bool := laneFmt w.f && w.b == 0 && w.rc == 0 && w.x < 256 && w.x < 1024 / fmtBits w.f

def execIVext (e : Nat) (w : Ins) (s : State) : Host.Outcome State Fault Refusal :=
  runI e 9 7 w (laneOk w) (fun x s => s.retireWith e (x.setS w.d (elemAt (fmtBits w.f) (vreg x w.a) w.x))) s

def execIVins (e : Nat) (w : Ins) (s : State) : Host.Outcome State Fault Refusal :=
  runI e 9 8 w (laneOk w)
    (fun x s =>
      let b := fmtBits w.f
      let l := lanes b (vreg x w.d)
      s.retireWith e (x.setV w.d (packElems b (l.set w.x (sreg x w.a % 2 ^ b))))) s

def execIVrot (e : Nat) (w : Ins) (s : State) : Host.Outcome State Fault Refusal :=
  runI e 9 9 w (laneOk w)
    (fun x s =>
      let b := fmtBits w.f
      let n := 1024 / b
      s.retireWith e (x.setV w.d (packElems b ((List.range n).map fun i => elemAt b (vreg x w.a) ((i + w.x) % n))))) s

end Sys2Proof.Machine
end

