-- ==== Sys2Proof/Machine/EngAsync.lean ====
section
/-! DEFINITION. Engine instructions on stores and memory: neve-store access (R227, R228), asynchronous requests, atomics
and collectives (R229, R246 to R249), tag waits, barriers and semaphores (R230, R231), pointer conversion (R244, R245),
markers and counters (R250). -/

namespace Sys2Proof.Machine

open Reg

/-! Reading a neve store (R175, R182, R228). -/

/-- Store bytes that an outstanding request fills: a load's, an atomic's result, a reduction's result. -/
def fillOf : ATag → Option (Nat × Nat)
  | .out r => match r.kind with
    | .get => some (r.loc, r.len)
    | .atom _ _ ret => if ret then some (r.loc, 8) else none
    | .cred .. => some (r.loc, r.len)
    | _ => none
  | .kept .. => none

/-- Whether a store byte is being filled, so that a core read of it is undefined (R182 rule 3). -/
def filling (x : Eng) (a : Nat) : Bool :=
  x.tags.any fun (t : Nat × ATag) => match fillOf t.2 with
    | some (b, n) => b ≤ a && a < b + n
    | none => false

/-- `n` bytes of engine `o`'s store read by a core: free values where a load is filling them (log entry 2). -/
def coreRead (s : State) (o a n : Nat) : List Byte × State :=
  let x := engOf s o
  if (range' a n).any (filling x) then
    let (k, s) := s.take
    ((range' a n).map fun i => if filling x i then Config.freeByte k i else rdByte x.neve i, s)
  else (rdBytes x.neve a n, s)

/-! Neve-store access (R172, R187, R227). -/

/-- What an engine address reaches: the engine's own store, or by the cirque window the store of engine j of its cirque
in the current launch. -/
inductive NTarget where
  | own (a : Nat)
  | window (owner a : Nat)
  deriving DecidableEq, Repr

def targetOf (s : State) (e a : Nat) : Option NTarget :=
  if a < 0x100000 then some (.own a)
  else if 0x1000000 ≤ a ∧ a < 0x2000000 then
    let o := e / 16 * 16 + (a - 0x1000000) / 0x100000
    if (launchOf s e).any fun l => l.engines.contains o then some (.window o (a % 0x100000)) else none
  else none

/-- The address of an LDS or LDV instruction. -/
def ldAddr (x : Eng) (w : Ins) : Nat := (sreg x w.a + w.i) % 2 ^ 64

/-- The fault of a neve-store access of `n` bytes, or its target (R227, R232). -/
def ldTarget (s : State) (e : Nat) (w : Ins) (n : Nat) : Except Nat NTarget :=
  let a := ldAddr (engOf s e) w
  match targetOf s e a with
  | none => .error ecNeveRange
  | some t => if a % n ≠ 0 then .error ecAlign else .ok t

/-- Neighbour stores of an engine to one line of an owner, performed before a later access to that line (R187). -/
def State.flushLine (s : State) (e owner line : Nat) : State :=
  let x := engOf s e
  let (now, later) := x.nst.partition fun (n : NStore) => n.owner = owner && n.addr / 128 = line
  now.foldl State.nbrWrite (s.setEng e { x with nst := later })

/-- A load of `n` bytes: `f` makes the engine's new registers of the number they spell; a poisoned chunk faults (R175). -/
def runLoad (e cls op n : Nat) (w : Ins) (f : Eng → Nat → Eng) (s : State) : Host.Outcome State Fault Refusal :=
  runI e cls op w (w.f == 0 && w.b == 0)
    (fun x s => match ldTarget s e w n with
      | .error c => s.preciseFault e c (ldAddr x w)
      | .ok t =>
        let (o, a) := match t with
          | .own a => (e, a)
          | .window o a => (o, a)
        let s := match t with
          | .own _ => s
          | .window o a => s.flushLine e o (a / 128)
        if bytesPoisoned (engOf s o) a n then s.preciseFault e ecPoison (ldAddr x w)
        else
          let (l, s) := coreRead s o a n
          s.retireWith e (f (engOf s e) (leNat l))) s

/-- A store of `n` bytes: at once in the own store; through the window, at once or later (R187; log entry 2). -/
def runStore (e cls op n : Nat) (w : Ins) (v : Eng → Nat) (s : State) : Host.Outcome State Fault Refusal :=
  runI e cls op w (w.f == 0 && w.d == 0)
    (fun x s => match ldTarget s e w n with
      | .error c => s.preciseFault e c (ldAddr x w)
      | .ok (.own a) => s.retireWith e (x.wr a (natLe n (v x)) false)
      | .ok (.window o a) =>
        let st : NStore := ⟨o, a, natLe n (v x)⟩
        let (now, s) := s.draw 1
        if now then ((s.flushLine e o (a / 128)).nbrWrite st).retireI e (x.pc + 1)
        else s.retireWith e { x with nst := x.nst ++ [st] }) s

/-- A load into a scalar register, signed or not. -/
def runLds (e op n : Nat) (sgn : Bool) (w : Ins) (s : State) : Host.Outcome State Fault Refusal :=
  runLoad e 0x0c op n w
    (fun x v => x.setS w.d (if sgn then ((toInt (8 * n) v) % (2 ^ 64 : Int)).toNat else v)) s

def execILdb (e : Nat) (w : Ins) (s : State) : Host.Outcome State Fault Refusal := runLds e 0 1 true w s
def execILdbu (e : Nat) (w : Ins) (s : State) : Host.Outcome State Fault Refusal := runLds e 1 1 false w s
def execILdh (e : Nat) (w : Ins) (s : State) : Host.Outcome State Fault Refusal := runLds e 2 2 true w s
def execILdhu (e : Nat) (w : Ins) (s : State) : Host.Outcome State Fault Refusal := runLds e 3 2 false w s
def execILdw (e : Nat) (w : Ins) (s : State) : Host.Outcome State Fault Refusal := runLds e 4 4 true w s
def execILdwu (e : Nat) (w : Ins) (s : State) : Host.Outcome State Fault Refusal := runLds e 5 4 false w s
def execILdd (e : Nat) (w : Ins) (s : State) : Host.Outcome State Fault Refusal := runLds e 6 8 false w s
def execIStb (e : Nat) (w : Ins) (s : State) : Host.Outcome State Fault Refusal := runStore e 0x0c 8 1 w (fun x => sreg x w.b) s
def execISth (e : Nat) (w : Ins) (s : State) : Host.Outcome State Fault Refusal := runStore e 0x0c 9 2 w (fun x => sreg x w.b) s
def execIStw (e : Nat) (w : Ins) (s : State) : Host.Outcome State Fault Refusal := runStore e 0x0c 10 4 w (fun x => sreg x w.b) s
def execIStd (e : Nat) (w : Ins) (s : State) : Host.Outcome State Fault Refusal := runStore e 0x0c 11 8 w (fun x => sreg x w.b) s
def execIVld (e : Nat) (w : Ins) (s : State) : Host.Outcome State Fault Refusal :=
  runLoad e 0x0d 0 128 w (fun x v => x.setV w.d v) s
def execIVst (e : Nat) (w : Ins) (s : State) : Host.Outcome State Fault Refusal :=
  runStore e 0x0d 1 128 w (fun x => vreg x w.b) s

/-! Asynchronous requests: one shape for AGET, APUT, ATOM and COLL (R229, R246, R248). -/

def isAtom (cls : Nat) : Bool := cls == 0x16
def isColl (cls : Nat) : Bool := cls == 0x17

/-- The tag an instruction names. -/
def asyncTag (x : Eng) (cls : Nat) (w : Ins) : Nat :=
  if cls = 0x0e then (sreg x w.rc + bits w.x 19 11) % 512 else w.x % 512

/-- Bytes of the local operand or of the result. -/
def asyncLen (cls : Nat) (w : Ins) : Nat :=
  if isColl cls then 128 * (bits w.x 11 9 + 1) else if isAtom cls then 8 else bits w.x 10 0 + 1

/-- The ATOMIC operation word (Table 14.1) of an ATOM instruction. -/
def atomArg (x : Eng) (op : Nat) (w : Ins) : Nat :=
  op + 16 * w.f + (if bits w.x 10 9 = 3 then 256 else 0) + (if op = 9 then sreg x (bits w.x 26 22) * 2 ^ 64 else 0)

/-- Encodings that R215, R246 and R248 allow. -/
def asyncLegal (cls op : Nat) (w : Ins) : Bool :=
  if cls = 0x0e then w.f == 0 && w.d == 0 && bits w.x 26 20 == 0
  else if isAtom cls then
    let width := bits w.x 10 9
    let float := 10 ≤ op
    (if float then w.f < 3 && width == 0 else w.f == 0 && 2 ≤ width) && w.d == 0 && bits w.x 21 12 == 0 &&
    (op == 9 || bits w.x 26 22 == 0) && (bits w.x 11 11 == 0 || w.rc == 0)
  else
    w.d == 0 && bits w.x 26 12 == 0 && (if op = 0 then w.f < 5 else w.f == 0 && w.rc == 0)

/-- A range within the local store (R229, R235). -/
def inLocal (a n : Nat) : Bool := a + n ≤ 0x100000

/-- Whether a request's pool range crosses a 2 MiB boundary, or a 64 KiB one under a 64 KiB entry (R181). -/
def crosses (s : State) (e a n : Nat) : Bool :=
  let ctx := engCtx s e
  let small := isVirtual s ctx && (match cached s e ctx a with
    | some y => y.small
    | none => (NMap.find s.xlt.ctxs ctx).any fun c => (c.entryAt (a / 65536)).any fun p => p.2.small)
  a / 2097152 != (a + n - 1) / 2097152 || (small && a / 65536 != (a + n - 1) / 65536)

/-- The precise fault of a request, in the order of R229, R246 and R248, with the store address it records. -/
def asyncFault (s : State) (e cls op : Nat) (w : Ins) : Option (Nat × Nat) :=
  let x := engOf s e
  let a := sreg x w.a
  let b := sreg x w.b
  let c := sreg x w.rc
  let n := asyncLen cls w
  if cls = 0x0e then
    if !inLocal a n then some (ecNeveRange, a)
    else if a % 128 ≠ b % 128 ∨ crosses s e b n then some (ecAlign, a) else none
  else if isAtom cls then
    let ret := bits w.x 11 11 = 0
    if ret ∧ !inLocal c 8 then some (ecNeveRange, c)
    else if (ret ∧ c % 8 ≠ 0) ∨ b % atomicSize (atomArg x op w) ≠ 0 then some (ecAlign, c) else none
  else if !inLocal a n then some (ecNeveRange, a)
  else if op = 0 ∧ !inLocal c n then some (ecNeveRange, c)
  else if a % 128 ≠ 0 then some (ecAlign, a)
  else if op = 0 ∧ c % 128 ≠ 0 then some (ecAlign, c)
  else none

/-- The request packet of a collective contribution (R248, R288). -/
def collPkt (s : State) (e op : Nat) (w : Ins) (group chunk : Nat) (data : List Byte) (bad : Bool) : Pkt :=
  let g := NMap.find s.fab.groups group
  let contrib := ((g.map Group.engBase).getD 0 + e) % 256
  { request s (if op = 0 then 0x10 else 0x12) 3 ((g.map Group.rootAgent).getD s.self) (engTenant s e) with
    arg := group + chunk * 2 ^ 16 + contrib * 2 ^ 32 + w.f * 2 ^ 40
    len := data.length
    payload := data
    poison := bad
    tenEpoch := (NMap.find s.sec.tenants (engTenant s e)).elim 0 TenRec.cur }

/-- A request issued on its free tag: its source bytes are read now (R182 rule 2). -/
def State.issueAsync (s : State) (e cls op : Nat) (w : Ins) : State :=
  let x := engOf s e
  let t := asyncTag x cls w
  let n := asyncLen cls w
  let a := sreg x w.a
  let b := sreg x w.b
  let base : AReq := ⟨.get, a, b, n, [], [], false, none, [], [], 0⟩
  let bad := (chunksOf a n).filter fun c => x.poison.contains c
  if cls = 0x0e ∧ op = 0 then s.issueReq e t base
  else if cls = 0x0e then
    let (l, s) := coreRead s e a n
    s.issueReq e t { base with kind := .put, data := l, poison := bad }
  else if isAtom cls then
    let arg := atomArg x op w
    (s.engCount e 19 1).issueReq e t
      { base with kind := .atom arg a (bits w.x 11 11 = 0), loc := sreg x w.rc, len := atomicSize arg }
  else
    let (l, s) := coreRead s e a n
    let group := b % 512
    let chunk := bits b 31 16
    let kind := if op = 0 then AKind.cred group chunk w.f else AKind.cgath group chunk
    let s := (s.engCount e 20 n).setReq e t
      { base with kind := kind, loc := sreg x w.rc, pool := 0, lines := [⟨0, 0, n, .remote, false⟩] }
    s.sendReq (collPkt s e op w group chunk l (bad ≠ [])) (.engine e t 0)

/-- A request at issue: its faults, then its tag, on which it may wait (R181, R229). -/
def State.async (s : State) (e cls op : Nat) (w : Ins) : State :=
  let x := engOf s e
  match asyncFault s e cls op w with
  | some (c, a) => s.preciseFault e c a
  | none =>
    let t := asyncTag x cls w
    if tagOut x t then (s.setEng e { x with wait := some (.hold t) }).putSt e 3
    else
      let s := (s.putSt e 2).issueAsync e cls op w
      s.retireI e (x.pc + 1)

/-- An ASYNC, ATOM or COLL instruction. -/
def runAsync (e cls op : Nat) (w : Ins) (s : State) : Host.Outcome State Fault Refusal :=
  runI e cls op w (asyncLegal cls op w) (fun _ s => s.async e cls op w) s

def execIAget (e : Nat) (w : Ins) (s : State) : Host.Outcome State Fault Refusal := runAsync e 0x0e 0 w s
def execIAput (e : Nat) (w : Ins) (s : State) : Host.Outcome State Fault Refusal := runAsync e 0x0e 1 w s
def execIAadd (e : Nat) (w : Ins) (s : State) : Host.Outcome State Fault Refusal := runAsync e 0x16 0 w s
def execIAand (e : Nat) (w : Ins) (s : State) : Host.Outcome State Fault Refusal := runAsync e 0x16 1 w s
def execIAor (e : Nat) (w : Ins) (s : State) : Host.Outcome State Fault Refusal := runAsync e 0x16 2 w s
def execIAxor (e : Nat) (w : Ins) (s : State) : Host.Outcome State Fault Refusal := runAsync e 0x16 3 w s
def execIAmin (e : Nat) (w : Ins) (s : State) : Host.Outcome State Fault Refusal := runAsync e 0x16 4 w s
def execIAmax (e : Nat) (w : Ins) (s : State) : Host.Outcome State Fault Refusal := runAsync e 0x16 5 w s
def execIAminu (e : Nat) (w : Ins) (s : State) : Host.Outcome State Fault Refusal := runAsync e 0x16 6 w s
def execIAmaxu (e : Nat) (w : Ins) (s : State) : Host.Outcome State Fault Refusal := runAsync e 0x16 7 w s
def execIAswap (e : Nat) (w : Ins) (s : State) : Host.Outcome State Fault Refusal := runAsync e 0x16 8 w s
def execIAcas (e : Nat) (w : Ins) (s : State) : Host.Outcome State Fault Refusal := runAsync e 0x16 9 w s
def execIAfadd (e : Nat) (w : Ins) (s : State) : Host.Outcome State Fault Refusal := runAsync e 0x16 10 w s
def execIAfmin (e : Nat) (w : Ins) (s : State) : Host.Outcome State Fault Refusal := runAsync e 0x16 11 w s
def execIAfmax (e : Nat) (w : Ins) (s : State) : Host.Outcome State Fault Refusal := runAsync e 0x16 12 w s
def execICred (e : Nat) (w : Ins) (s : State) : Host.Outcome State Fault Refusal := runAsync e 0x17 0 w s
def execICgath (e : Nat) (w : Ins) (s : State) : Host.Outcome State Fault Refusal := runAsync e 0x17 1 w s

/-- TAG_HOLD_RELEASE (R181, R229): the tag that a request was held by has completed, and the request issues. -/
def execTagHoldRelease (e : Nat) (s : State) : Host.Outcome State Fault Refusal :=
  let x := engOf s e
  match x.wait with
  | some (.hold t) =>
    if engSt s e = 3 ∧ ¬ tagOut x t then
      let word := x.imem.getD x.pc 0
      let s := (s.setEng e { x with wait := none }).putSt e 2
      .next (s.async e (wordClass word) (wordOp word) (insOf word))
    else .next s
  | _ => .next s

/-! Tag waits, barriers and semaphores (Table 10.12). -/

/-- A wait that ends at once, or holds the engine. -/
def State.waitFor (s : State) (e : Nat) (x : Eng) (wt : EWait) : State :=
  let y := { x with wait := some wt }
  if waitOver y then s.retireI e (x.pc + 1) else (s.setEng e y).putSt e 3

/-- The tag field of TWAIT and TSTAT. -/
def syncTag (x : Eng) (w : Ins) : Nat := (sreg x w.rc + bits w.x 8 0) % 512

def execITwait (e : Nat) (w : Ins) (s : State) : Host.Outcome State Fault Refusal :=
  runI e 0x0f 0 w (w.f == 0 && w.d == 0 && w.a == 0 && w.b == 0 && w.x < 512)
    (fun x s => s.waitFor e x (.tag (syncTag x w))) s

def execITwaitall (e : Nat) (w : Ins) (s : State) : Host.Outcome State Fault Refusal :=
  runI e 0x0f 1 w (w.f == 0 && w.d == 0 && w.a == 0 && w.b == 0 && w.imm == 0) (fun x s => s.waitFor e x .all) s

def execITwaitn (e : Nat) (w : Ins) (s : State) : Host.Outcome State Fault Refusal :=
  runI e 0x0f 2 w (w.f == 0 && w.d == 0 && w.a == 0 && w.b == 0 && w.rc == 0 && w.x < 512)
    (fun x s => s.waitFor e x (.most w.x)) s

/-- What TSTAT reads of a tag. -/
def tagWord (x : Eng) (t : Nat) : Nat := match NMap.find x.tags t with
  | some (.out _) => 256
  | some (.kept st _) => st
  | none => 0

def execITstat (e : Nat) (w : Ins) (s : State) : Host.Outcome State Fault Refusal :=
  runI e 0x0f 3 w (w.f == 0 && w.a == 0 && w.b == 0 && w.x < 512)
    (fun x s => s.retireWith e (x.setS w.d (tagWord x (syncTag x w)))) s

/-- BAR (R185, R231): it waits for the engine's neighbour stores, arrives, and waits for its release; an arrival by no
participant, or at a barrier whose participant has halted or faulted, faults with SYNC. -/
def execIBar (e : Nat) (w : Ins) (s : State) : Host.Outcome State Fault Refusal :=
  runI e 0x0f 4 w (w.f == 0 && w.d == 0 && w.a == 0 && w.b == 0 && w.rc == 0 && w.x < 8)
    (fun _ s =>
      let c := e / 16
      let s := s.flushNbr e
      if !bit (members s c w.x) (e % 16) || brokenBar s c w.x then s.preciseFault e ecSync 0
      else
        let s := s.putArrived c w.x (Nat.lor (arrived s c w.x) (2 ^ (e % 16)))
        (s.setEng e { engOf s e with wait := some (.bar w.x) }).putSt e 3) s

/-- BARMASK (R231). -/
def execIBarmask (e : Nat) (w : Ins) (s : State) : Host.Outcome State Fault Refusal :=
  runI e 0x0f 5 w (w.f == 0 && w.d == 0 && w.b == 0 && w.rc == 0 && w.x < 8)
    (fun x s =>
      let c := e / 16
      let m := sreg x w.a % 65536
      if Nat.land m (members s c w.x) ≠ m ∨ Nat.land (arrived s c w.x) m ≠ arrived s c w.x then s.preciseFault e ecSync 0
      else (s.putMembers c w.x m).retireI e (x.pc + 1)) s

/-- The count and the number of a semaphore instruction. -/
def semN (w : Ins) : Nat := bits w.x 20 5
def semM (w : Ins) : Nat := bits w.x 4 0
def semLegal (w : Ins) : Bool := w.f == 0 && w.a == 0 && w.b == 0 && w.rc == 0 && bits w.x 26 21 == 0 && semN w != 0

def execISemsig (e : Nat) (w : Ins) (s : State) : Host.Outcome State Fault Refusal :=
  runI e 0x0f 6 w (w.d == 0 && semLegal w)
    (fun x s =>
      let s := s.flushNbr e
      let v := semCount s (e / 16) (semM w) + semN w
      if 65535 < v then s.preciseFault e ecSync 0
      else (s.putSem (e / 16) (semM w) v).retireI e (x.pc + 1)) s

/-- SEMWAIT (R186): taken at once when nobody waits and the count is there, else in arrival order. -/
def execISemwait (e : Nat) (w : Ins) (s : State) : Host.Outcome State Fault Refusal :=
  runI e 0x0f 7 w (w.d == 0 && semLegal w)
    (fun x s =>
      let c := e / 16
      let m := semM w
      let q := semWaiters s c m
      if q = [] ∧ semN w ≤ semCount s c m then
        (s.putSem c m (semCount s c m - semN w)).retireI e (x.pc + 1)
      else
        let s := { s with eng := { s.eng with semQ := NMap.insert s.eng.semQ (32 * c + m) (q ++ [(e, semN w)]) } }
        (s.setEng e { x with wait := some (.sem m (semN w)) }).putSt e 3) s

def execISemtry (e : Nat) (w : Ins) (s : State) : Host.Outcome State Fault Refusal :=
  runI e 0x0f 8 w (semLegal w)
    (fun x s =>
      let c := e / 16
      let m := semM w
      if semWaiters s c m = [] ∧ semN w ≤ semCount s c m then
        (s.putSem c m (semCount s c m - semN w)).retireWith e (x.setS w.d 1)
      else s.retireWith e (x.setS w.d 0)) s

def execINfence (e : Nat) (w : Ins) (s : State) : Host.Outcome State Fault Refusal :=
  runI e 0x0f 9 w (w.f == 0 && w.d == 0 && w.a == 0 && w.b == 0 && w.imm == 0)
    (fun x s => (s.flushNbr e).retireI e (x.pc + 1)) s

/-! Pointer conversion (R129, R244, R245). -/

/-- PTOR and PTOV: a lookup of a window under invalidation waits (R245); no window gives 0 and a false predicate; while
XLT_CFG.ENABLE is 0 no window is found (R131, R138). -/
def runPtr (e op : Nat) (w : Ins) (look : XCtx → Nat → Option XWindow) (conv : XWindow → Nat → Nat) (s : State) :
    Host.Outcome State Fault Refusal :=
  runI e 0x15 op w (w.f == 0 && w.b == 0 && w.rc == 0 && w.x < 8)
    (fun x s =>
      let a := sreg x w.a
      match (NMap.find s.xlt.ctxs (engCtx s e)).filter XCtx.pool with
      | none => s.retireWith e ((x.setS w.d a).setP w.x true)
      | some c => match (if s.flag XLT_CFG_ENABLE then look c a else none) with
        | none => s.retireWith e ((x.setS w.d 0).setP w.x false)
        | some win => if win.inval then s else s.retireWith e ((x.setS w.d (conv win a)).setP w.x true)) s

def execIPtor (e : Nat) (w : Ins) (s : State) : Host.Outcome State Fault Refusal :=
  runPtr e 0 w (fun c a => if 2 ^ 57 ≤ a then none else c.windowAt a) (fun n a => n.rpa + (a - n.va)) s
def execIPtov (e : Nat) (w : Ins) (s : State) : Host.Outcome State Fault Refusal :=
  runPtr e 1 w (fun c a => if 2 ^ 56 ≤ a then none else c.windowOf a) (fun n a => n.va + (a - n.rpa)) s

/-! Markers and counters (R250). -/

def execIMark (e : Nat) (w : Ins) (s : State) : Host.Outcome State Fault Refusal :=
  runI e 0x18 0 w (w.f == 0 && w.d == 0 && w.b == 0 && w.rc == 0 && w.x < 3)
    (fun x s => (s.engTrace e (w.x + 1) (sreg x w.a) x.pc).retireI e (x.pc + 1)) s

/-- An instruction that reads a count into a scalar register. -/
def runRead (e op : Nat) (f : State → Nat) (w : Ins) (s : State) : Host.Outcome State Fault Refusal :=
  runI e 0x18 op w (w.f == 0 && w.a == 0 && w.b == 0 && w.imm == 0) (fun x s => s.retireWith e (x.setS w.d (f s))) s

def execIRdcyc (e : Nat) (w : Ins) (s : State) : Host.Outcome State Fault Refusal :=
  runRead e 1 (fun s => s.get (ENG_CYCLES_CYCLES e)) w s
def execIRdret (e : Nat) (w : Ins) (s : State) : Host.Outcome State Fault Refusal :=
  runRead e 2 (fun s => s.get (ENG_RETIRED_RETIRED e)) w s
def execIRdtime (e : Nat) (w : Ins) (s : State) : Host.Outcome State Fault Refusal := runRead e 3 State.now w s

end Sys2Proof.Machine
end

