-- ==== Sys2Proof/Machine/Packet.lean ====
section
/-! DEFINITION. Transaction packets as bytes (Table 14.1), their classes (Table 13.5) and graupel counts (R258), and
graupels as bytes with their CRC (Tables 13.3 and 13.6). -/

namespace Sys2Proof.Machine

open Reg

/-! Packets. -/

/-- The 64 header bytes of a packet. -/
def pktHeader (p : Pkt) : List Byte :=
  natLe 1 p.opcode ++ natLe 1 (p.tblEpoch % 2 + 2 * (p.colour % 4) + 8 * b2n p.poison + 16 * b2n p.retry) ++
  natLe 1 (p.mclass % 8 + 8 * (p.domain % 8)) ++ natLe 1 p.status ++ natLe 2 (p.src % 4096) ++ natLe 2 (p.dst % 4096) ++
  natLe 2 (p.tenant % 1024) ++ natLe 2 p.psn ++ natLe 2 (p.tag % 4096) ++ natLe 2 (p.len % 2048) ++
  natLe 8 (p.addr % 2 ^ 56) ++ natLe 4 p.svcEpoch ++ natLe 2 p.tenEpoch ++ natLe 1 p.hops ++
  natLe 1 (p.grant % 4 + 4 * b2n p.dirty + 8 * (p.result % 8) + 64 * b2n p.backinv + 128 * b2n p.stale) ++
  natLe 2 (p.target % 4096) ++ natLe 2 p.srcInc ++ natLe 4 p.rsvd ++ natLe 8 p.aux ++ natLe 16 p.arg

/-- The packet that bytes spell: 64 header bytes and the payload. -/
def pktOf (l : List Byte) : Pkt :=
  let f := fun (i n : Nat) => leNat (slice l i n)
  let fl := f 1 1
  let cd := f 2 1
  let co := f 0x1f 1
  let rsvd := fl / 32 != 0 || cd / 64 != 0 || f 4 2 / 4096 != 0 || f 6 2 / 4096 != 0 || f 8 2 / 1024 != 0 ||
    f 0xc 2 / 4096 != 0 || f 0xe 2 / 2048 != 0 || f 0x17 1 != 0 || f 0x20 2 / 4096 != 0 || f 0x24 4 != 0
  { opcode := f 0 1, tblEpoch := fl % 2, colour := bits fl 2 1, poison := bit fl 3, retry := bit fl 4,
    mclass := cd % 8, domain := bits cd 5 3, status := f 3 1, src := f 4 2 % 4096, dst := f 6 2 % 4096,
    tenant := f 8 2 % 1024, psn := f 0xa 2, tag := f 0xc 2 % 4096, len := f 0xe 2 % 2048, addr := f 0x10 7,
    svcEpoch := f 0x18 4, tenEpoch := f 0x1c 2, hops := f 0x1e 1, grant := co % 4, dirty := bit co 2,
    result := bits co 5 3, backinv := bit co 6, stale := bit co 7, target := f 0x20 2 % 4096, srcInc := f 0x22 2,
    aux := f 0x28 8, arg := f 0x30 16, rsvd := b2n rsvd, payload := l.drop 64 }

/-- The class of a packet (Tables 13.5, 14.2 and 3.5). -/
def pktClass (p : Pkt) : Nat :=
  if p.opcode = 0x38 then 4
  else if p.opcode = 0x39 then 5
  else if 0x40 ≤ p.opcode ∧ p.opcode ≤ 0x5f then 0
  else if 0x60 ≤ p.opcode ∧ p.opcode ≤ 0x6f then 2
  else if (0x78 ≤ p.opcode ∧ p.opcode ≤ 0x7f) ∨ isReply p.opcode then 3
  else 1

/-- Whether a class is of the request network. -/
def reqClass (c : Nat) : Bool := c == 0 || c == 1 || c == 4

/-- Graupels that a packet fills (R258). -/
def graupels (p : Pkt) : Nat := divUp (64 + p.payload.length) 240

/-- Whether FAB_EPOCH0 and FAB_EPOCH1 count a packet (R284). -/
def epochCounted (p : Pkt) : Bool := p.mclass == 0 || p.mclass == 1 || p.mclass == 3 || p.mclass == 4

/-- A packet accepted at an ingress (R284). -/
def State.entered (s : State) (p : Pkt) : State := if epochCounted p then s.bump (FAB_EPOCH_ENTERED p.tblEpoch) 1 else s

/-- Header qword `o` (R292). -/
def headerQword (p : Pkt) (o : Nat) : Nat := leNat (slice (pktHeader p) (8 * o) 8)

/-! Graupels. -/

/-- One byte into the reflected CRC-32 of IEEE 802.3. -/
def crcByte (c : Nat) (b : Byte) : Nat :=
  (List.range 8).foldl (fun c _ => if c % 2 = 1 then Nat.xor (c / 2) 0xedb88320 else c / 2) (Nat.xor c b.toNat)

/-- The CRC-32 of R256. -/
def crc32 (l : List Byte) : Nat := Nat.xor (l.foldl crcByte 0xffffffff) 0xffffffff

/-- The fields of a received graupel (Table 13.3). -/
structure Graupel where
  type : Nat
  seq : Nat
  cls : Nat
  ack : Nat
  ackV : Bool
  len : Nat
  sop : Bool
  eop : Bool
  crA : Nat × Nat
  crB : Nat × Nat
  payload : List Byte
  crcOk : Bool
  deriving DecidableEq, Repr

/-- A graupel's fields from its 256 bytes; CR fields as class and count. -/
def graupelOf (l : List Byte) : Graupel :=
  let f := fun (i n : Nat) => leNat (slice l i n)
  let sv := f 1 2
  let ak := f 3 2
  let cr := fun (x : Nat) => (bits x 14 12, x % 4096)
  { type := f 0 1 % 16, seq := sv % 4096, cls := bits sv 14 12, ack := ak % 4096, ackV := bit ak 12, len := f 5 1,
    sop := bit (f 6 1) 0, eop := bit (f 6 1) 1, crA := cr (f 7 2), crB := cr (f 9 2), payload := slice l 12 240,
    crcOk := l.length == 256 && f 0xfc 4 == crc32 (l.take 0xfc) }

/-- A graupel's 256 bytes. -/
def graupelBytes (g : Graupel) : List Byte :=
  let body := natLe 1 g.type ++ natLe 2 (g.seq % 4096 + 4096 * (g.cls % 8)) ++ natLe 2 (g.ack % 4096 + 4096 * b2n g.ackV) ++
    natLe 1 g.len ++ natLe 1 (b2n g.sop + 2 * b2n g.eop) ++ natLe 2 (g.crA.2 % 4096 + 4096 * (g.crA.1 % 8)) ++
    natLe 2 (g.crB.2 % 4096 + 4096 * (g.crB.1 % 8)) ++ natLe 1 0 ++ fitBytes 240 g.payload
  body ++ natLe 4 (crc32 body)

/-- A link-control message's payload (Table 13.6). -/
def ctrlPayload (msg lanes speed minW : Nat) (alloc : List Nat) (cause : Nat) : List Byte :=
  natLe 1 msg ++ natLe 1 lanes ++ natLe 1 speed ++ natLe 1 minW ++ ((List.range 6).flatMap fun i => natLe 2 (alloc.getD i 0)) ++
  natLe 1 cause

end Sys2Proof.Machine
end

