-- ==== Sys2Proof/Machine/Group.lean ====
section
/-! DEFINITION. In-network reduction and gather (R212, R288 to R291), and the group commands (R294). -/

namespace Sys2Proof.Machine

open Reg

/-! Contributions (Table 14.1, ARG). -/

def ctGroup (p : Pkt) : Nat := bits p.arg 8 0
def ctChunk (p : Pkt) : Nat := bits p.arg 31 16
def ctIndex (p : Pkt) : Nat := bits p.arg 39 32
def ctFmt (p : Pkt) : Nat := bits p.arg 43 40

def isContrib (p : Pkt) : Bool := p.opcode == 0x10 || p.opcode == 0x12

/-- The group that takes a contribution at this node: LIVE, with its EXPECT bit set (R289). -/
def takingGroup (s : State) (p : Pkt) : Option Group :=
  if isContrib p then (NMap.find s.fab.groups (ctGroup p)).filter fun g => g.expect.contains (ctIndex p) else none

/-- The key of a chunk's slot. -/
def slotKey (g : Group) (group chunk : Nat) : Nat := 64 * group + chunk % max 1 g.slots

def State.setChunk (s : State) (k : Nat) (c : Chunk) : State :=
  { s with fab := { s.fab with chunks := NMap.insert s.fab.chunks k c } }
def State.freeChunk (s : State) (k : Nat) : State := { s with fab := { s.fab with chunks := NMap.erase s.fab.chunks k } }

/-- The reply of a contribution. -/
def contribReply (s : State) (q : Pkt) (st : Nat) (data : List Byte) : Pkt :=
  { replyTo s q (if q.opcode = 0x10 then 0x11 else 0x13) st with len := data.length, payload := data }

/-- A contribution refused (Table 14.7). -/
def State.refuseContrib (s : State) (p : Pkt) : State :=
  (s.count FAB_CNT1_CONTRIB_REFUSED 1).send (contribReply s p stPermission [])

/-- FP32 values of a contribution's elements. -/
def contribVals (fmt : Nat) (l : List Byte) : List Nat :=
  (List.range (8 * l.length / fmtBits fmt)).map fun i => encodeF .rne 0 (decodeF fmt (elemAt (fmtBits fmt) (leNat l) i))

/-- Elements combined in arrival order (R212). -/
def combineAll (op : Nat) : List Nat → List Nat → List Nat
  | [], bs => bs
  | as, [] => as
  | a :: as, b :: bs => encodeF .rne 0 (combine32 op (decodeF 0 a) (decodeF 0 b)) :: combineAll op as bs

/-- A slot's elements rounded once to the group's format. -/
def resultBytes (g : Group) (acc : List Nat) : List Byte :=
  natLe (elemBytes g.fmt acc.length) (packElems (fmtBits g.fmt) (acc.map fun a => encodeF .rne g.fmt (decodeF 0 a)))

/-- Every contributor of a chunk answered, and its slot freed. -/
def State.answerChunk (s : State) (k : Nat) (c : Chunk) (st : Nat) (data : List Byte) : State :=
  c.taken.foldl (fun s t => s.send (contribReply s t.pkt st data)) (s.freeChunk k)

/-- The request of this node under a group's tenant. -/
def groupReq (s : State) (g : Group) (op dst : Nat) : Pkt :=
  { request s op 3 dst g.tenant with tenEpoch := (NMap.find s.sec.tenants g.tenant).elim 0 TenRec.cur }

/-- A REDUCE chunk whose contributions are all in (R289 step 3). -/
def State.chunkDone (s : State) (g : Group) (group k : Nat) (c : Chunk) : State :=
  let data := resultBytes g c.acc
  if g.root then s.answerChunk k c (if c.bad then stPoisoned else stOK) data
  else
    (s.setChunk k { c with sent := true }).sendReq
      { groupReq s g 0x10 g.rootAgent with
        arg := group + c.chunk * 2 ^ 16 + g.parentIndex * 2 ^ 32 + g.fmt * 2 ^ 40
        len := data.length
        payload := data
        poison := c.bad } (.parent group c.chunk)

/-- A gather chunk frees its slot once everything has arrived, and at the root has been written (R291). -/
def State.gatherDone (s : State) (g : Group) (k : Nat) : State :=
  match NMap.find s.fab.chunks k with
  | some c => if (g.expect.all fun i => c.taken.any fun t => t.index = i) ∧ c.writing = [] then s.freeChunk k else s
  | none => s

/-- A gather contribution that arrives: acknowledged, and written at the root or forwarded; `drop` is a filter's DROP,
which counts it as arrived and refuses it (R291, R292). -/
def State.gatherIn (s : State) (g : Group) (k : Nat) (c : Chunk) (p : Pkt) (drop : Bool) : State :=
  let i := ctIndex p
  let c := { c with taken := c.taken ++ [⟨i, p⟩] }
  if drop then ((s.setChunk k c).send (contribReply s p stPermission [])).gatherDone g k
  else
    let s := s.send (contribReply s p stOK [])
    if g.root then
      let s := (s.setChunk k { c with writing := i :: c.writing }).sendReq
        { groupReq s g 0x02 g.gatherAgent with
          addr := g.gatherAddr + (c.chunk * 256 + i) * g.chunkBytes
          len := p.payload.length
          payload := p.payload
          poison := p.poison } (.gather (ctGroup p) c.chunk i)
      s
    else ((s.setChunk k c).send p).gatherDone g k

/-- A contribution taken by a group (R289 to R291). -/
def State.takeContrib (s : State) (g : Group) (p : Pkt) (drop : Bool) : State :=
  let k := slotKey g (ctGroup p) (ctChunk p)
  let here := NMap.find s.fab.chunks k
  let c : Chunk := here.getD ⟨ctChunk p, [], [], false, s.now, false, []⟩
  if p.tenant ≠ g.tenant ∨ p.opcode ≠ (if g.kind = 0 then 0x10 else 0x12) then s.refuseContrib p
  else if g.kind = 1 ∧ p.payload.length ≠ g.chunkBytes then s.refuseContrib p
  else if c.chunk ≠ ctChunk p then s.refuseContrib p
  else if c.taken.any fun t => t.index = ctIndex p then s.count FAB_CNT1_CONTRIB_DUP 1
  else if g.kind = 1 then s.gatherIn g k c p drop
  else
    let bad := p.poison || ctFmt p != g.fmt
    let vs := if bad then [] else contribVals g.fmt p.payload
    let s := if bad then s.count FAB_CNT1_CONTRIB_POISONED 1 else s.opCount none (some g.tenant) 25 vs.length
    let c := { c with
      acc := if bad then (if c.acc = [] then List.replicate (8 * p.payload.length / fmtBits g.fmt) 0 else c.acc)
        else if c.taken = [] then vs else combineAll g.op c.acc vs
      taken := c.taken ++ [⟨ctIndex p, p⟩]
      bad := c.bad || bad }
    if g.expect.all fun i => c.taken.any fun t => t.index = i then s.chunkDone g (ctGroup p) k c else s.setChunk k c

/-- The checks on a contribution before a group takes it (R364, R273, R314). -/
def contribGate (s : State) (p : Pkt) : Gate :=
  if shut s then .drop else if headerBad p then .refuse stPermission else epochGate s p

/-- RED_CONTRIB and GATH_CONTRIB at this node: taken by their group; with none, refused (log entry 20). -/
def State.contribIn (s : State) (p : Pkt) : State :=
  match contribGate s p with
  | .pass => match takingGroup s p with
    | some g => s.takeContrib g p false
    | none => s.refuseContrib p
  | g => s.gateFail p g

def execRedContrib (_port : Nat) (p : Pkt) (s : State) : Host.Outcome State Fault Refusal :=
  if p.opcode = 0x10 then .next (s.contribIn p) else .next s
def execGathContrib (_port : Nat) (p : Pkt) (s : State) : Host.Outcome State Fault Refusal :=
  if p.opcode = 0x12 then .next (s.contribIn p) else .next s

/-- The answer to a non-root's own contribution goes to every contributor it took (R289). -/
def State.parentAnswered (s : State) (group chunk st : Nat) (data : List Byte) : State :=
  match NMap.find s.fab.groups group with
  | none => s
  | some g =>
    let k := slotKey g group chunk
    match NMap.find s.fab.chunks k with
    | some c => if c.chunk = chunk ∧ c.sent then s.answerChunk k c st data else s
    | none => s

/-- A gather's WR acknowledged. -/
def State.gatherWritten (s : State) (group chunk i : Nat) : State :=
  match NMap.find s.fab.groups group with
  | none => s
  | some g =>
    let k := slotKey g group chunk
    match NMap.find s.fab.chunks k with
    | some c => if c.chunk = chunk then (s.setChunk k { c with writing := c.writing.filter (· ≠ i) }).gatherDone g k else s
    | none => s

/-- CHUNK_TIMEOUT (Table 14.7): every contributor of a reduction taken gets ABORTED, and the slot is freed. -/
def execChunkTimeout (group slot : Nat) (s : State) : Host.Outcome State Fault Refusal :=
  match NMap.find s.fab.groups group, NMap.find s.fab.chunks (64 * group + slot % 64) with
  | some g, some c =>
    if c.began + 1000 * g.timeout ≤ s.now then
      let s := (s.count FAB_CNT1_CHUNK_TIMEOUTS 1).raise FAB_EVENT_GRP_TIMEOUT
      let k := 64 * group + slot % 64
      .next (if g.kind = 0 then s.answerChunk k c stAborted [] else s.freeChunk k)
    else .next s
  | _, _ => .next s

/-! Group commands (R294, Table 14.6). -/

/-- The 64 bytes of FAB_GRP0 to FAB_GRP7. -/
def grpBytes (s : State) : List Byte := (List.range 8).flatMap fun n => natLe 8 (s.get (FAB_GRP_DATA n))

def State.putGrp (s : State) (l : List Byte) : State :=
  (List.range 8).foldl (fun s n => s.put (FAB_GRP_DATA n) (leNat (slice l (8 * n) 8))) s

/-- A record's group, where no field holds a reserved value. -/
def groupOfRec (l : List Byte) : Option Group :=
  let f := fun (i n : Nat) => leNat (slice l i n)
  let ko := f 3 1
  let g : Group :=
    { kind := ko % 4, op := bits ko 3 2, fmt := ko / 16, tenant := f 4 2, slots := f 6 1, root := f 7 1 = 1, rootAgent := f 8 2,
      parentIndex := f 0xa 1, engBase := f 0xb 1, chunkBytes := f 0xe 2, timeout := f 0xc 2, gatherAgent := f 0x18 2,
      gatherAddr := f 0x10 8, expect := (List.range 256).filter fun i => bit (f 0x20 32) i }
  let ok := f 0 2 < 512 && g.kind < 2 && (g.kind == 1 || (g.op < 3 && g.fmt < 5)) && g.tenant < 1024 && 1 ≤ g.slots &&
    g.slots ≤ 64 && f 7 1 < 2 && g.rootAgent < 4096 && 1 ≤ g.timeout && g.gatherAgent < 4096 && f 0x1a 6 == 0 && g.expect != [] &&
    (g.kind == 0 || (128 ≤ g.chunkBytes && g.chunkBytes ≤ 1024 && g.chunkBytes % 128 == 0))
  if ok then some g else none

/-- The record of a group. -/
def recOfGroup (n : Nat) (g : Group) : List Byte :=
  natLe 2 n ++ natLe 1 1 ++ natLe 1 (g.kind + 4 * g.op + 16 * g.fmt) ++ natLe 2 g.tenant ++ natLe 1 g.slots ++ natLe 1 (b2n g.root) ++
    natLe 2 g.rootAgent ++ natLe 1 g.parentIndex ++ natLe 1 g.engBase ++ natLe 2 g.timeout ++ natLe 2 g.chunkBytes ++
    natLe 8 g.gatherAddr ++ natLe 2 g.gatherAgent ++ natLe 6 0 ++ natLe 32 (g.expect.foldl (fun m i => m + 2 ^ i) 0)

/-- Whether some slot of a group holds a chunk. -/
def grpBusy (s : State) (n : Nat) : Bool := s.fab.chunks.any fun (c : Nat × Chunk) => c.1 / 64 = n

/-- GRP_CREATE. -/
def execGrpCreate (s : State) : Host.Outcome State Fault Refusal :=
  let n := s.get FAB_GRP_CMD_GROUP
  if s.flag FAB_GRP_CMD_BUSY then .next s
  else match NMap.find s.fab.groups n, groupOfRec (grpBytes s) with
  | none, some g => .next ({ s with fab := { s.fab with groups := NMap.insert s.fab.groups n g } }.put FAB_GRP_CMD_STATUS stOK)
  | _, _ => .next (s.put FAB_GRP_CMD_STATUS stPermission)

/-- GRP_DESTROY. -/
def execGrpDestroy (s : State) : Host.Outcome State Fault Refusal :=
  let n := s.get FAB_GRP_CMD_GROUP
  if s.flag FAB_GRP_CMD_BUSY then .next s
  else if grpBusy s n then .next (s.put FAB_GRP_CMD_STATUS stPermission)
  else .next ({ s with fab := { s.fab with groups := NMap.erase s.fab.groups n } }.put FAB_GRP_CMD_STATUS stOK)

/-- GRP_QUERY. -/
def execGrpQuery (s : State) : Host.Outcome State Fault Refusal :=
  let n := s.get FAB_GRP_CMD_GROUP
  if s.flag FAB_GRP_CMD_BUSY then .next s
  else
    let l := match NMap.find s.fab.groups n with
      | some g => recOfGroup n g
      | none => natLe 64 n
    .next ((s.putGrp l).put FAB_GRP_CMD_STATUS stOK)

end Sys2Proof.Machine
end

