-- ==== Sys2Proof/Machine/Link.lean ====
section
/-! DEFINITION. The Psiop link layer (chapter 13): graupels received and sent, acknowledgement, replay, credits, link
down, reset and training, Sleep. -/

namespace Sys2Proof.Machine

open Reg

/-! A port. -/

/-- Link states (Table 13.12). -/
abbrev lkDisabled : Nat := 0
abbrev lkTraining : Nat := 1
abbrev lkUp : Nat := 2
abbrev lkDown : Nat := 3
abbrev lkSleep : Nat := 4
abbrev lkFailed : Nat := 5

def LnkPort.idle : LnkPort :=
  { step := 0, began := 0, trained := 0, partner := none, fails := 0, buf := [], timer := 0, replays := [],
    alloc := List.replicate 6 0, used := List.replicate 6 0, seen := List.replicate 6 0, ret := List.replicate 6 0,
    occ := List.replicate 6 0, rx := none, sincePub := 0, oldest := none, good := 0, idleAt := none, sentInit := 0,
    gotInit := false, gotAck := false, sleepReq := false, sleepSent := false, waking := none, replay := none, mask := 0, minW := 0,
    speed := 0, cr := 0, out := [] }

/-- Whether a port's I/O die site is populated (R11). -/
def hasPort (s : State) (p : Nat) : Bool := p < 72 && bit s.dev.part.iodSites (p / 12)

def lnkOf (s : State) (p : Nat) : LnkPort := NMap.getD s.lnk.ports p LnkPort.idle
def State.setLnk (s : State) (p : Nat) (x : LnkPort) : State :=
  { s with lnk := { s.lnk with ports := NMap.insert s.lnk.ports p x } }
def State.modLnk (s : State) (p : Nat) (f : LnkPort → LnkPort) : State := s.setLnk p (f (lnkOf s p))

def lnkSt (s : State) (p : Nat) : Nat := s.get (LNK_STATUS_STATE p)

/-- A new STATE, with its trace record (R370). -/
def State.putLnkSt (s : State) (p st cause : Nat) : State :=
  (s.put (LNK_STATUS_STATE p) st).trace
    { time := s.now, type := 9, unitType := utPort, unitIndex := p, tenant := none, arg0 := st + 16 * cause, arg1 := 0 }

/-- Sender credits of a class (Table 13.13). -/
def credF (p c : Nat) : Fld :=
  if c = 0 then LNK_TXCRED_VC0 p else if c = 1 then LNK_TXCRED_VC1 p else if c = 2 then LNK_TXCRED_VC2 p
  else if c = 3 then LNK_TXCRED_VC3 p else if c = 4 then LNK_TXCRED_MREQ p else LNK_TXCRED_MRSP p

def bumpAt (l : List Nat) (i : Nat) (f : Nat → Nat) : List Nat := l.set i (f (l.getD i 0))

/-! Sending graupels. -/

/-- A graupel of port `p` with its header's ACK and credit fields (R257, R260, R264), put on the lanes. -/
def State.emit (s : State) (p type seq cls len : Nat) (sop eop : Bool) (payload : List Byte) : State :=
  let x := lnkOf s p
  let a := x.cr % 6
  let b := (x.cr + 1) % 6
  let g : Graupel :=
    { type := type, seq := seq, cls := cls, ack := s.get (LNK_RXSTATE_PUBLISHED p), ackV := s.flag (LNK_RXSTATE_PUB_V p),
      len := len, sop := sop, eop := eop, crA := (a, x.ret.getD a 0), crB := (b, x.ret.getD b 0), payload := payload, crcOk := true }
  s.setLnk p { x with cr := (x.cr + 2) % 6, out := x.out ++ [graupelBytes g] }

/-- A link-control message. -/
def State.emitCtrl (s : State) (p msg lanes speed minW : Nat) (alloc : List Nat) (cause : Nat) : State :=
  s.emit p 2 0 0 240 false false (ctrlPayload msg lanes speed minW alloc cause)

/-- The `j`-th graupel of a held packet. -/
def State.emitPart (s : State) (p : Nat) (t : TxPkt) (j : Nat) : State :=
  let part := slice (pktHeader t.pkt ++ t.pkt.payload) (240 * j) 240
  s.emit p 1 ((t.seq + j) % 4096) t.cls part.length (j = 0) (j + 1 = t.k) part

/-- The graupels of a packet, back to back (R258). -/
def State.emitPkt (s : State) (p : Nat) (t : TxPkt) : State := (List.range t.k).foldl (fun s j => s.emitPart p t j) s

/-- One graupel of a port that starts no packet: the next one of its replay (R263), else IDLE (R255). -/
def State.emitNext (s : State) (p : Nat) : State :=
  let x := lnkOf s p
  match x.replay with
  | none => s.emit p 0 0 0 0 false false []
  | some q =>
    let s := s.modLnk p fun x => { x with replay := if (q + 1) % 4096 = s.get (LNK_TXSTATE_NEXT_SEQ p) then none else some ((q + 1) % 4096) }
    match x.buf.find? fun t => (q + 4096 - t.seq) % 4096 < t.k with
    | some t => s.emitPart p t ((q + 4096 - t.seq) % 4096)
    | none => s

/-- An event at a port begins: nothing is on the lanes for it yet. -/
def State.quiet (s : State) (p : Nat) : State := s.modLnk p fun x => { x with out := [] }

/-! Link down (Tables 13.8 and 13.9). -/

/-- A packet that may or may not have been accepted: its source gets a DOUBT (R282). -/
def State.doubt (s : State) (q : Pkt) : State :=
  if reqClass (pktClass q) then
    (s.raise FAB_EVENT_DOUBT_SENT).send
      { replyTo s q 0x0e stOK with
        mclass := 0
        poison := false
        psn := q.psn }
  else s

/-- What 10 ns bring to the ports that are UP, or that wake (R269): each puts four graupels on its lanes (Table 13.2). -/
def State.lanesTick (s : State) : State :=
  ((List.range 72).filter fun p => hasPort s p && (lnkSt s p == lkUp || (lnkSt s p == lkSleep && (lnkOf s p).waking.isSome))).foldl
    (fun s p => (List.range 4).foldl (fun s _ => s.emitNext p) (s.quiet p)) s

/-- Packets waiting for a port go back to the inputs, to be routed anew (R266 step 3). -/
def State.unroute (s : State) (p : Nat) : State :=
  let waiting := (List.range 6).flatMap fun c => NMap.getD s.fab.outq (8 * p + c) []
  let chosen := (NMap.find s.fab.sel p).toList
  { s with fab := { s.fab with
    inq := chosen ++ waiting ++ s.fab.inq
    outq := NMap.keep (fun k _ => k / 8 ≠ p) s.fab.outq
    sel := NMap.erase s.fab.sel p } }

/-- Whether a packet still has a graupel unacknowledged. -/
def unacked (acked : Nat) (t : TxPkt) : Bool := (t.seq + t.k + 4095 - acked) % 4096 < 2048

/-- A link taken down with a cause (Table 13.9). Without AUTO_RETRAIN, or with `stay`, the port stays DOWN and its
recovery ends. -/
def State.linkDown (s : State) (p cause : Nat) (stay : Bool) : State :=
  let info := s.get (LNK_TXSTATE_OUTSTANDING p) + 2 ^ 32 * s.get (LNK_TXSTATE_ACKED p) + 2 ^ 48 * s.get (LNK_TXSTATE_NEXT_SEQ p)
  let s := (s.put (LNK_EVENT_DOWN_CAUSE p) cause).putLnkSt p lkDown cause
  let s := (s.raise (LNK_EVENT_DOWN p)).count (LNK_CNT1_LINK_DOWNS p) 1
  let s := s.post { cls := 2, unitType := utPort, unitIndex := p, cause := cause, status := 0, tenant := none, agent := 0,
                    addr := none, info := info }
  let s := s.event utPort p cause
  let s := if cause = 3 ∨ cause = 7 then s
    else (List.range 3).foldl (fun s _ => s.emitCtrl p 6 0 0 0 [] cause) s
  let s := s.unroute p
  let acked := s.get (LNK_TXSTATE_ACKED p)
  let s := ((lnkOf s p).buf.filter (unacked acked)).foldl (fun s t => s.doubt t.pkt) s
  let retrain := s.flag (LNK_CTL_AUTO_RETRAIN p) && !stay
  let lost := fun (q : QPkt) => if q.port = p then { q with slots := 0 } else q
  let s := { s with fab := { s.fab with
    inq := s.fab.inq.map lost
    outq := NMap.mapVal (fun _ (l : List QPkt) => l.map lost) s.fab.outq
    sel := NMap.mapVal (fun _ (q : QPkt) => lost q) s.fab.sel } }
  let s := s.modLnk p fun x => { LnkPort.idle with
    fails := x.fails
    idleAt := if retrain then some s.now else none
    out := x.out }
  let s := s.put (LNK_STATUS_LANES_UP p) 0
  if retrain then s else s.closeRec utPort p

/-- A protocol error. -/
def State.protocolDown (s : State) (p : Nat) : State := s.linkDown p 5 false

/-! Training (Table 13.10). -/

/-- Step 1 of Table 13.10; the settings that wait for a link reset are taken. -/
def State.startTraining (s : State) (p : Nat) : State :=
  let s := (range' (0x100 + 4 * p) 4).foldl State.applyCal s
  let x := lnkOf s p
  ((s.put (LNK_STATUS_LANES_UP p) 0).putLnkSt p lkTraining 0).setLnk p
    { LnkPort.idle with
      step := 1, began := s.now, fails := x.fails, out := x.out
      mask := s.get (LNK_CTL_LANE_MASK p), minW := s.get (LNK_CTL_MIN_WIDTH p), speed := s.get (LNK_CTL_SPEED p)
      alloc := [s.get (LNK_CREDIT_VC0 p), s.get (LNK_CREDIT_VC1 p), s.get (LNK_CREDIT_VC2 p), s.get (LNK_CREDIT_VC3 p), 16, 16] }

/-- The widest width that fits lanes and a smallest width, with its lanes: x4, x2 on lanes 0–1 or 2–3, x1 on one lane; a
free value chooses among the single lanes (log entry 2). -/
def widthOf (lanes minW pick : Nat) : Option (Nat × Nat) :=
  if lanes % 16 = 15 then some (2, 15)
  else if lanes % 4 = 3 ∧ minW ≤ 1 then some (1, 3)
  else if lanes / 4 % 4 = 3 ∧ minW ≤ 1 then some (1, 12)
  else if minW = 0 then
    let ls := (List.range 4).filter (bit lanes)
    if ls = [] then none else some (0, 2 ^ (ls.getD (pick % ls.length) 0))
  else none

/-- What steps 4's agreement gives, once the partner's PARAM is here. -/
def agreed (s : State) (p pick : Nat) : Option (Option (Nat × Nat)) :=
  let x := lnkOf s p
  x.partner.map fun q => widthOf (Nat.land x.trained q.1) (max x.minW q.2.2) pick

/-- The port enters UP (step 7). -/
def State.linkUp (s : State) (p : Nat) : State :=
  let s := (s.putLnkSt p lkUp 0).raise (LNK_EVENT_UP p)
  let s := if s.get (LNK_STATUS_WIDTH p) < 2 then s.raise (LNK_EVENT_DEGRADED p) else s
  let s := (s.closeRec utPort p).event utPort p 0
  s.modLnk p fun x => { x with step := 0, fails := 0, good := s.now, waking := none }

/-- Step 6 ends once INIT and INIT_ACK are in. -/
def State.tryUp (s : State) (p : Nat) : State :=
  let x := lnkOf s p
  if lnkSt s p = lkTraining ∧ x.step = 6 ∧ x.gotInit ∧ x.gotAck then s.linkUp p else s

/-- INIT sent with the port's allocations. -/
def State.sendInit (s : State) (p : Nat) : State :=
  (s.emitCtrl p 2 0 0 0 (lnkOf s p).alloc 0).modLnk p fun x => { x with sentInit := s.now }

/-- An attempt that fails: tried anew, or FAILED after three in a row (R267). -/
def State.attemptFails (s : State) (p : Nat) : State :=
  let s := s.raise (LNK_EVENT_TRAIN_FAIL p)
  let n := (lnkOf s p).fails + 1
  let s := s.modLnk p fun x => { x with fails := n }
  if 3 ≤ n then
    let s := (s.putLnkSt p lkFailed (s.get (LNK_EVENT_DOWN_CAUSE p))).post
      { cls := 2, unitType := utPort, unitIndex := p, cause := s.get (LNK_EVENT_DOWN_CAUSE p), status := 0, tenant := none,
        agent := 0, addr := none, info := 0 }
    ((s.put (LNK_STATUS_LANES_UP p) 0).closeRec utPort p).setLnk p { LnkPort.idle with fails := 0 }
  else s.startTraining p

/-- TRAINING_STEP_DONE (Table 13.10): the step's wait ends; `lanes` are those that trained (step 3). -/
def execTrainingStepDone (p lanes : Nat) (s : State) : Host.Outcome State Fault Refusal :=
  if !hasPort s p || lnkSt s p != lkTraining then .next s
  else
    let s := s.quiet p
    let x := lnkOf s p
    if x.step = 1 ∨ x.step = 2 then .next (s.setLnk p { x with step := x.step + 1 })
    else if x.step = 3 then
      let l := Nat.land (lanes % 16) x.mask
      .next ((s.setLnk p { x with step := 4, trained := l }).emitCtrl p 1 l x.speed x.minW [] 0)
    else if x.step = 4 then
      let (k, s) := s.take
      match agreed s p (Config.freeValue k).toNat with
      | none => .next s
      | some none => .next (s.attemptFails p)
      | some (some (w, ls)) =>
        let sp := max x.speed (x.partner.elim 0 fun q => q.2.1)
        .next ((((s.put (LNK_STATUS_WIDTH p) w).put (LNK_STATUS_LANES_UP p) ls).put (LNK_STATUS_SPEED_NOW p) sp).setLnk p
          { x with step := 5 })
    else if x.step = 5 then
      let zero := [LNK_TXSTATE_NEXT_SEQ p, LNK_TXSTATE_ACKED p, LNK_TXSTATE_OUTSTANDING p, LNK_RXSTATE_EXP p, LNK_RXSTATE_PUB_V p,
        LNK_RXSTATE_PUBLISHED p]
      let s := zero.foldl (fun s f => s.put f 0) s
      .next (((s.setLnk p { x with step := 6 }).sendInit p).tryUp p)
    else .next (s.tryUp p)

/-- TRAIN_FAIL (R267): 500 ms without step 7, or no width fits. -/
def execTrainFail (p : Nat) (s : State) : Host.Outcome State Fault Refusal :=
  let x := lnkOf s p
  if hasPort s p && lnkSt s p == lkTraining && (x.began + 500000000 ≤ s.now || agreed s p 0 == some none) then
    .next ((s.quiet p).attemptFails p)
  else .next s

/-- INIT_RESEND (R267 step 6): every 10 µs until INIT_ACK. -/
def execInitResend (p : Nat) (s : State) : Host.Outcome State Fault Refusal :=
  let x := lnkOf s p
  if hasPort s p && lnkSt s p == lkTraining && x.step == 6 && !x.gotAck && x.sentInit + 10000 ≤ s.now then
    .next ((s.quiet p).sendInit p)
  else .next s

/-- AUTO_RETRAIN (R266 step 5). -/
def execAutoRetrain (p : Nat) (s : State) : Host.Outcome State Fault Refusal :=
  match (lnkOf s p).idleAt with
  | some t =>
    if hasPort s p && lnkSt s p == lkDown && s.flag (LNK_CTL_ENABLE p) && t + 1000000 ≤ s.now then
      .next ((s.quiet p).startTraining p)
    else .next s
  | none => .next s

/-! Commands (Table 13.14). -/

/-- The end of a command of the port. -/
def State.lnkEnd (s : State) (p st de : Nat) : State := s.endCmd (LNK_CMD_STATUS p) (LNK_CMD_DETAIL p) st de

/-- LNK_RESET. -/
def execLnkReset (p : Nat) (s : State) : Host.Outcome State Fault Refusal :=
  if !hasPort s p || s.flag (LNK_CMD_BUSY p) then .next s
  else if lnkSt s p = lkDisabled ∨ ¬ s.flag (LNK_CTL_ENABLE p) then .next (s.lnkEnd p stPermission 1)
  else
    let s := s.quiet p
    let s := if lnkSt s p = lkUp ∨ lnkSt s p = lkSleep then s.linkDown p 6 false else s
    .next (((s.modLnk p fun x => { x with fails := 0 }).startTraining p).lnkEnd p stOK 0)

/-- LNK_DOWN. -/
def execLnkDown (p : Nat) (s : State) : Host.Outcome State Fault Refusal :=
  if !hasPort s p || s.flag (LNK_CMD_BUSY p) then .next s
  else if lnkSt s p = lkUp ∨ lnkSt s p = lkSleep then .next (((s.quiet p).linkDown p 6 true).lnkEnd p stOK 0)
  else .next (s.lnkEnd p stPermission (if lnkSt s p = lkDisabled then 1 else 2))

/-- LNK_ENABLE: LNK_CTL.ENABLE written. Set, a disabled port trains; cleared, its lanes idle and it is DISABLED. A FAILED port
stays so until LNK_CMD RESET (R267). -/
def State.lnkEnable (s : State) (p : Nat) (v : Bool) : State :=
  let old := s.flag (LNK_CTL_ENABLE p)
  let s := s.put (LNK_CTL_ENABLE p) (b2n v)
  if lnkSt s p = lkFailed then s
  else if v ∧ ¬ old then (s.quiet p).startTraining p
  else if ¬ v ∧ old then
    let s := s.quiet p
    let s := if lnkSt s p = lkUp ∨ lnkSt s p = lkSleep then s.linkDown p 6 true else s
    (s.putLnkSt p lkDisabled (s.get (LNK_EVENT_DOWN_CAUSE p))).modLnk p fun x => { LnkPort.idle with out := x.out }
  else s

def execLnkEnable (p : Nat) (v : Bool) (s : State) : Host.Outcome State Fault Refusal :=
  if hasPort s p then .next (s.lnkEnable p v) else .next s

/-! Receiving. -/

/-- The receiver publishes its last accepted SEQ (R260). -/
def State.publish (s : State) (p : Nat) : State :=
  ((s.put (LNK_RXSTATE_PUB_V p) 1).put (LNK_RXSTATE_PUBLISHED p) ((s.get (LNK_RXSTATE_EXP p) + 4095) % 4096)).modLnk p
    fun x => { x with sincePub := 0, oldest := none }

/-- SLEEP_ACK sent once this side has nothing outstanding (R269). -/
def State.trySleep (s : State) (p : Nat) : State :=
  if (lnkOf s p).sleepReq ∧ lnkSt s p = lkUp ∧ s.get (LNK_TXSTATE_OUTSTANDING p) = 0 then
    ((s.emitCtrl p 5 0 0 0 [] 0).modLnk p fun x => { x with sleepReq := false }).putLnkSt p lkSleep (s.get (LNK_EVENT_DOWN_CAUSE p))
  else s

/-- An ACK value taken (R261); a replay skips what it frees (R263). -/
def State.takeAck (s : State) (p a : Nat) (v : Bool) : State :=
  if !v then s
  else
    let acked := s.get (LNK_TXSTATE_ACKED p)
    let out := s.get (LNK_TXSTATE_OUTSTANDING p)
    let d := (a + 1 + 4096 - acked) % 4096
    if d = 0 then s
    else if d ≤ out then
      let s := (s.put (LNK_TXSTATE_ACKED p) (a + 1)).put (LNK_TXSTATE_OUTSTANDING p) (out - d)
      let past := fun (q : Nat) => if 2048 ≤ (q + 4095 - a) % 4096 then (a + 1) % 4096 else q
      (s.modLnk p fun x => { x with
        buf := x.buf.filter (unacked ((a + 1) % 4096))
        timer := s.now
        replay := if d = out then none else x.replay.map past }).trySleep p
    else s.protocolDown p

/-- A credit count taken (R264). -/
def State.takeCr (s : State) (p : Nat) (cr : Nat × Nat) : State :=
  if lnkSt s p = lkDown ∨ 6 ≤ cr.1 then s
  else
    let x := lnkOf s p
    let new := (cr.2 + 4096 - x.seen.getD cr.1 0) % 4096
    if x.used.getD cr.1 0 < new then s.protocolDown p
    else (s.bump (credF p cr.1) new).setLnk p
      { x with used := bumpAt x.used cr.1 (· - new), seen := x.seen.set cr.1 cr.2 }

/-- A bad graupel: discarded with all its fields. -/
def State.badGraupel (s : State) (p : Nat) : State := s.count (LNK_CNT0_BAD p) 1

/-- The codewords that came with a graupel, counted. -/
def State.countFec (s : State) (p : Nat) (r : Rx) : State :=
  (s.count (LNK_CNT1_FEC_CORR p) r.corr).count (LNK_CNT1_FEC_UNCORR p) r.uncorr

/-- ACK and credit fields of a good graupel (R257), taken while the link's sequence spaces run. -/
def State.takeFields (s : State) (p : Nat) (g : Graupel) : State :=
  let s := s.modLnk p fun x => { x with good := s.now }
  if lnkSt s p = lkUp ∨ (lnkSt s p = lkTraining ∧ (lnkOf s p).step = 6) then
    let s := s.takeAck p g.ack g.ackV
    (s.takeCr p g.crA).takeCr p g.crB
  else s

/-- Whether graupels reach the link layer. -/
def receiving (s : State) (p : Nat) : Bool :=
  hasPort s p && (lnkSt s p == lkUp || lnkSt s p == lkTraining)

/-- IDLE_GRAUPEL (R257). -/
def execIdleGraupel (p : Nat) (r : Rx) (s : State) : Host.Outcome State Fault Refusal :=
  let g := graupelOf r.bytes
  if !receiving s p || g.type ≠ 0 then .next s
  else
    let s := (s.quiet p).countFec p r
    if r.bad || !g.crcOk then .next (s.badGraupel p) else .next (s.takeFields p g)

/-- A packet whose last graupel is in goes to the switch (R259, R284). -/
def State.packetIn (s : State) (p cls k : Nat) (bytes : List Byte) : State :=
  let q := pktOf bytes
  let i : QPkt := ⟨q, p, s.now, false, none, cls, k⟩
  { s with fab := { s.fab with inq := s.fab.inq ++ [i] } }.entered q

/-- A DATA graupel with d = 0, all else well (Table 13.7). -/
def State.accept (s : State) (p : Nat) (g : Graupel) : State :=
  let x := lnkOf s p
  let old := match x.rx with
    | some o => o.bytes
    | none => []
  let bytes := old ++ g.payload.take g.len
  let s := s.put (LNK_RXSTATE_EXP p) (g.seq + 1)
  let s := s.setLnk p
    { x with
      occ := bumpAt x.occ g.cls (· + 1), sincePub := x.sincePub + 1, oldest := some (x.oldest.getD s.now)
      rx := if g.eop then none else some ⟨g.cls, bytes⟩ }
  let s := if g.eop then s.packetIn p g.cls (divUp bytes.length 240) bytes else s
  if s.get (LNK_TIMERS_ACK_COUNT p) ≤ x.sincePub + 1 then s.publish p else s

/-- DATA_GRAUPEL (Table 13.7), and every graupel of a reserved TYPE. -/
def execDataGraupel (p : Nat) (r : Rx) (s : State) : Host.Outcome State Fault Refusal :=
  let g := graupelOf r.bytes
  if !receiving s p || g.type = 0 || g.type = 2 then .next s
  else
    let s := (s.quiet p).countFec p r
    if r.bad || !g.crcOk || g.type ≠ 1 then .next (s.badGraupel p)
    else
      let s := s.takeFields p g
      if lnkSt s p = lkDown ∨ ¬ (lnkSt s p = lkUp ∨ (lnkOf s p).step = 6) then .next s
      else
        let d := (g.seq + 4096 - s.get (LNK_RXSTATE_EXP p)) % 4096
        let x := lnkOf s p
        let openOk := match x.rx with
          | some o => !g.sop && o.cls == g.cls
          | none => g.sop
        if 2049 ≤ d then .next ((s.count (LNK_CNT2_DUP p) 1).publish p)
        else if 1 ≤ d ∧ d ≤ 2046 then .next (s.count (LNK_CNT2_AHEAD p) 1)
        else if d ≠ 0 || 6 ≤ g.cls || !openOk || x.alloc.getD g.cls 0 ≤ x.occ.getD g.cls 0 then .next (s.protocolDown p)
        else .next (s.accept p g)

/-- Receive slots that a packet frees as it leaves them for the next hop: credits of its class return (R264, R271). -/
def State.freeSlots (s : State) (q : QPkt) : State :=
  if q.port < 72 ∧ q.slots ≠ 0 then
    let c := q.cls
    s.modLnk q.port fun x => { x with ret := bumpAt x.ret c (fun n => (n + q.slots) % 4096), occ := bumpAt x.occ c (· - q.slots) }
  else s

/-- ACK_TIMER (R260). -/
def execAckTimer (p : Nat) (s : State) : Host.Outcome State Fault Refusal :=
  match (lnkOf s p).oldest with
  | some t =>
    if hasPort s p && lnkSt s p == lkUp && t + 10 * s.get (LNK_TIMERS_ACK_TMO_10NS p) ≤ s.now then .next (s.publish p)
    else .next s
  | none => .next s

/-! Link-control messages (Table 13.6, R268). -/

/-- A good CTRL graupel of one MSG: its payload once its fields are taken; a reserved MSG is bad. -/
def ctrlIn (s : State) (p : Nat) (r : Rx) (msg : Nat) : State × Option (List Byte) :=
  let g := graupelOf r.bytes
  let m := leNat (g.payload.take 1)
  if !receiving s p || g.type ≠ 2 || (m ≠ msg && 1 ≤ m && m ≤ 6) then (s, none)
  else
    let s := (s.quiet p).countFec p r
    if r.bad || !g.crcOk || m ≠ msg then (s.badGraupel p, none) else (s.takeFields p g, some g.payload)

/-- Steps 4 to 6 of Table 13.10. -/
def inExchange (s : State) (p : Nat) : Bool := lnkSt s p == lkTraining && 4 ≤ (lnkOf s p).step && (lnkOf s p).step ≤ 6

/-- PARAM. -/
def execLnkParam (p : Nat) (r : Rx) (s : State) : Host.Outcome State Fault Refusal :=
  match ctrlIn s p r 1 with
  | (s, some l) =>
    if inExchange s p then
      .next (s.modLnk p fun x => { x with
        partner := some (leNat (slice l 1 1) % 16, leNat (slice l 2 1), leNat (slice l 3 1)) })
    else .next s
  | (s, none) => .next s

/-- INIT: the partner's allocations are this sender's credits; INIT_ACK answers. -/
def execLnkInit (p : Nat) (r : Rx) (s : State) : Host.Outcome State Fault Refusal :=
  match ctrlIn s p r 2 with
  | (s, some l) =>
    if inExchange s p then
      let s := (List.range 6).foldl (fun s c => s.put (credF p c) (leNat (slice l (4 + 2 * c) 2))) s
      .next (((s.modLnk p fun x => { x with gotInit := true }).emitCtrl p 3 0 0 0 [] 0).tryUp p)
    else .next s
  | (s, none) => .next s

/-- INIT_ACK. -/
def execInitAck (p : Nat) (r : Rx) (s : State) : Host.Outcome State Fault Refusal :=
  match ctrlIn s p r 3 with
  | (s, some _) =>
    if inExchange s p then .next ((s.modLnk p fun x => { x with gotAck := true }).tryUp p) else .next s
  | (s, none) => .next s

/-- SLEEP_REQ (R269). -/
def execSleepReq (p : Nat) (r : Rx) (s : State) : Host.Outcome State Fault Refusal :=
  match ctrlIn s p r 4 with
  | (s, some _) =>
    if lnkSt s p = lkUp then .next ((s.modLnk p fun x => { x with sleepReq := true }).trySleep p) else .next s
  | (s, none) => .next s

/-- A sleeping port resumes: its framing must relock within 5 µs. -/
def State.wakePort (s : State) (p : Nat) : State :=
  if lnkSt s p = lkSleep ∧ (lnkOf s p).waking = none then s.modLnk p fun x => { x with waking := some s.now } else s

/-- SLEEP_ACK (R269); where the node's own entry has been cancelled since, the port wakes again at once. -/
def execSleepAck (p : Nat) (r : Rx) (s : State) : Host.Outcome State Fault Refusal :=
  match ctrlIn s p r 5 with
  | (s, some _) =>
    if lnkSt s p = lkUp ∧ (lnkOf s p).sleepSent then
      let s := (s.modLnk p fun x => { x with sleepSent := false }).putLnkSt p lkSleep (s.get (LNK_EVENT_DOWN_CAUSE p))
      .next (if s.get PWR_STATE_STATE = 0 then s.wakePort p else s)
    else .next s
  | (s, none) => .next s

/-- GOING_DOWN. -/
def execGoingDown (p : Nat) (r : Rx) (s : State) : Host.Outcome State Fault Refusal :=
  match ctrlIn s p r 6 with
  | (s, some _) => if lnkSt s p = lkUp then .next (s.linkDown p 8 false) else .next s
  | (s, none) => .next s

/-- A port asks its partner for Sleep once nothing is outstanding (R269). -/
def State.sleepPort (s : State) (p : Nat) : State :=
  if hasPort s p && lnkSt s p == lkUp && s.flag (LNK_CTL_SLEEP_EN p) && s.get (LNK_TXSTATE_OUTSTANDING p) == 0 then
    ((s.quiet p).emitCtrl p 4 0 0 0 [] 0).modLnk p fun x => { x with sleepSent := true }
  else s

/-- FRAMING_RELOCK (R269): a port that wakes is UP again, or LOCK_LOST where it took longer than 5 µs; one that its partner
put to sleep follows as the partner wakes, while the node itself does not sleep. -/
def execFramingRelock (p : Nat) (s : State) : Host.Outcome State Fault Refusal :=
  if !hasPort s p || lnkSt s p ≠ lkSleep then .next s
  else
    let up := ((s.quiet p).modLnk p fun x => { x with waking := none, good := s.now }).putLnkSt p lkUp (s.get (LNK_EVENT_DOWN_CAUSE p))
    match (lnkOf s p).waking with
    | some t => .next (if s.now ≤ t + 5000 then up else (s.quiet p).linkDown p 3 false)
    | none => .next (if s.get PWR_STATE_STATE = 2 then s else up)

/-! The sender (R262, R263). -/

/-- Whether a packet of `k` graupels may start: the window, then its credits; and no replay in progress. -/
def windowOk (s : State) (p k : Nat) : Bool := s.get (LNK_TXSTATE_OUTSTANDING p) + k ≤ 2047
def creditsOk (s : State) (p c k : Nat) : Bool := k ≤ s.get (credF p c)
def replaying (s : State) (p : Nat) : Bool := (lnkOf s p).replay.isSome

/-- SEND_PACKET: the packet that the switch chose for the port starts on the link. -/
def execSendPacket (p : Nat) (s : State) : Host.Outcome State Fault Refusal :=
  match NMap.find s.fab.sel p with
  | none => .next s
  | some q =>
    if !hasPort s p || lnkSt s p ≠ lkUp then .next s
    else
      let c := pktClass q.pkt
      let k := graupels q.pkt
      if !windowOk s p k then .next (s.raise (LNK_EVENT_WINDOW_FULL p))
      else if !creditsOk s p c k || replaying s p then .next s
      else
        let seq := s.get (LNK_TXSTATE_NEXT_SEQ p)
        let out := s.get (LNK_TXSTATE_OUTSTANDING p)
        let t : TxPkt := ⟨q.pkt, c, seq, k⟩
        let s := ({ s with fab := { s.fab with sel := NMap.erase s.fab.sel p } }.freeSlots q).quiet p
        let s := ((s.put (credF p c) (s.get (credF p c) - k)).put (LNK_TXSTATE_NEXT_SEQ p) (seq + k)).put
          (LNK_TXSTATE_OUTSTANDING p) (out + k)
        let s := s.modLnk p fun x => { x with
          buf := x.buf ++ [t], used := bumpAt x.used c (· + k), timer := if out = 0 then s.now else x.timer }
        .next (s.emitPkt p t)

/-- REPLAY_TIMEOUT (R263, R265): a replay starts from ACKED, abandoning one in progress; its graupels follow as the lanes take
them. -/
def execReplayTimeout (p : Nat) (s : State) : Host.Outcome State Fault Refusal :=
  let x := lnkOf s p
  if hasPort s p && lnkSt s p == lkUp && s.get (LNK_TXSTATE_OUTSTANDING p) != 0 &&
      x.timer + 100 * s.get (LNK_TIMERS_REPLAY_TMO_100NS p) ≤ s.now then
    let s := (s.quiet p).count (LNK_CNT0_REPLAYS p) 1
    let rs := s.now :: x.replays.filter fun t => s.now < t + 100000000
    let s := s.modLnk p fun x => { x with replays := rs, timer := s.now }
    let short := (rs.filter fun t => s.now < t + 100000).length
    if s.get (LNK_TIMERS_DOWN_SHORT p) < short then .next (s.linkDown p 1 false)
    else if s.get (LNK_TIMERS_DOWN_LONG p) < rs.length then .next (s.linkDown p 2 false)
    else
      .next ((s.modLnk p fun x => { x with replay := some (s.get (LNK_TXSTATE_ACKED p)) }).emitNext p)
  else .next s

/-- LOCK_LOST (R265); of a port that wakes, once its relock has taken longer than 5 µs (R269). -/
def execLockLost (p : Nat) (s : State) : Host.Outcome State Fault Refusal :=
  if hasPort s p && (lnkSt s p == lkUp || (lnkSt s p == lkSleep && (lnkOf s p).waking.any fun t => t + 5000 < s.now)) then .next ((s.quiet p).linkDown p 3 false) else .next s

/-- RX_SILENT (R265): 10 µs without a good graupel. -/
def execRxSilent (p : Nat) (s : State) : Host.Outcome State Fault Refusal :=
  if hasPort s p && lnkSt s p == lkUp && (lnkOf s p).good + 10000 ≤ s.now then .next ((s.quiet p).linkDown p 4 false)
  else .next s

end Sys2Proof.Machine
end

