-- ==== Sys2Proof/Machine/Fabric.lean ====
section
/-! DEFINITION. The floe switch (chapter 14): routing, filters and tenant policers, table writes, this node's own
requests with their retries and replies, and the queue histograms (chapter 15). Delivery to the tiles is in Deliver. -/

namespace Sys2Proof.Machine

open Reg

/-! Routing (R276 to R278). -/

/-- The routing table of a packet (Table 14.3). -/
def tableOf (p : Pkt) : Nat := if p.mclass = 2 then 2 else p.tblEpoch

def rtEntry (s : State) (table agent : Nat) : Nat := NMap.getD s.fab.rt (4096 * table + agent) 0

/-- The ports that an entry names (Table 14.4). -/
def rtPorts (e : Nat) : List Nat := if bit e 63 then (List.range (bits e 59 56)).map fun i => bits e (7 * i + 6) (7 * i) else []

def isSpare (s : State) (p : Nat) : Bool :=
  if p < 64 then bit (s.get FAB_SPARE0_SPARE) p else bit (s.get FAB_SPARE1_SPARE) (p - 64)

def portUp (s : State) (p : Nat) : Bool := hasPort s p && lnkSt s p == lkUp

/-- The usable ports of an entry for a class: those UP and admitted (R276 step 4, R278). -/
def usablePorts (s : State) (e cls : Nat) : List Nat :=
  let named := rtPorts e
  let plain := named.filter fun p => !isSpare s p
  let short := (plain.filter (portUp s)).length < plain.length
  named.filter fun p => portUp s p && (!isSpare s p || short || cls == 4 || cls == 5)

/-- The port a packet leaves on: most sender credits, ties in rotation by the entry's pointer (R276 step 5). -/
def choosePort (s : State) (key cls : Nat) (ps : List Nat) : Option Nat × State :=
  let best := ps.foldl (fun m p => max m (s.get (credF p cls))) 0
  match ps.filter fun p => s.get (credF p cls) = best with
  | [] => (none, s)
  | [p] => (some p, s)
  | tied =>
    let r := NMap.getD s.fab.rot key 0
    (some (tied.getD (r % tied.length) 0), { s with fab := { s.fab with rot := NMap.insert s.fab.rot key (r + 1) } })

/-! Filters and tenant policers at an external ingress (R292, R304). -/

/-- Whether a filter rule matches a packet. -/
def fltMatches (s : State) (p : Pkt) (n : Nat) : Bool :=
  let x := Nat.land (headerQword p (s.get (FAB_FLT_CTL_OFFSET n))) (s.get (FAB_FLT_MASK_MASK n))
  let v := s.get (FAB_FLT_VALUE_VALUE n)
  let c := s.get (FAB_FLT_CTL_CMP n)
  s.flag (FAB_FLT_CTL_ENABLE n) &&
  (if c = 0 then x == v else if c = 1 then x != v else if c = 2 then x < v else v ≤ x)

/-- Packets that pass every rule untested. -/
def fltExempt (p : Pkt) : Bool := p.mclass == 4 || (0x50 ≤ p.opcode && p.opcode ≤ 0x66)

/-- The filter rules applied: whether the packet is dropped. -/
def State.filterPkt (s : State) (p : Pkt) : Bool × State :=
  if fltExempt p then (false, s)
  else match (List.range 64).find? (fltMatches s p) with
  | none => (false, s)
  | some n => (s.get (FAB_FLT_CTL_ACTION n) == 1, s.count (FAB_FLT_HITS_HITS n) 1)

/-- The tenant policer of a tenant, where its QOS_TMAP entry is VALID. -/
def tmapOf (s : State) (t : Nat) : Option Nat :=
  let b := bits (s.get (QOS_TMAP_MAP (t / 8))) (8 * (t % 8) + 7) (8 * (t % 8))
  if bit b 7 then some (b % 64) else none

/-- Whether R304 meters a packet. -/
def metered (p : Pkt) : Bool := reqClass (pktClass p) && p.mclass == 0 && !(0x50 ≤ p.opcode && p.opcode ≤ 0x54)

/-- A packet metered: its colour written, or none where it is discarded. -/
def State.policePkt (s : State) (p : Pkt) : Option Pkt × State :=
  match if metered p then tmapOf s p.tenant else none with
  | none => (some p, s)
  | some t =>
    let k := 4096 + t
    let pol := policerOf s k
    if pol.algo = 0 then (some p, s)
    else
      let (tc, te) := buckets s k
      let (c, tc', te') := mark pol tc te (64 + p.len) p.colour
      let s := (s.putBuckets k tc' te').countColour k c
      if c = 2 ∧ s.get (POLA_RED_ACT (polBank k)) = 1 then
        (none, (s.count (POLCNT1_DROPPED (polBank k)) 1).raise QOS_EVENT_POL_DROP)
      else (some { p with colour := c }, s)

/-! PACKET_FORWARD. -/

/-- Whether a packet is for this node (R276 step 2; the service agent's at a paired node). -/
def forUs (s : State) (p : Pkt) : Bool :=
  p.dst == s.self || (s.get MIR_STATUS_STATE != 0 && p.dst == s.get MIR_CFG_SVC_AGENT)

/-- The tile that one of this node's own requests comes from: an engine's, a mover's, the icefall engine's, the management
complex's, or the home tile of the line that it is for (R17, R18, R152). -/
def purposeTile (s : State) (line : Nat) : Purpose → Nat
  | .engine e _ _ => engTile e
  | .tile c i ord => (liveOf s c i).elim 15 (moverOf s · ord) % 16
  | .place _ _ => Endpoint.icefall.tile
  | .mgmt => Endpoint.management.tile
  | _ => homeTile s line % 16

/-- The outstanding request that a packet is, or that a reply is for. -/
def ownPurpose (s : State) (agent tag : Nat) : Option Purpose := (NMap.find s.fab.reqs (4096 * agent + tag)).map OwnReq.purpose

/-- The tile at whose internal port a packet of this node enters the switch (R18). -/
def sourceTile (s : State) (p : Pkt) : Nat :=
  match if reqClass (pktClass p) then ownPurpose s p.dst p.tag else none with
  | some w => purposeTile s (rpaOff p.addr) w
  | none =>
    if p.mclass = 4 ∨ p.opcode = 0x32 then Endpoint.management.tile
    else if rpaNode p.addr = s.node then homeTile s (rpaOff p.addr) % 16 else p.domain % 16

/-- The tile a packet for this node is delivered at (R18): its line's home; a control access's and a management frame's is
the management complex's (R17), a region's its home tile (R45), a reply's the one its request came from; without any of
them, the one of its order domain (log entry 21). -/
def tileFor (s : State) (p : Pkt) : Nat :=
  if ¬ reqClass (pktClass p) then
    match ownPurpose s p.src p.tag with
    | some w => purposeTile s (rpaOff p.addr) w
    | none => if rpaNode p.addr = s.node then homeTile s (rpaOff p.addr) % 16 else p.domain % 16
  else if p.mclass = 4 ∨ p.opcode = 0x30 ∨ p.opcode = 0x31 then Endpoint.management.tile
  else if p.opcode = 0x72 ∨ p.opcode = 0x73 then regionTile (Config.verName (pktHeader p)).1
  else if rpaNode p.addr = s.node ∧ p.opcode ≠ 0x71 then homeTile s (rpaOff p.addr) % 16
  else p.domain % 16

/-- A packet put into the queue of its output and class, where every input keeps its waiting packets (R299): it still holds its
receive slots, and moves on only once the next hop has room for it (R271). -/
def State.toOut (s : State) (q : QPkt) (port : Nat) : State :=
  let k := 8 * port + pktClass q.pkt
  { s with fab := { s.fab with outq := NMap.insert s.fab.outq k (NMap.getD s.fab.outq k [] ++ [{ q with noRoute := none }]) } }

/-- Steps 3 to 6 of R276; a packet with no usable port goes back to the front of the inputs. -/
def State.route (s : State) (q : QPkt) (here : List QPkt) : State :=
  let p := q.pkt
  if forUs s p then s.toOut q (72 + tileFor s p)
  else match takingGroup s p with
  | some _ => (s.freeSlots q).contribIn p
  | none =>
    let key := 4096 * tableOf p + p.dst
    let e := rtEntry s (tableOf p) p.dst
    match choosePort s key (pktClass p) (usablePorts s e (pktClass p)) with
    | (some port, s) => s.toOut q port
    | (none, s) =>
      { s with fab := { s.fab with inq := here ++ [{ q with noRoute := some (q.noRoute.getD s.now) }] ++ s.fab.inq.drop here.length } }

/-- The ingress rules, once for a packet: HOPS, colour 3 read as red, filters, tenant policer, which R314's check
precedes (R276 step 1, R292, R296, R304). None where the packet is discarded. -/
def State.ingress (s : State) (q : QPkt) : Option QPkt × State :=
  if q.seen then (some q, s)
  else
    let p := { q.pkt with
      hops := q.pkt.hops + 1
      colour := min q.pkt.colour 2 }
    if s.get FAB_CFG_HOP_LIMIT < p.hops then (none, s.count FAB_CNT0_HOP_DROP 1)
    else if 72 ≤ q.port then (some { q with
      pkt := p
      seen := true }, s)
    else
      let (drop, s) := s.filterPkt p
      if drop then
        match takingGroup s p with
        | some g =>
          (none, if p.opcode = 0x12 ∧ contribGate s p = .pass then s.takeContrib g p true else s.answer p stPermission)
        | none => (none, s.answer p stPermission)
      else match (if (forUs s p || (takingGroup s p).isSome) && epochGate s p != .pass then (some p, s) else s.policePkt p) with
      | (some p, s) => (some { q with
          pkt := p
          seen := true }, s)
      | (none, s) =>
        (none, if p.opcode = 0x70 then (if forUs s p then s.notePosted (domKey p) stPermission else s) else s.answer p stPermission)

/-- Whether the switch moves a packet now (FAB_CFG.ENABLE, R364). -/
def movesNow (s : State) (p : Pkt) : Bool :=
  !shut s && (s.flag FAB_CFG_ENABLE || pktClass p == 4 || pktClass p == 5)

/-- Packets of one input, class and destination move in their order (R299). -/
def behind (q : Pkt) (l : List Pkt) : Bool := l.any fun r => pktClass r = pktClass q && r.dst = q.dst

/-- PACKET_FORWARD (R276): packet `n` of those the node's units have handed over, or of the inputs, is routed. -/
def execPacketForward (tx : Bool) (n : Nat) (s : State) : Host.Outcome State Fault Refusal :=
  if tx then
    match s.fab.tx[n]? with
    | none => .next s
    | some p =>
      if !movesNow s p || behind p (s.fab.tx.take n) then .next s
      else
        let s := { s with fab := { s.fab with tx := s.fab.tx.eraseIdx n } }.entered p
        match s.ingress ⟨p, 72 + sourceTile s p, s.now, false, none, pktClass p, 0⟩ with
        | (none, s) => .next s
        | (some q, s) => .next (s.route q s.fab.inq)
  else
    match s.fab.inq[n]? with
    | none => .next s
    | some q =>
      let before := s.fab.inq.take n
      if !movesNow s q.pkt || behind q.pkt ((before.filter fun r => r.port = q.port).map QPkt.pkt) then .next s
      else
        match { s with fab := { s.fab with inq := s.fab.inq.eraseIdx n } }.ingress q with
        | (none, s) => .next (s.freeSlots q)
        | (some q, s) => .next (s.route q (s.fab.inq.take n))

/-- ROUTE_WAIT_EXPIRY (R276 step 6): the `n`-th packet at the inputs has waited ROUTE_WAIT_US. -/
def execRouteWaitExpiry (n : Nat) (s : State) : Host.Outcome State Fault Refusal :=
  match s.fab.inq[n]? with
  | none => .next s
  | some q => match q.noRoute with
    | none => .next s
    | some t =>
      if t + 1000 * s.get FAB_TIMERS_ROUTE_WAIT_US ≤ s.now then
        let s := { s with fab := { s.fab with inq := s.fab.inq.eraseIdx n } }.freeSlots q
        .next (((s.count FAB_CNT0_NO_ROUTE 1).raise FAB_EVENT_NO_ROUTE).answer q.pkt stDevErr)
      else .next s

/-! Packets held (R284, R286), and table writes (R277). -/

/-- Every packet the switch holds, until the next partner has acknowledged all of it. -/
def heldPkts (s : State) : List Pkt :=
  s.fab.inq.map QPkt.pkt ++ s.fab.outq.flatMap (fun (x : Nat × List QPkt) => x.2.map QPkt.pkt) ++
    s.fab.sel.map (fun (x : Nat × QPkt) => x.2.pkt) ++ s.lnk.ports.flatMap (fun (x : Nat × LnkPort) => x.2.buf.map TxPkt.pkt)

/-- FAB_EPOCHn.COUNT and FAB_PUSH.COUNT. -/
def epochCount (s : State) (n : Nat) : Nat := ((heldPkts s).filter fun p => epochCounted p && p.tblEpoch = n).length
def pushCount (s : State) : Nat := ((heldPkts s).filter fun p => p.mclass = 2).length

/-- Whether a value is an entry that may be stored (R277; log entry 22 for an entry that is not VALID). -/
def rtStorable (s : State) (e : Nat) : Bool :=
  let n := bits e 59 56
  let named := (List.range n).map fun i => bits e (7 * i + 6) (7 * i)
  n ≤ 8 && e % 2 ^ 56 < 2 ^ (7 * n) && (if bit e 63 then 1 ≤ n && named.all (hasPort s) else n == 0)

/-- FAB_RT_DATA_WRITE (R277, R284, R286). -/
def execFabRtDataWrite (v : Word64) (s : State) : Host.Outcome State Fault Refusal :=
  let e := setBits v.toNat 62 60 0
  let t := s.get FAB_RT_SEL_TABLE
  let free := if t = 2 then s.flag FAB_CFG_PUSH_HOLD && pushCount s == 0
    else s.get FAB_CFG_TX_EPOCH != t && epochCount s t == 0
  let k := 4096 * t + s.get FAB_RT_SEL_AGENT
  if free && rtStorable s e then
    .next ({ s with fab := { s.fab with rt := if e = 0 then NMap.erase s.fab.rt k else NMap.insert s.fab.rt k e } }.put
      FAB_RT_SEL_STATUS stOK)
  else .next (s.put FAB_RT_SEL_STATUS stPermission)

/-! Replies to this node's own requests (R274, R282). -/

/-- Whoever waited for a mirrored write's lines is told once the standby has all of them (R335). -/
def State.releaseHeld (s : State) (h : Held) : State :=
  match h.forWhom with
  | .reply p gen => (s.replyLeaves p gen).wakeReply p
  | .acc _ gen _ => s.leave gen
  | _ => s

/-- One PL_ACK of a mirrored write. -/
def State.mirrorAck (s : State) (id : Nat) : State :=
  match NMap.find s.mir.held id with
  | none => s
  | some h =>
    if h.due ≤ 1 then { s with mir := { s.mir with held := NMap.erase s.mir.held id } }.releaseHeld h
    else { s with mir := { s.mir with held := NMap.insert s.mir.held id { h with due := h.due - 1 } } }

/-- A line that has come back from the node that held it: decrypted and kept (R109). -/
def State.fillLine (s : State) (line : Nat) (data : List Byte) (poison : Bool) : State :=
  let plain := match extAt s (128 * line) with
    | some (i, x) =>
      (Config.xtsDecrypt (NMap.getD s.sec.keys x.tenant []) (i * 2 ^ 32 + (128 * line - x.base) / 128) (fitBytes 128 data)).toList
    | none => fitBytes 128 data
  { s.wr (128 * line) (plain.map some) poison with plc := { s.plc with filled := insSorted line s.plc.filled } }

/-- An access of a line no longer waits for it. -/
def State.fetched (s : State) (id line : Nat) : State :=
  match NMap.find s.dir.accs id with
  | some a => { s with dir := { s.dir with accs := NMap.insert s.dir.accs id { a with fetch := a.fetch.filter (· ≠ line) } } }
  | none => s

/-- An access whose line nobody could supply: a fabric request ends with DEVICE_ERROR, any other meets poison
(log entry 23). -/
def State.fetchFails (s : State) (id line : Nat) : State :=
  match NMap.find s.dir.accs id with
  | some a => match a.org with
    | .fabric p =>
      if p.opcode = 0x08 then ((s.retain p stDevErr none).send (atomicReply s p stDevErr none)).closeReplied id a.gen
      else if p.opcode = 0x70 then (s.postedFails id (domKey p) stDevErr).closeAcc id
      else (s.answerWrite p stDevErr).closeReplied id a.gen
    | _ => (s.poisonChunks [2 * line, 2 * line + 1]).fetched id line
  | none => s

/-- The transaction of a line that waits for the line itself takes its effect (R54, R109). -/
def State.concludeLine (s : State) (line : Nat) : State :=
  match s.dir.txns.find? fun t => t.line = line && t.started && t.waits = [] && !t.ready with
  | some t => s.finish t
  | none => s

/-- PL_DATA for a coherence transaction (R109): the line is kept, or reads as poison where nobody could supply it. -/
def State.fetchedTxn (s : State) (line st : Nat) (data : List Byte) (poison : Bool) : State :=
  if !needFetch s line then s.concludeLine line
  else if st = stOK ∨ st = stPoisoned then (s.fillLine line data poison).concludeLine line
  else (s.poisonChunks [2 * line, 2 * line + 1]).concludeLine line

/-- PL_DATA for an access (R109, R337). -/
def State.fetchDone (s : State) (id line st : Nat) (data : List Byte) (poison : Bool) : State :=
  if id = 0 then (s.fetchedTxn line st data poison).tryAccs
  else if needFetch s line then
    if st = stOK ∨ st = stPoisoned then ((s.fillLine line data poison).fetched id line).tryAccs
    else (s.fetchFails id line).tryAccs
  else
    let heal := st = stOK ∧ ¬ poison ∧ poisonedIn s (128 * line) 128 ∧ (frameAt s (128 * line)).tier ≠ .remote
    let s := if heal then
        let s := { s.fillLine line data false with plc := s.plc }
        match unitOf s (128 * line) with
        | some (t, u, _) => s.post { cls := 0, unitType := t, unitIndex := u, cause := 0x0001, status := stOK,
                                     tenant := (extAt s (128 * line)).map fun x => x.2.tenant, agent := 0,
                                     addr := some (s.node * 2 ^ 50 + 128 * line), info := 0 }
        | none => s
      else s
    (s.fetched id line).tryAccs

/-- PUSH_ACK for a tile or a progress counter (R164, Table 7.6). -/
def State.pushAcked (s : State) (c i ord st : Nat) : State :=
  match liveOf s c i with
  | none => s
  | some l =>
    if st ≠ stOK ∧ st ≠ stDuplicate then s.failPush c i (if ord = ctrTile then l.next else ord)
    else if ord = ctrTile then s.setLive c { l with ctrDue := 0 }
    else s.setLive c { l with tiles := l.tiles.map fun t => if t.ord = ord then { t with due := t.due - 1 } else t }

/-- What a request's end means to the unit that sent it. -/
def State.finishReq (s : State) (r : OwnReq) (st : Nat) (data : List Byte) (poison : Bool) : State :=
  match r.purpose with
  | .mirror id => if st = stOK then s.mirrorAck id else s
  | .fetch acc line => s.fetchDone acc line st data poison
  | .engine e t part => s.engReply e t part st data poison
  | .tile c i ord => s.pushAcked c i ord st
  | .place _ line =>
    if r.pkt.opcode = 0x20 ∧ needFetch s line then
      s.fillLine line data (poison || !(st == stOK || st == stPoisoned))
    else s
  | .parent g c => s.parentAnswered g c st data
  | .gather g c i => s.gatherWritten g c i
  | .writeBack _ | .snoop _ | .mgmt => s

/-- A tag that is free again serves the next request that waits for one toward its destination (R279). -/
def State.nextTag (s : State) (dst : Nat) : State :=
  match s.fab.waitTag.find? fun w => w.1.dst = dst with
  | none => s
  | some w => { s with fab := { s.fab with waitTag := s.fab.waitTag.erase w } }.sendReq w.1 w.2

/-- A request of this node ended. -/
def State.endReq (s : State) (k : Nat) (r : OwnReq) (st : Nat) (data : List Byte) (poison : Bool) : State :=
  ({ s with fab := { s.fab with reqs := NMap.erase s.fab.reqs k } }.finishReq r st data poison).nextTag r.pkt.dst

/-- A status code as it is received: a reserved one is DEVICE_ERROR (R8, R9). -/
def statusRead (st : Nat) : Nat :=
  if [stOK, stPartial, stDuplicate, stXlate, stRevoked, stPermission, stConflict, stNotOwner, stPoisoned, stUncertain,
    stFenced, stEpoch, stAborted, stDevErr].contains st then st else stDevErr

/-- Placement requests without a reply, counted by holder (R119). -/
def placeOp (p : Pkt) : Bool := p.opcode == 0x20 || p.opcode == 0x21
def State.noteSilent (s : State) (agent n : Nat) : State :=
  { s with plc := { s.plc with silent := if n = 0 then NMap.erase s.plc.silent agent else NMap.insert s.plc.silent agent n } }

/-- A reply of opcode `op`: bad headers are discarded and counted (R273); the rest go to their request. -/
def State.reply (s : State) (op : Nat) (p : Pkt) : State :=
  if p.opcode ≠ op ∨ shut s then s
  else if headerBad p then s.count FAB_CNT0_HDR_BAD 1
  else
    let k := 4096 * p.src + p.tag
    match NMap.find s.fab.reqs k with
    | some r =>
      if replyOp r.pkt.opcode = some op then
        (if placeOp r.pkt then s.noteSilent p.src 0 else s).endReq k r (statusRead p.status) p.payload p.poison
      else s
    | none => s

def execRdData (p : Pkt) (s : State) : Host.Outcome State Fault Refusal := .next (s.reply 0x03 p)
def execWrAck (p : Pkt) (s : State) : Host.Outcome State Fault Refusal := .next (s.reply 0x04 p)
def execAtomicRsp (p : Pkt) (s : State) : Host.Outcome State Fault Refusal := .next (s.reply 0x09 p)
def execRedResult (p : Pkt) (s : State) : Host.Outcome State Fault Refusal := .next (s.reply 0x11 p)
def execGathAck (p : Pkt) (s : State) : Host.Outcome State Fault Refusal := .next (s.reply 0x13 p)
def execPlData (p : Pkt) (s : State) : Host.Outcome State Fault Refusal := .next (s.reply 0x22 p)
def execPlAck (p : Pkt) (s : State) : Host.Outcome State Fault Refusal := .next (s.reply 0x23 p)
def execPushAck (p : Pkt) (s : State) : Host.Outcome State Fault Refusal := .next (s.reply 0x29 p)

/-- A request sent again, or ended with DEVICE_ERROR once RETRY_MAX is used up (R282). -/
def State.retryReq (s : State) (k : Nat) (r : OwnReq) : State :=
  if s.get FAB_TIMERS_RETRY_MAX ≤ r.tries then
    let s := s.post { cls := 1, unitType := utSwitch, unitIndex := 0, cause := 0x0006, status := stDevErr, tenant := some r.pkt.tenant,
                      agent := r.pkt.dst, addr := some r.pkt.addr, info := 0 }
    (if placeOp r.pkt then s.noteSilent r.pkt.dst (NMap.getD s.plc.silent r.pkt.dst 0 + 1) else s).endReq k r stDevErr [] false
  else
    { s with fab := { s.fab with reqs := NMap.insert s.fab.reqs k { r with
      tries := r.tries + 1
      sent := s.now } } }.send { r.pkt with retry := true }

/-- A snoop sent again; after RETRY_MAX its end is R66's. -/
def State.retrySnoop (s : State) (o : OwnReq) : State :=
  if s.get FAB_TIMERS_RETRY_MAX ≤ o.tries then
    { s with fab := { s.fab with snoops := s.fab.snoops.erase o } }.post
      { cls := 1, unitType := utSwitch, unitIndex := 0, cause := 0x0006, status := stDevErr, tenant := some o.pkt.tenant,
        agent := o.pkt.dst, addr := some o.pkt.addr, info := 0 }
  else
    { s with fab := { s.fab with snoops := s.fab.snoops.map fun x => if x = o then { o with
      tries := o.tries + 1
      sent := s.now } else x } }.send { o.pkt with retry := true }

/-- RETRY_TIMER (R282). -/
def execRetryTimer (dst tag : Nat) (s : State) : Host.Outcome State Fault Refusal :=
  let late := fun (o : OwnReq) => o.sent + 1000 * s.get FAB_TIMERS_RETRY_US ≤ s.now
  match NMap.find s.fab.reqs (4096 * dst + tag) with
  | some r => if late r then .next (s.retryReq (4096 * dst + tag) r) else .next s
  | none => match s.fab.snoops.find? fun o => o.pkt.dst = dst && o.pkt.tag = tag && late o with
    | some o => .next (s.retrySnoop o)
    | none => .next s

/-- DOUBT (R282): the request named by TAG and PSN is retried at once. -/
def execFabDoubt (p : Pkt) (s : State) : Host.Outcome State Fault Refusal :=
  if p.opcode ≠ 0x0e then .next s
  else if headerBad p then .next (s.count FAB_CNT0_HDR_BAD 1)
  else
    let named := fun (o : OwnReq) => o.pkt.tag = p.tag && o.pkt.psn = p.psn
    match s.fab.reqs.find? fun (x : Nat × OwnReq) => named x.2 && x.2.pkt.dst = p.src with
    | some (k, r) => .next (s.retryReq k r)
    | none => match s.fab.snoops.find? fun o => named o && o.pkt.dst = p.src with
      | some o => .next (s.retrySnoop o)
      | none => .next s

/-! What is kept for duplicates lapses after 200 µs (R282, R360). -/

/-- FIRST_DELIVERY_STATUS_EXPIRY. -/
def execFirstDeliveryStatusExpiry (src : Nat) (s : State) : Host.Outcome State Fault Refusal :=
  .next { s with fab := { s.fab with
    first := NMap.adjust s.fab.first src fun (l : List FirstStatus) => l.filter fun x => s.now < x.time + 200000
    coh := NMap.adjust s.fab.coh src fun (l : List CohOutcome) => l.filter fun x => s.now < x.time + 200000 } }

/-- RETENTION_EXPIRY. -/
def execRetentionExpiry (src : Nat) (s : State) : Host.Outcome State Fault Refusal :=
  .next { s with err := { s.err with
    retention := NMap.adjust s.err.retention src fun (l : List Retained) => l.filter fun x => s.now < x.time + 200000 } }

/-! Queue histograms (R308, R309). -/

/-- Depth of an output class queue, in graupels (R307). -/
def queueDepth (s : State) (port cls : Nat) : Nat :=
  (NMap.getD s.fab.outq (8 * port + cls) []).foldl (fun n q => n + graupels q.pkt) 0

/-- Whether a packet of an output class queue is deferred now (R307). -/
def deferredNow (s : State) (port cls : Nat) (p : Pkt) : Bool :=
  let q := NMap.getD s.fab.outq (8 * port + cls) []
  let deep := fun (n : Nat) => n ≠ 0 && n < queueDepth s port cls
  (cls == 1 || cls == 3) &&
  if p.colour = 2 then deep (s.get (QOS_PORT_DEFER_RED_DEFER port)) && q.any fun (x : QPkt) => x.pkt.colour < 2
  else p.colour == 1 && deep (s.get (QOS_PORT_DEFER_YELLOW_DEFER port)) && q.any fun (x : QPkt) => x.pkt.colour = 0

/-- The bin of a value (Table 15.3). -/
def binOf (x : Nat) : Nat := min 15 (if x = 0 then 0 else Nat.log2 x + 1)

/-- The age of the oldest of these rack times, in units of 10 ns. -/
def oldestAge (s : State) (l : List Nat) : Nat := match l with
  | [] => 0
  | t :: ts => (s.now - ts.foldl min t) / 10

/-- The sampled values of the queue that a key names: 65,536 × KIND + channel, or + 8 × port + class (Table 15.2). -/
def sampleOf (s : State) (key : Nat) : Nat :=
  let kind := key / 65536
  let i := key % 65536
  if kind < 2 then
    match (if s.chn.cache.contains i then NMap.find s.chn.chans i else none) with
    | none => 0
    | some c =>
      if kind = 0 then (c.sqTail + 65536 - c.sqHead) % 65536 + c.live.length
      else
        let started := (c.live.filter LiveDesc.started).length
        if started = c.live.length ∧ c.sqTail = c.sqHead then 0 else oldestAge s (c.rings.map Prod.snd)
  else if kind = 2 then queueDepth s (i / 8) (i % 8)
  else oldestAge s ((NMap.getD s.fab.outq i []).map QPkt.at_)

/-- Every histogram's key, rising. -/
def histKeys : List Nat :=
  List.range 4096 ++ (List.range 4096).map (65536 + ·) ++
    [2, 3].flatMap fun k => (List.range 88).flatMap fun p => (List.range 6).map fun c => 65536 * k + 8 * p + c

/-- One sample of one histogram. -/
def addSample (s : State) (key : Nat) : NMap Nat :=
  let h := NMap.getD s.qos.hist key []
  let b := binOf (sampleOf s key)
  NMap.insert h b (satAdd 0xffffffff (NMap.getD h b 0) 1)

/-- HIST_SAMPLE (R308). -/
def execHistSample (s : State) : Host.Outcome State Fault Refusal :=
  if !s.flag QOS_CFG_HIST_EN || s.now / 1000 ≤ s.qos.sampledAt / 1000 then .next s
  else
    let h := histKeys.map fun k => (k, addSample s k)
    let full := h.any fun (x : Nat × NMap Nat) => x.2.any fun (b : Nat × Nat) => b.2 == 0xffffffff
    let s := { s with qos := { s.qos with
      hist := h
      sampledAt := s.now } }
    .next (if full then s.raise QOS_EVENT_HIST_SAT else s)

/-- QOS_HIST_SEL_WRITE (R309). -/
def execQosHistSelWrite (v : Word64) (s : State) : Host.Outcome State Fault Refusal :=
  let x := v.toNat
  let s := s.put QOS_HIST_SEL_KIND (bits x 17 16)
  let s := if bits x 14 12 ≤ 5 then s.put QOS_HIST_SEL_CLASS (bits x 14 12) else s
  let s := s.put QOS_HIST_SEL_INDEX (bits x 11 0)
  let kind := s.get QOS_HIST_SEL_KIND
  let i := s.get QOS_HIST_SEL_INDEX
  let key := 65536 * kind + (if kind < 2 then i else 8 * i + s.get QOS_HIST_SEL_CLASS)
  let h := NMap.getD s.qos.hist key []
  let s := (List.range 8).foldl (fun s n =>
    (s.put (QOS_HIST_DATA_BIN_LO n) (NMap.getD h (2 * n) 0)).put (QOS_HIST_DATA_BIN_HI n) (NMap.getD h (2 * n + 1) 0)) s
  .next (if bit x 63 then { s with qos := { s.qos with hist := NMap.erase s.qos.hist key } } else s)

/-! A lost holder (R119). -/

/-- Whether this node's switch has no route to another node left: no port of its entry is UP and usable. -/
def noRoute (s : State) (node : Nat) : Bool :=
  (usablePorts s (rtEntry s (s.get FAB_CFG_TX_EPOCH) (Config.nodeAgent node % 4096)) 1).isEmpty

/-- Whether the last three placement requests to a holder have had no reply: those that ended so, and those sent 1 ms ago. -/
def holderSilent (s : State) (node : Nat) : Bool :=
  let mine := (NMap.vals s.fab.reqs).filter fun r => r.pkt.dst == Config.nodeAgent node % 4096 && (r.pkt.opcode == 0x20 || r.pkt.opcode == 0x21)
  let late := mine.filter fun r => decide (r.sent + 1000000 ≤ s.now + 1000 * s.get FAB_TIMERS_RETRY_US * r.tries)
  3 ≤ late.length + NMap.getD s.plc.silent (Config.nodeAgent node % 4096) 0

/-- LODGE_LOST (R119): a holder is found lost by the switch or by its silence. What waited for its lines reads poison from
now on. -/
def execLodgeLost (node : Nat) (s : State) : Host.Outcome State Fault Refusal :=
  if s.plc.lost.contains node ∨ ¬ s.plc.map.any (fun (f : Nat × Frame) => f.2.tier = .remote && f.2.holder = node) ∨
      ¬ (noRoute s node ∨ holderSilent s node) then
    .next s
  else
    let s := { s with plc := { s.plc with lost := insSorted node s.plc.lost } }
    let s := ((s.post { cls := 1, unitType := utIcefall, unitIndex := 0, cause := 0x0006, status := stPoisoned,
                        tenant := none, agent := 0, addr := none, info := node }).raise PLC_EVENT_LODGE_LOST).put
              PLC_EVENT_LOST_NODE node
    let s := { s with dir := { s.dir with
      accs := NMap.mapVal (fun _ (a : HomeAcc) => { a with fetch := a.fetch.filter fun l => !backingLost s (128 * l) }) s.dir.accs } }
    let ls := (s.dir.txns.filter fun t => backingLost s (128 * t.line)).map Txn.line
    .next (ls.foldl State.concludeLine s).tryAccs

end Sys2Proof.Machine
end

