-- ==== Sys2Proof/Machine/Mirror.lean ====
section
/-! DEFINITION. Placement packets at their holder and at a standby (R109, R335 to R337), the mirror pair, and ownership
tokens (chapter 17). -/

namespace Sys2Proof.Machine

open Reg

/-- A change of the mirror unit. -/
def State.modMir (s : State) (f : MirUnit → MirUnit) : State := { s with mir := f s.mir }

def mirSt (s : State) : Nat := s.get MIR_STATUS_STATE
abbrev mirNone : Nat := 0
abbrev mirActive : Nat := 1
abbrev mirSolo : Nat := 2
abbrev mirStandby : Nat := 3
abbrev mirResync : Nat := 4
abbrev mirFenced : Nat := 5

def serving (s : State) : Bool := mirSt s == mirActive || mirSt s == mirSolo
def svcEpoch (s : State) : Nat := s.get MIR_STATUS_SVC_EPOCH

/-! Placement packets. -/

/-- The checks of a placement packet at its destination (R364, R273, R314). R312's map does not bear on it (log entry
24). -/
def placeGate (s : State) (p : Pkt) : Gate :=
  if shut s then .drop else if headerBad p then .refuse stPermission else epochGate s p

/-- Whether a placement packet comes from the peer to this standby. -/
def fromActive (s : State) (p : Pkt) : Bool :=
  p.src == s.get MIR_CFG_PEER_AGENT && (mirSt s == mirStandby || mirSt s == mirResync) && rpaNode p.addr == s.node

/-- The HBM frame that holds another node's page here. -/
def lodgeFrame (s : State) (node page : Nat) : Option Nat :=
  (s.plc.lodgedIn.find? fun (l : Nat × Lodged) => l.2.owner = node && l.2.page = page).map Prod.fst

/-- The holder's side of R113. -/
def takesLodging (s : State) (node : Nat) : Bool :=
  bit (s.get PLC_PEERS_PEERS) node && s.plc.lodgedIn.length < 64 * s.get PLC_LIMITS_LODGE_MAX_64 &&
  s.get PLC_LIMITS_FREE_HIGH < hbmFree s

/-- PL_DATA or PL_ACK. -/
def plReply (s : State) (p : Pkt) (st : Nat) (c : Option CLine) : Pkt :=
  let r := replyTo s p (if p.opcode = 0x20 then 0x22 else 0x23) st
  match c with
  | some c => { r with
      len := 128
      payload := fitBytes 128 c.data
      poison := c.poison
      status := if c.poison then stPoisoned else st }
  | none => r

/-- The line number of a lodged frame's store. -/
def lodgedLine (frame off : Nat) : Nat := 16384 * frame + off % 2097152 / 128

/-- Whether the unit that keeps a line of a lodged frame has FAILED (R99). -/
def lodgedLost (s : State) (frame off : Nat) : Bool :=
  (tierUnit s .hbm 0 (2097152 * frame + off % 2097152)).any fun x => s.get (unitSt x.1 x.2.1) == 4

/-- PL_RD (R109, R337): the ciphertext of one line, as the holder or the standby keeps it; a holder serves it through its
placement port. -/
def State.doPlRd (p : Pkt) (s : State) : State :=
  match placeGate s p with
  | .pass =>
    let off := rpaOff p.addr
    let line := fun (m : NMap CLine) (k : Nat) => some (NMap.getD m k ⟨List.replicate 128 0#8, false⟩)
    if fromActive s p then
      if p.svcEpoch ≠ svcEpoch s then s.send (plReply s p stEpoch none)
      else s.send (plReply s p stOK (line s.mir.cipher (off / 128)))
    else match lodgeFrame s (rpaNode p.addr) (off / 2097152) with
    | some f =>
      let c := NMap.getD s.plc.lodgedMem (lodgedLine f off) ⟨List.replicate 128 0#8, false⟩
      (s.queueTier 2 .hbm 0 (2097152 * f + off % 2097152) 128).send (plReply s p stOK (some { c with poison := c.poison || lodgedLost s f off }))
    | none => s.send (plReply s p stPermission none)
  | g => s.gateFail p g

/-- PL_WR (R109, R336): one line of ciphertext stored as it is; the first of a page takes a frame (R113). -/
def State.doPlWr (p : Pkt) (s : State) : State :=
  let finish := fun (s : State) (st : Nat) => (s.keepFirst p st).send (plReply s p st none)
  match placeGate s p with
  | .pass =>
    let off := rpaOff p.addr
    let c : CLine := ⟨fitBytes 128 p.payload, p.poison⟩
    if fromActive s p then
      if p.svcEpoch ≠ svcEpoch s then finish s stEpoch
      else
        let s := s.modMir fun m => { m with
          cipher := NMap.insert m.cipher (off / 128) c
          peerSeen := s.now
          beatAt := s.now
          denied := false }
        finish (s.bump MIR_SEQ_WRITE_SEQ 1) stOK
    else
      let put := fun (s : State) (f : Nat) =>
        { s with plc := { s.plc with lodgedMem := NMap.insert s.plc.lodgedMem (lodgedLine f off) c } }
      match lodgeFrame s (rpaNode p.addr) (off / 2097152) with
      | some f =>
        let s := s.queueTier 2 .hbm 0 (2097152 * f + off % 2097152) 128
        if lodgedLost s f off then finish s stDevErr else finish (put s f) stOK
      | none =>
        if takesLodging s (rpaNode p.addr) then
          let (f, s) := s.pickFrame (hbmDest s)
          let l : Lodged := ⟨rpaNode p.addr, off / 2097152, p.tenant⟩
          let s := { s with plc := { s.plc with lodgedIn := NMap.insert s.plc.lodgedIn f l } }.queueTier 2 .hbm 0 (2097152 * f + off % 2097152) 128
          finish (put s f).hbmLowCheck stOK
        else finish s stPermission
  | g => s.gateFail p g

def execPlRd (_port : Nat) (p : Pkt) (s : State) : Host.Outcome State Fault Refusal :=
  if p.opcode = 0x20 then .next (s.doPlRd p) else .next s
def execPlWr (_port : Nat) (p : Pkt) (s : State) : Host.Outcome State Fault Refusal :=
  if p.opcode = 0x21 then .next (s.doPlWr p) else .next s

/-! Pair and ownership messages (Table 17.2). -/

/-- The payload of a pair message, where a packet carries one. -/
def pairMsg (p : Pkt) : Option (List Byte) :=
  if p.opcode = 0x38 ∧ leNat (p.payload.take 1) = 0xe7 then some p.payload else none

def mField (l : List Byte) (i n : Nat) : Nat := leNat (slice l i n)
def mMsg (l : List Byte) : Nat := mField l 1 1
def mResult (l : List Byte) : Nat := mField l 2 1
def mSubject (l : List Byte) : Nat := mField l 6 2 % 4096
def mEpoch (l : List Byte) : Nat := mField l 8 4
def mGen (l : List Byte) : Nat := mField l 0xc 4
def mTime (l : List Byte) : Nat := mField l 0x10 8
def mState (l : List Byte) : Nat := mField l 0x20 8

/-- What a message of this node says beside its pair's own fields. -/
structure PMsg where
  msg : Nat
  result : Nat
  subject : Nat
  epoch : Nat
  gen : Nat
  time : Nat
  stateId : Nat

def PMsg.zero : PMsg := ⟨0, 0, 0, 0, 0, 0, 0⟩

/-- The 64 bytes of a message. -/
def pairBytes (s : State) (m : PMsg) : List Byte :=
  natLe 1 0xe7 ++ natLe 1 m.msg ++ natLe 1 m.result ++ natLe 1 (b2n s.mir.synced) ++ natLe 2 (s.get MIR_CFG_SVC_AGENT) ++
    natLe 2 m.subject ++ natLe 4 m.epoch ++ natLe 4 m.gen ++ natLe 8 m.time ++ natLe 8 (s.get MIR_SEQ_WRITE_SEQ) ++
    natLe 8 m.stateId ++ natLe 24 0

/-- A message sent to an agent in a MGMT packet; the pair's own rules repeat it, not R282 (log entry 25). -/
def State.sendPair (s : State) (dst : Nat) (m : PMsg) : State :=
  s.sendNew { request s 0x38 4 dst 0 with
    len := 64
    payload := pairBytes s m }

def State.toWitness (s : State) (m : PMsg) : State := s.sendPair (s.get MIR_CFG_WITNESS_AGENT) { m with epoch := svcEpoch s }

/-- A pair message of one kind from one of the pair's parties. -/
def msgFrom (s : State) (p : Pkt) (msg : Nat) (who : Fld) : Option (List Byte) :=
  (pairMsg p).filter fun l => mMsg l = msg && p.src = s.get who

/-! Witness, lease and self-fence (R338, R340). -/

/-- RENEW_TIMER: RENEW every RENEW_MS. -/
def execRenewTimer (s : State) : Host.Outcome State Fault Refusal :=
  if serving s ∧ s.mir.renewAt + msNs (s.get MIR_TIMERS_RENEW_MS) ≤ s.now then
    .next ((s.modMir fun m => { m with
      renewals := s.now :: m.renewals
      renewAt := s.now }).toWitness { PMsg.zero with
        msg := 1
        time := s.now })
  else .next s

/-- RENEW_GRANT: the granted TIME becomes the anchor. -/
def State.renewGrant (s : State) (p : Pkt) : State :=
  match msgFrom s p 2 MIR_CFG_WITNESS_AGENT with
  | some l =>
    if serving s ∧ mResult l = stOK ∧ s.mir.renewals.contains (mTime l) then
      (s.put MIR_LEASE_ANCHOR (mTime l)).modMir fun m => { m with renewals := m.renewals.filter fun t => mTime l < t }
    else s
  | none => s

def execRenewGrant (p : Pkt) (s : State) : Host.Outcome State Fault Refusal := .next (s.renewGrant p)

/-- The self-fence (R340 steps 1 and 2). -/
def State.fenceSelf (s : State) : State :=
  let s := (s.put MIR_STATUS_STATE mirFenced).raise MIR_EVENT_FENCED
  (s.post { cls := 2, unitType := utExtent, unitIndex := 0, cause := 0x0006, status := stDevErr, tenant := none,
            agent := s.get MIR_CFG_WITNESS_AGENT, addr := none, info := s.get MIR_LEASE_ANCHOR }).modMir fun m =>
    { m with
      fencedAt := some s.now
      synced := false
      copyPos := none }

/-- SELF_FENCE. -/
def execSelfFence (s : State) : Host.Outcome State Fault Refusal :=
  if serving s ∧ s.get MIR_LEASE_ANCHOR + msNs (s.get MIR_TIMERS_FENCE_MS) ≤ s.now then .next s.fenceSelf else .next s

/-- A held write that will never be committed on the standby completes with DEVICE_ERROR. -/
def State.heldFails (s : State) (id : Nat) (h : Held) : State :=
  let s := s.modMir fun m => { m with held := NMap.erase m.held id }
  match h.forWhom with
  | .reply p gen => ((s.outcomeFails p).replyLeaves { p with
      status := stDevErr
      len := 0
      payload := [] } gen).wakeReply p
  | .acc a gen k => (s.postedFails a k stDevErr).leave gen
  | .engine e t => match reqOf s e t with
    | some r => s.setReq e t { r with lines := r.lines.map fun l => if l.st = .held then { l with st := .done stDevErr 0 } else l }
    | none => s
  | .tile c i ord => s.failPush c i (if ord = ctrTile then ((liveOf s c i).elim 0 LiveDesc.next) else ord)
  | .nobody => s

/-- Requests to the standby that nothing waits for any more. -/
def State.dropMirror (s : State) : State :=
  let mine := fun (p : Purpose) => match p with
    | .mirror _ => true
    | _ => false
  { s with fab := { s.fab with
    reqs := NMap.keep (fun _ (r : OwnReq) => !mine r.purpose) s.fab.reqs
    waitTag := s.fab.waitTag.filter fun (w : Pkt × Purpose) => !mine w.2 } }

/-- SELF_FENCE_DRAIN_END (R340 step 3). -/
def execSelfFenceDrainEnd (s : State) : Host.Outcome State Fault Refusal :=
  match s.mir.fencedAt with
  | some t =>
    if t + 1000000 ≤ s.now then
      let s := s.mir.held.foldl (fun s (h : Nat × Held) => s.heldFails h.1 h.2) s
      .next (s.dropMirror.modMir fun m => { m with fencedAt := none })
    else .next s
  | none => .next s

/-- MIRROR_TIMEOUT (R338): SOLO_REQ, once for a loss. -/
def execMirrorTimeout (s : State) : Host.Outcome State Fault Refusal :=
  let late := s.mir.held.any fun (h : Nat × Held) => h.2.since + 100000 * s.get MIR_TIMERS_MIRROR_TMO_100US ≤ s.now
  if mirSt s = mirActive ∧ late ∧ ¬ s.mir.soloAsked then
    let s := (s.post { cls := 1, unitType := utExtent, unitIndex := 0, cause := 0x0006, status := stDevErr, tenant := none,
                       agent := s.get MIR_CFG_PEER_AGENT, addr := none, info := 0 }).raise MIR_EVENT_PEER_LOST
    .next ((s.modMir fun m => { m with soloAsked := true }).toWitness { PMsg.zero with msg := 5 })
  else .next s

/-- A service epoch taken: WRITE_SEQ starts anew (R335). -/
def State.newEpoch (s : State) (e : Nat) : State := (s.put MIR_STATUS_SVC_EPOCH e).put MIR_SEQ_WRITE_SEQ 0

/-- Every held write completed on this copy alone. -/
def State.freeHeld (s : State) : State :=
  let hs := s.mir.held
  (hs.foldl (fun s (h : Nat × Held) => s.releaseHeld h.2) (s.modMir fun m => { m with held := [] })).dropMirror

/-- SOLO_GRANT (R338). -/
def State.soloGrant (s : State) (p : Pkt) : State :=
  match msgFrom s p 6 MIR_CFG_WITNESS_AGENT with
  | some l =>
    if mirSt s = mirActive ∧ s.mir.soloAsked ∧ mEpoch l = (svcEpoch s + 1) % 2 ^ 32 then
      let s := ((s.newEpoch (mEpoch l)).put MIR_STATUS_STATE mirSolo).raise MIR_EVENT_SOLO
      (s.modMir fun m => { m with
        soloAsked := false
        synced := false
        copyPos := none }).freeHeld
    else s
  | none => s

def execSoloGrant (p : Pkt) (s : State) : Host.Outcome State Fault Refusal := .next (s.soloGrant p)

/-- DENY (R338, R342): only RESULT EPOCH_STALE at a standby ends anything. -/
def State.denyIn (s : State) (p : Pkt) : State :=
  match msgFrom s p 7 MIR_CFG_WITNESS_AGENT with
  | some l =>
    if mirSt s = mirStandby ∧ mResult l = stEpoch then (s.modMir fun m => { m with denied := true }).raise MIR_EVENT_PEER_LOST
    else s
  | none => s

def execDeny (p : Pkt) (s : State) : Host.Outcome State Fault Refusal := .next (s.denyIn p)

/-- HEARTBEAT (R336, R342): the active answers; a standby has seen its peer. -/
def State.heartbeatIn (s : State) (p : Pkt) : State :=
  match msgFrom s p 8 MIR_CFG_PEER_AGENT with
  | some _ =>
    if serving s then s.sendPair p.src { PMsg.zero with
      msg := 8
      epoch := svcEpoch s }
    else if mirSt s = mirStandby ∨ mirSt s = mirResync then s.modMir fun m => { m with
      peerSeen := s.now
      denied := false }
    else s
  | none => s

def execHeartbeat (p : Pkt) (s : State) : Host.Outcome State Fault Refusal := .next (s.heartbeatIn p)

/-- HEARTBEAT_TIMER (R336). -/
def execHeartbeatTimer (s : State) : Host.Outcome State Fault Refusal :=
  if mirSt s = mirStandby ∧ s.mir.beatAt + 100000 * s.get MIR_TIMERS_HB_100US ≤ s.now then
    .next ((s.modMir fun m => { m with beatAt := s.now }).sendPair (s.get MIR_CFG_PEER_AGENT) { PMsg.zero with
      msg := 8
      epoch := svcEpoch s })
  else .next s

/-- DETECT_TIMER (R342): TAKEOVER_REQ every 1 ms. -/
def execDetectTimer (s : State) : Host.Outcome State Fault Refusal :=
  if mirSt s = mirStandby ∧ s.mir.peerSeen + msNs (s.get MIR_TIMERS_DETECT_MS) ≤ s.now ∧ ¬ s.mir.denied ∧
      s.mir.takeAt + 1000000 ≤ s.now then
    .next (((s.modMir fun m => { m with takeAt := s.now }).raise MIR_EVENT_PEER_LOST).toWitness { PMsg.zero with msg := 3 })
  else .next s

/-! Takeover (Table 17.3). -/

/-- A standby's ciphertext becomes the memory that it serves: each line decrypted under its extent's key (R318). -/
def State.adoptCopy (s : State) : State :=
  let s := s.mir.cipher.foldl (fun s (c : Nat × CLine) =>
    match extAt s (128 * c.1) with
    | some (i, x) =>
      let plain := (Config.xtsDecrypt (NMap.getD s.sec.keys x.tenant []) (i * 2 ^ 32 + (128 * c.1 - x.base) / 128)
        (fitBytes 128 c.2.data)).toList
      let s := s.wr (128 * c.1) (plain.map some) c.2.poison
      let page := 128 * c.1 / 2097152
      s.setFrame page { frameOf s page with zero := false }
    | none => s) s
  s.modMir fun m => { m with cipher := [] }

/-- Every lease restarted as HELD, and GRACE extents with it (step 4). -/
def State.restartLeases (s : State) : State :=
  let t := s.get EXT_CFG_DEFAULT_TERM_MS
  { s with ext := { s.ext with
    leases := NMap.mapVal (fun _ _ => (⟨.held, s.now + msNs t, t, 0⟩ : Lease)) s.ext.leases
    table := NMap.mapVal (fun _ (x : Extent) => if x.st = .grace then { x with st := .active } else x) s.ext.table } }

/-- TAKEOVER_GRANT (R343, R348): a standby, or the node that R348 chooses, serves in the new epoch. -/
def State.takeover (s : State) (p : Pkt) : State :=
  match msgFrom s p 4 MIR_CFG_WITNESS_AGENT with
  | some l =>
    if (mirSt s = mirStandby ∨ mirSt s = mirFenced) ∧ mEpoch l = (svcEpoch s + 1) % 2 ^ 32 then
      let s := (((s.newEpoch (mEpoch l)).put MIR_STATUS_STATE mirActive).raise MIR_EVENT_TAKEOVER).put MIR_STATUS_COH_RECOVER 1
      let s := (s.adoptCopy.restartLeases).put MIR_LEASE_ANCHOR (mTime l)
      let s := s.modMir fun m => { m with
        synced := false
        soloAsked := false
        copyPos := none
        fencedAt := none
        renewals := [] }
      { s with
        dir := { s.dir with
          entries := []
          holds := [] }
        fab := { s.fab with
          expect := []
          adopt := true } }
    else s
  | none => s

def execTakeoverGrant (p : Pkt) (s : State) : Host.Outcome State Fault Refusal := .next (s.takeover p)

/-! Pair commands (R332, R333, R345). -/

def State.mirEnd (s : State) (st de : Nat) : State := s.endCmd MIR_CMD_STATUS MIR_CMD_DETAIL st de
def State.mirRefuse (s : State) (de : Nat) : State := s.mirEnd stPermission de

/-- A FORM that waited for its pair node ends. -/
def State.formed (s : State) : State := (s.put MIR_CMD_BUSY 0).modMir fun m => { m with forming := 0 }

/-- FORM_ACTIVE: `cap` is the peer's NODE_CAP where it answers, `granted` whether the witness grants the first RENEW. -/
def execFormActive (cap : Option Nat) (granted : Bool) (s : State) : Host.Outcome State Fault Refusal :=
  if s.flag MIR_CMD_BUSY ∧ s.mir.forming ≠ 1 then .next s else
  let s := s.formed
  if mirSt s ≠ mirNone then .next (s.mirRefuse 1)
  else match cap, granted with
  | some c, true =>
    let short := s.ext.table.any fun (x : Nat × Extent) => x.2.mirrored && c < x.2.base / 2097152 + x.2.length
    if short then .next (s.mirRefuse 6)
    else
      let s := ((s.put MIR_STATUS_STATE mirActive).put MIR_PROGRESS_PEER_CAP c).put MIR_LEASE_ANCHOR s.now
      .next ((s.modMir fun m => { m with
        renewals := []
        renewAt := s.now
        synced := false
        soloAsked := false }).mirEnd stOK 0)
  | _, _ => .next (s.mirRefuse 2)

/-- A mirrored extent of an earlier pairing discarded, its frames left to be scrubbed (R346 step 1). -/
def State.discardExtent (s : State) (id : Nat) (x : Extent) : State :=
  let fs := (range' (x.base / 2097152) x.length).map fun p => (p, frameOf s p)
  fs.foldl (fun s f => s.leaveFrame f.1 f.2) (s.freeExtent id x)

/-- An entry that the serving node installs (R334), placed by this node's own icefall engine. -/
def State.installExt (s : State) (e : PeerExt) : State :=
  let x : Extent :=
    { tenant := e.tenant, st := .active, mode := RMode.ofCode e.mode, mirrored := true, rights := e.rights, base := e.base,
      length := e.length, holder := e.holder, createTime := s.now, fenceTime := 0, fenceGen := 0, regionId := e.region, cause := 0 }
  let s := (s.setExtent e.id x).placePages (e.base / 2097152) e.length |>.getD (s.setExtent e.id x)
  if (NMap.find s.ext.leases e.holder).isSome ∨ e.holder = 0 then s
  else (s.joinLease e.holder).2

def State.installReg (s : State) (r : PeerReg) : State :=
  let role := fun (n : Nat) => if n = 1 then Role.staging else if n = 2 then .current else if n = 3 then .retained
    else if n = 4 then .publishing else .empty
  let g : Region :=
    { mode := RMode.ofCode r.mode, grantE := r.grantE, hold := r.hold, curVersion := r.curVersion, tenant := r.tenant,
      slots := r.slots.map fun v => ⟨v.extent, v.version, role v.role, v.readers⟩ }
  { s with dir := { s.dir with regions := NMap.insert s.dir.regions r.id g } }

/-- FORM_STANDBY (R346 steps 1 and 2 on this node): `peer` is what the serving node installs, where it answers. -/
def execFormStandby (peer : Option PeerState) (s : State) : Host.Outcome State Fault Refusal :=
  if s.flag MIR_CMD_BUSY ∧ s.mir.forming ≠ 2 then .next s else
  let s := s.formed
  if mirSt s ≠ mirNone ∧ mirSt s ≠ mirFenced then .next (s.mirRefuse 1)
  else match peer with
  | none => .next (s.mirRefuse 2)
  | some q =>
    let old := s.ext.table.filter fun (x : Nat × Extent) => x.2.mirrored
    let s := old.foldl (fun s (x : Nat × Extent) => s.discardExtent x.1 x.2) s
    let s := ((s.put MIR_STATUS_STATE mirResync).newEpoch q.epoch).put MIR_STATUS_COH_RECOVER 0
    let s := q.regs.foldl State.installReg (q.exts.foldl State.installExt s)
    .next ((s.modMir fun m => { m with
      cipher := []
      recs := q.toks.foldl (fun r t => NMap.insert r t.stateId t) m.recs
      fencedAt := none
      synced := false
      peerSeen := s.now
      beatAt := s.now
      denied := false }).mirEnd stOK 0)

/-- BREAK: the node is unpaired; what it held for the pair is its own memory. -/
def execMirBreak (s : State) : Host.Outcome State Fault Refusal :=
  if s.flag MIR_CMD_BUSY then .next s
  else if mirSt s = mirNone then .next (s.mirRefuse 1)
  else
    let fenced := mirSt s = mirFenced
    let s := (s.put MIR_STATUS_STATE mirNone).adoptCopy
    let s := if fenced then (s.mir.held.foldl (fun s (h : Nat × Held) => s.heldFails h.1 h.2) s).dropMirror else s.freeHeld
    .next ((s.modMir fun m => { m with
      synced := false
      soloAsked := false
      copyPos := none
      fencedAt := none
      cmpNext := [] }).mirEnd stOK 0)

/-- RECOVER_DONE (R345). -/
def execRecoverDone (s : State) : Host.Outcome State Fault Refusal :=
  if s.flag MIR_CMD_BUSY then .next s
  else if !s.flag MIR_STATUS_COH_RECOVER then .next (s.mirRefuse 1)
  else .next (((s.put MIR_STATUS_COH_RECOVER 0).raise MIR_EVENT_COH_RECOVER_DONE).mirEnd stOK 0)

/-! Resynchronisation (R346). -/

/-- MIRRORED extents in offset order. -/
def mirExtents (s : State) : List Extent :=
  let xs := (s.ext.table.filter fun (x : Nat × Extent) => x.2.mirrored).map Prod.snd
  NMap.vals (xs.foldl (fun m x => NMap.insert m x.base x) [])

/-- The first line of a MIRRORED extent at or after a line. -/
def nextMirLine (s : State) (line : Nat) : Option Nat :=
  (mirExtents s).findSome? fun x =>
    let a := max line (x.base / 128)
    if a < (x.base + 2097152 * x.length) / 128 then some a else none

/-- 2 MiB blocks from a line's on. -/
def blocksLeft (s : State) (line : Nat) : Nat :=
  (mirExtents s).foldl (fun n x =>
    n + (x.base / 2097152 + x.length - max (x.base / 2097152) (line / 16384))) 0

/-- A line copied to the standby; a copy is no write of its own (R346 step 3). -/
def State.copyLine (s : State) (line : Nat) : State :=
  match extAt s (128 * line) with
  | some (_, x) => s.sendReq (plWrOf s x.tenant (128 * line)) (.writeBack line)
  | none => s

/-- RESYNC_LINE_COPY: with `start` the peer has entered RESYNC, and the first line is copied; else the next one. -/
def execResyncLineCopy (start : Bool) (s : State) : Host.Outcome State Fault Refusal :=
  if !serving s then .next s
  else
    let from_ := if start then some 0 else s.mir.copyPos
    match from_ with
    | none => .next s
    | some a =>
      let s := if start then
          (s.put MIR_STATUS_STATE mirActive).modMir fun m => { m with
            synced := false
            soloAsked := false
            copyPos := some 0 }
        else s
      match nextMirLine s a with
      | none => .next (s.put MIR_PROGRESS_BLOCKS_LEFT 0)
      | some line =>
        if lineBusy s line then .next (s.put MIR_PROGRESS_BLOCKS_LEFT (blocksLeft s line))
        else
          let s := (s.copyLine line).modMir fun m => { m with copyPos := some (line + 1) }
          .next (s.put MIR_PROGRESS_BLOCKS_LEFT ((nextMirLine s (line + 1)).elim 0 (blocksLeft s)))

/-- RESYNC_DONE: on the peer STANDBY is entered; the serving node's next RENEW carries SYNCED. -/
def execResyncDone (s : State) : Host.Outcome State Fault Refusal :=
  if mirSt s = mirResync then
    .next (((s.put MIR_STATUS_STATE mirStandby).raise MIR_EVENT_RESYNC_DONE).modMir fun m => { m with peerSeen := s.now })
  else match s.mir.copyPos with
  | some a =>
    if serving s ∧ nextMirLine s a = none then .next (s.modMir fun m => { m with
      copyPos := none
      synced := true })
    else .next s
  | none => .next s

/-! Divergent copies (R347). -/

/-- One byte into the CRC-64 of R347, most significant bit first. -/
def crc64Byte (c : Nat) (b : Byte) : Nat :=
  (List.range 8).foldl (fun c _ => if bit c 63 then Nat.xor (2 * c % 2 ^ 64) 0x42f0e1eba9ea3693 else 2 * c)
    (Nat.xor c (b.toNat * 2 ^ 56))

/-- The checksum of a block's ciphertext, in line order. -/
def blockSum (s : State) (block : Nat) : Nat :=
  ((range' (16384 * block) 16384).flatMap fun l => lineCipher s (128 * l)).foldl crc64Byte 0

/-- The next MIRRORED block after a block, cyclically. -/
def nextMirBlock (s : State) (b : Nat) : Option Nat :=
  match nextMirLine s (16384 * (b + 1)) with
  | some l => some (l / 16384)
  | none => (nextMirLine s 0).map (· / 16384)

/-- MIRROR_COMPARE_BLOCK: the standby's checksum of the block, whether a write raced it, whether the standby's copy
reads poison. -/
def execMirrorCompareBlock (sum : Nat) (raced bad : Bool) (s : State) : Host.Outcome State Fault Refusal :=
  if s.get MIR_TIMERS_COMPARE_GBPS = 0 ∨ mirSt s ≠ mirActive ∨ ¬ s.mir.synced then .next s
  else
    let pick := match s.mir.cmpNext with
      | b :: l => some (b, l, s.mir.cmpPos)
      | [] => (nextMirBlock s s.mir.cmpPos).map fun b => (b, [], b)
    match pick with
    | none => .next s
    | some (b, rest, pos) =>
      let s := s.modMir fun m => { m with
        cmpPos := pos
        cmpNext := rest }
      let lines := range' (16384 * b) 16384
      let own := lines.filter fun l => poisonedIn s (128 * l) 128
      if raced then
        match rest, nextMirBlock s pos with
        | [], some n => .next (s.modMir fun m => { m with
            cmpPos := n
            cmpNext := [n, b] })
        | _, _ => .next (s.modMir fun m => { m with cmpNext := rest ++ [b] })
      else if own ≠ [] ∨ bad then
        let s := own.foldl (fun s l => s.fetchLine 0 l) s
        .next (if bad then (lines.filter fun l => !own.contains l).foldl State.copyLine s else s)
      else if blockSum s b = sum then .next s
      else .next ((lines.foldl State.copyLine (s.count MIR_CNT_DIVERGED 1)).raise MIR_EVENT_DIVERGED)

/-! Ownership (R349 to R351). -/

def State.sendOwn (s : State) (dst : Nat) (m : PMsg) : State := s.sendPair dst { m with epoch := svcEpoch s }

/-- The message of a slot's request. -/
def State.sendOwnMsg (s : State) (slot : Nat) (o : OwnSlot) (m : OwnMsg) : State :=
  let s := s.modMir fun u => { u with msgs := NMap.insert u.msgs slot { m with sent := some s.now } }
  match m.kind with
  | .query => s.sendOwn o.home { PMsg.zero with
      msg := 0x10
      stateId := o.stateId }
  | .transfer => s.sendOwn o.home { PMsg.zero with
      msg := 0x11
      gen := o.gen
      subject := m.target
      stateId := o.stateId }
  | .claim => s.sendOwn o.home { PMsg.zero with
      msg := 0x12
      gen := if o.handing then o.gen else o.gen + 1
      stateId := o.stateId }

/-- MIR_OWNn of a slot, as written. -/
def stagedReg (s : State) (slot n : Nat) : Nat := NMap.getD s.mir.staged (4 * slot + n) 0

/-- The slot a command names, where it is bound. -/
def ownCmd (s : State) (f : Nat → OwnSlot → State) : Host.Outcome State Fault Refusal :=
  if s.flag MIR_CMD_BUSY then .next s
  else
    let n := s.get MIR_OWN_SEL_SLOT
    match NMap.find s.mir.slots n with
    | some o => .next (f n o)
    | none => .next (s.mirRefuse 3)

/-- OWN_BIND (R349): the slot is bound without the token, and its home is asked. -/
def execOwnBind (s : State) : Host.Outcome State Fault Refusal :=
  if s.flag MIR_CMD_BUSY then .next s
  else
    let n := s.get MIR_OWN_SEL_SLOT
    let id := bits (stagedReg s n 1) 63 32
    let count := bits (stagedReg s n 2) 50 32
    let first := bits (stagedReg s n 2) 17 0
    if (NMap.find s.mir.slots n).isSome then .next (s.mirRefuse 3)
    else if count = 0 ∨ 262144 < count then .next (s.mirRefuse 4)
    else match NMap.find s.ext.table id with
    | none => .next (s.mirRefuse 5)
    | some x =>
      if x.length < first + count then .next (s.mirRefuse 5)
      else
        let o : OwnSlot :=
          { stateId := stagedReg s n 0, extent := id, first := first, count := count, base := x.base + 2097152 * first,
            bytes := 2097152 * count, home := bits (stagedReg s n 3) 31 20, gen := 0, hold := false, handing := false }
        let s := s.modMir fun m => { m with slots := NMap.insert m.slots n o }
        .next ((s.sendOwnMsg n o ⟨.query, 0, [], none⟩).mirEnd stOK 0)

/-- Accesses that a release must see drained: those accepted in the slot's range, and held writes (step 2). -/
def inRange (s : State) (o : OwnSlot) : List Nat :=
  (s.dir.accs.filter fun (a : Nat × HomeAcc) => a.2.off < o.base + o.bytes && o.base < a.2.off + a.2.len).map Prod.fst

def rangeDrained (s : State) (o : OwnSlot) (m : OwnMsg) : Bool :=
  (m.waits.all fun id => (NMap.find s.dir.accs id).isNone) &&
  (s.mir.held.all fun (h : Nat × Held) => h.2.off < o.base || o.base + o.bytes ≤ h.2.off) &&
  s.dir.txns.all fun t => 128 * t.line < o.base || o.base + o.bytes ≤ 128 * t.line

/-- OWN_RELEASE (Table 17.4 steps 1 to 3). -/
def execOwnRelease (s : State) : Host.Outcome State Fault Refusal :=
  ownCmd s fun n o =>
    if !o.hold then s.mirRefuse 3
    else
      let o := { o with hold := false }
      let m : OwnMsg := ⟨.transfer, bits (stagedReg s n 3) 19 8, inRange s o, none⟩
      let s := s.modMir fun u => { u with
        slots := NMap.insert u.slots n o
        msgs := NMap.insert u.msgs n m }
      (if rangeDrained s o m then s.sendOwnMsg n o m else s).mirEnd stOK 0

/-- OWN_CLAIM (step 5): the command ends with the home's answer. -/
def execOwnClaim (s : State) : Host.Outcome State Fault Refusal :=
  ownCmd s fun n o =>
    if o.hold then s.mirRefuse 3 else (s.sendOwnMsg n o ⟨.claim, 0, [], none⟩).put MIR_CMD_BUSY 1

/-- OWN_UNBIND: refused while HOLD is 1. -/
def execOwnUnbind (s : State) : Host.Outcome State Fault Refusal :=
  ownCmd s fun n o =>
    if o.hold then s.mirRefuse 3
    else (s.modMir fun u => { u with
      slots := NMap.erase u.slots n
      msgs := NMap.erase u.msgs n }).mirEnd stOK 0

/-- OWN_MSG_RESEND (R350): a request unanswered for 1 ms, or a transfer whose range has drained. -/
def execOwnMsgResend (slot : Nat) (s : State) : Host.Outcome State Fault Refusal :=
  match NMap.find s.mir.slots slot, NMap.find s.mir.msgs slot with
  | some o, some m =>
    let due : Bool := match m.sent with
      | some t => decide (t + 1000000 ≤ s.now)
      | none => rangeDrained s o m
    if due then .next (s.sendOwnMsg slot o m) else .next s
  | _, _ => .next s

/-- OWN_REPLY of a home. -/
def State.ownAnswer (s : State) (p : Pkt) (st id : Nat) : State :=
  let r := NMap.find s.mir.recs id
  s.sendOwn p.src { PMsg.zero with
    msg := 0x13
    result := st
    subject := r.elim 0 PeerTok.owner
    gen := r.elim 0 PeerTok.gen
    time := r.elim 0 fun t => if t.handing then t.deadline else 0
    stateId := id }

/-- An ownership message of one kind. -/
def ownMsg (p : Pkt) (msg : Nat) : Option (List Byte) := (pairMsg p).filter fun l => mMsg l = msg

/-- OWN_QUERY at the home (R349). -/
def State.ownQueryIn (s : State) (p : Pkt) : State :=
  match ownMsg p 0x10 with
  | some l =>
    let id := mState l
    if (NMap.find s.mir.recs id).isSome then s.ownAnswer p stOK id
    else if 65536 ≤ s.mir.recs.length then s.ownAnswer p stNotOwner id
    else (s.modMir fun m => { m with recs := NMap.insert m.recs id ⟨id, p.src, 0, 1, false, 0⟩ }).ownAnswer p stOK id
  | none => s

def execOwnQuery (p : Pkt) (s : State) : Host.Outcome State Fault Refusal := .next (s.ownQueryIn p)

/-- OWN_TRANSFER at the home (step 4). -/
def State.ownTransferIn (s : State) (p : Pkt) : State :=
  match ownMsg p 0x11 with
  | some l =>
    match NMap.find s.mir.recs (mState l) with
    | some r =>
      if r.owner = p.src ∧ r.gen = mGen l ∧ ¬ r.handing then
        let r := { r with
          handing := true
          pending := mSubject l
          gen := (r.gen + 1) % 2 ^ 32
          deadline := s.now + msNs (s.get MIR_CFG_HANDOFF_MS) }
        (s.modMir fun m => { m with recs := NMap.insert m.recs (mState l) r }).ownAnswer p stOK (mState l)
      else if r.owner = p.src ∧ r.handing ∧ r.pending = mSubject l ∧ r.gen = (mGen l + 1) % 2 ^ 32 then
        s.ownAnswer p stOK (mState l)
      else s.ownAnswer p stNotOwner (mState l)
    | none => s.ownAnswer p stNotOwner (mState l)
  | none => s

def execOwnTransfer (p : Pkt) (s : State) : Host.Outcome State Fault Refusal := .next (s.ownTransferIn p)

/-- OWN_CLAIM at the home (step 6). -/
def State.ownClaimIn (s : State) (p : Pkt) : State :=
  match ownMsg p 0x12 with
  | some l =>
    match NMap.find s.mir.recs (mState l) with
    | some r =>
      if r.gen = mGen l ∧ ((r.handing ∧ r.pending = p.src) ∨ (¬ r.handing ∧ r.owner = p.src)) then
        let r := { r with
          handing := false
          owner := p.src
          pending := 0
          deadline := 0 }
        (s.modMir fun m => { m with recs := NMap.insert m.recs (mState l) r }).ownAnswer p stOK (mState l)
      else s.ownAnswer p stNotOwner (mState l)
    | none => s.ownAnswer p stNotOwner (mState l)
  | none => s

def execOwnClaimMsg (p : Pkt) (s : State) : Host.Outcome State Fault Refusal := .next (s.ownClaimIn p)

/-- The bound slot of a state. -/
def slotOfState (s : State) (id : Nat) : Option (Nat × OwnSlot) :=
  s.mir.slots.find? fun (o : Nat × OwnSlot) => o.2.stateId = id

/-- OWN_REPLY at a node (R349, step 7). -/
def State.ownReplyIn (s : State) (p : Pkt) : State :=
  match ownMsg p 0x13 with
  | some l =>
    match slotOfState s (mState l) with
    | none => s
    | some (n, o) =>
      match NMap.find s.mir.msgs n with
      | none => s
      | some m =>
        if p.src ≠ o.home then s
        else
          let ok := mResult l = stOK
          let o' := { o with
            gen := mGen l
            handing := mTime l ≠ 0
            hold := if m.kind = .transfer then false else ok && mSubject l == s.self && mTime l == 0 }
          let s := s.modMir fun u => { u with
            slots := NMap.insert u.slots n o'
            msgs := NMap.erase u.msgs n }
          if m.kind = .claim then
            (s.put MIR_CMD_BUSY 0).mirEnd (if ok then stOK else stPermission) (if ok then 0 else 3)
          else s
  | none => s

def execOwnReply (p : Pkt) (s : State) : Host.Outcome State Fault Refusal := .next (s.ownReplyIn p)

/-- OWN_RETURN at the old owner (R351). -/
def State.ownReturnIn (s : State) (p : Pkt) : State :=
  match ownMsg p 0x14 with
  | some l =>
    match slotOfState s (mState l) with
    | some (n, o) =>
      if p.src = o.home ∧ mSubject l = s.self then
        s.modMir fun u => { u with
          slots := NMap.insert u.slots n { o with
            gen := mGen l
            hold := true
            handing := false }
          msgs := NMap.erase u.msgs n }
      else s
    | none => s
  | none => s

def execOwnReturn (p : Pkt) (s : State) : Host.Outcome State Fault Refusal := .next (s.ownReturnIn p)

/-- HANDOFF_DEADLINE (R351). -/
def execHandoffDeadline (stateId : Nat) (s : State) : Host.Outcome State Fault Refusal :=
  match NMap.find s.mir.recs stateId with
  | some r =>
    if r.handing ∧ r.deadline ≤ s.now then
      let r := { r with
        handing := false
        pending := 0
        gen := (r.gen + 1) % 2 ^ 32
        deadline := 0 }
      let s := (s.modMir fun m => { m with recs := NMap.insert m.recs stateId r }).raise MIR_EVENT_OWN_TIMEOUT
      .next (s.sendOwn r.owner { PMsg.zero with
        msg := 0x14
        subject := r.owner
        gen := r.gen
        stateId := stateId })
    else .next s
  | none => .next s

/-- A MGMT packet's pair or ownership message handled by its MSG; a reserved one is discarded and counted (R339). The
witness's own messages are no business of a node. -/
def State.pairIn (s : State) (p : Pkt) (l : List Byte) : State :=
  let m := mMsg l
  if m = 2 then s.renewGrant p else if m = 4 then s.takeover p else if m = 6 then s.soloGrant p
  else if m = 7 then s.denyIn p else if m = 8 then s.heartbeatIn p
  else if m = 0x10 then s.ownQueryIn p else if m = 0x11 then s.ownTransferIn p else if m = 0x12 then s.ownClaimIn p
  else if m = 0x13 then s.ownReplyIn p else if m = 0x14 then s.ownReturnIn p
  else if m = 1 ∨ m = 3 ∨ m = 5 then s
  else s.count MIR_CNT_BAD_MSG 1

end Sys2Proof.Machine
end

