-- ==== Sys2Proof/Machine/Tenant.lean ====
section
/-! DEFINITION. Tenants (chapter 16): their creation, keys, reset and removal, weight packages, and the agent map; one
meaning for each security command and event but those that need the management complex. -/

namespace Sys2Proof.Machine

open Reg

/-! Records and commands (R311, R331). -/

def State.modSec (s : State) (f : SecUnit → SecUnit) : State := { s with sec := f s.sec }

def tenRec (s : State) (t : Nat) : Option TenRec := NMap.find s.sec.tenants t

def State.setTen (s : State) (t : Nat) (r : TenRec) : State := s.modSec fun x => { x with tenants := NMap.insert x.tenants t r }

/-- The tenant of a slot in use, with its record. -/
def slotRec (s : State) (slot : Nat) : Option (Nat × TenRec) :=
  s.sec.tenants.find? fun (p : Nat × TenRec) => p.2.st ≠ .none && p.2.slot = slot

/-- The slot that a command acts on. -/
def cmdSlot (s : State) : Nat := s.get SEC_CMD0_SLOT

def State.secEnd (s : State) (st de : Nat) : State := s.endCmd SEC_CMD_CTL_STATUS SEC_CMD_CTL_DETAIL st de
def State.secRefuse (s : State) (de : Nat) : State := s.secEnd stPermission de
def State.secOk (s : State) : State := s.secEnd stOK 0

/-- An event of a slot. -/
def State.secEvent (s : State) (f : Fld) (slot : Nat) : State := (s.raise f).put SEC_EVENT_LAST_SLOT slot

/-- A command on a slot in use whose tenant is in an accepted state; details 0x1 and 0x3 otherwise. -/
def onTenant (s : State) (ok : TenSt → Bool) (f : Nat → TenRec → State) : Host.Outcome State Fault Refusal :=
  if s.flag SEC_CMD_CTL_BUSY then .next s
  else match slotRec s (cmdSlot s) with
    | none => .next (s.secRefuse 0x1)
    | some (t, r) => .next (if ok r.st then f t r else s.secRefuse 0x3)

/-- TENANT_CREATE (R315): CUR and FLOOR become EPOCH; the tenant's counters start from 0 (R377). -/
def execTenantCreate (s : State) : Host.Outcome State Fault Refusal :=
  let t := s.get SEC_CMD0_RACK_TENANT
  let e := s.get SEC_CMD2_EPOCH
  let old := tenRec s t
  let d := (e + 65536 - old.elim 0 TenRec.floor) % 65536
  if s.flag SEC_CMD_CTL_BUSY then .next s
  else if (slotRec s (cmdSlot s)).isSome then .next (s.secRefuse 0x1)
  else if old.any (fun r => r.st ≠ .none) ∨ d = 0 ∨ 32768 ≤ d then .next (s.secRefuse 0x2)
  else
    let s := s.setTen t ⟨.keyless, cmdSlot s, e, e⟩
    .next { s with dbg := { s.dbg with tenCnt := NMap.insert s.dbg.tenCnt t [] } }.secOk

/-! Keys (R319). -/

/-- SEC_IDHASH as bytes. -/
def idHash (s : State) : List Byte := (List.range 4).flatMap fun n => natLe 8 (s.get (SEC_IDHASH_HASH n))

/-- Bytes of the pool at an address of this node, in one ACTIVE extent that grants read. -/
def readable (s : State) (addr n : Nat) : Option (List Byte) :=
  let off := rpaOff addr
  if rpaNode addr = s.node then
    match extAt s off with
    | some (_, x) =>
      if x.st = .active ∧ hasRights x rtRead ∧ off + n ≤ x.base + 2097152 * x.length then some (rdBytes s.mem off n) else none
    | none => none
  else none

/-- ASCII text as bytes. -/
def ascii (t : String) : List Byte := t.toList.map fun c => BitVec.ofNat 8 c.toNat

/-- The key that R319 opens a wrapped secret with. -/
def wrapKey (eph salt info : List Byte) : List Byte := (Config.sealKey eph salt info).toList

def State.loadKey (s : State) (t : Nat) (r : TenRec) (k : List Byte) : State :=
  (s.modSec fun x => { x with keys := NMap.insert x.keys t k }).setTen t { r with st := .live }

/-- LOAD_KEY (R319, Table 16.3); the lowest detail that applies. -/
def execLoadKey (s : State) : Host.Outcome State Fault Refusal :=
  onTenant s (fun st => st = .keyless) fun t r =>
    match readable s (s.get SEC_CMD1_ADDR) 196 with
    | none => s.secRefuse 0x7
    | some b =>
      let salt := slice b 8 32
      let kek := wrapKey (slice b 0x28 64) salt (ascii "halhild tenant key" ++ natLe 2 t)
      if salt ≠ idHash s then s.secRefuse 0x4
      else match Config.gcmOpen kek (slice b 0x68 12) (b.take 0x68) (slice b 0x74 80) with
        | none => s.secRefuse 0x5
        | some k => if leNat (b.take 2) ≠ 1 then s.secRefuse 0x7 else (s.loadKey t r (fitBytes 64 k)).secOk

/-- GEN_KEY (R319): a random key. -/
def execGenKey (s : State) : Host.Outcome State Fault Refusal :=
  onTenant s (fun st => st = .keyless) fun t r =>
    let (n, s) := s.take
    (s.loadKey t r (Config.randomKey n).toList).secOk

/-! Tenant reset (R317, Table 16.2). -/

/-- Steps 2 to 4 of Table 16.2: channels reset, engines stopped, and the slots of its groups answered and freed. -/
def State.stopTenant (s : State) (t : Nat) : State :=
  let chs := s.chn.chans.filter fun (c : Nat × Chan) => c.2.tenant = t && c.2.st ≠ chDisabled && c.2.st ≠ chResetting
  let s := chs.foldl (fun s c => s.resetChan c.1 c.2) s
  let s := (s.eng.launches.filter fun l => l.tenant = t && l.held).foldl (fun s l => s.abortEngines l.engines) s
  let mine := s.fab.chunks.filter fun (k : Nat × Chunk) => (NMap.find s.fab.groups (k.1 / 64)).any fun g => g.tenant = t
  mine.foldl (fun s k => s.answerChunk k.1 k.2 stAborted []) s

/-- Whether steps 2 and 3 have ended: every channel DISABLED, no launch left. -/
def tenantStopped (s : State) (t : Nat) : Bool :=
  (s.chn.chans.all fun (c : Nat × Chan) => c.2.tenant ≠ t || c.2.st = chDisabled) && s.eng.launches.all fun l => l.tenant ≠ t

def State.startReset (s : State) (t : Nat) (r : TenRec) : State := (s.setTen t { r with st := .resetting }).stopTenant t

/-- SEC_CMD RESET (R317); it ends with step 5 (R450). -/
def execTenantReset (s : State) : Host.Outcome State Fault Refusal :=
  onTenant s (fun st => st = .live) fun t r => (s.startReset t r).put SEC_CMD_CTL_BUSY 1

/-- TEN_CTL.RESET (Table 16.11): ignored unless LIVE. -/
def execTenCtlReset (w : Nat) (s : State) : Host.Outcome State Fault Refusal :=
  match slotRec s w with
  | some (t, r) => .next (if r.st = .live then s.startReset t r else s)
  | none => .next s

/-- TENANT_RESET_DONE (Table 16.2 step 5). -/
def execTenantResetDone (t : Nat) (s : State) : Host.Outcome State Fault Refusal :=
  match tenRec s t with
  | some r =>
    if r.st = .resetting ∧ tenantStopped s t then
      let s := ((s.setTen t { r with st := .live }).put (TEN_FAULT_FAULT r.slot) 0).secEvent SEC_EVENT_RESET_DONE r.slot
      .next (if s.flag SEC_CMD_CTL_BUSY ∧ cmdSlot s = r.slot then (s.put SEC_CMD_CTL_BUSY 0).secOk else s)
    else .next s
  | none => .next s

/-! Removal (R327 to R330, Table 16.7). -/

/-- Whether a page belongs to a tenant's extent. -/
def pageOf (s : State) (t page : Nat) : Bool := (extOfPage s page).any fun x => x.tenant = t

/-- The nodes that hold pages lodged for a tenant, or receive them. -/
def holders (s : State) (t : Nat) : List Nat :=
  let pages := s.plc.map.filterMap fun (p : Nat × Frame) => if p.2.tier = .remote ∧ pageOf s t p.1 then some p.2.holder else none
  let moves := s.plc.moves.filterMap fun (m : Nat × Move) =>
    if m.2.dest.tier = .remote ∧ pageOf s t m.1 then some m.2.dest.holder else none
  (pages ++ moves).foldl (fun l n => insSorted n l) []

/-- PURGE or its acknowledgement, in a MGMT packet (log entry 25: the spec gives it no format). -/
def purgePkt (s : State) (dst t epoch node : Nat) : Pkt :=
  { request s 0x38 4 dst t with
    tenEpoch := epoch
    addr := node * 2 ^ 50
    len := 1
    payload := [0#8] }

def State.sendPurges (s : State) (t epoch : Nat) (nodes : List Nat) : State :=
  nodes.foldl (fun s n => s.sendNew (purgePkt s (Config.nodeAgent n % 4096) t epoch s.node)) s

/-- A move of a page given up (R120): the destination frame here awaits its scrub, one on a holder is released to it. -/
def State.abortMove (s : State) (page : Nat) (m : Move) : State :=
  let s := s.leaveFrame page { Frame.zeroEntry with frame := m.frame, tier := m.dest.tier, set := m.dest.set, holder := m.dest.holder }
  let s := s.setFrame page { frameOf s page with moving := false }
  { s with plc := { s.plc with moves := NMap.erase s.plc.moves page } }

/-- Holders of a tenant's pages that have not acknowledged its PURGE and are not lost (Table 16.7 step 4). -/
def purgeLeft (s : State) (t : Nat) : List Nat :=
  ((NMap.find s.sec.purges t).elim [] Purge.waits).filter fun n => !s.plc.lost.contains n

/-- Step 7 of Table 16.7, once the holders have acknowledged: every move of the tenant's pages is aborted, and its frames on
other nodes are released. -/
def State.releaseTenant (s : State) (t : Nat) : State :=
  match NMap.find s.sec.purges t with
  | some g =>
    if purgeLeft s t = [] ∧ !g.ended then
      let s := s.modSec fun x => { x with purges := NMap.insert x.purges t { g with ended := true } }
      let s := (s.plc.moves.filter fun (m : Nat × Move) => pageOf s t m.1).foldl (fun s m => s.abortMove m.1 m.2) s
      let out := s.plc.map.filter fun (p : Nat × Frame) => p.2.tier = .remote && pageOf s t p.1
      { s with plc := { s.plc with notices := s.plc.notices ++ out.map fun (p : Nat × Frame) => Notice.release p.2.holder p.1 } }.plcSettle
    else s
  | none => s

/-- Steps 2 to 7 of Table 16.7. -/
def State.fenceTenant (s : State) (t : Nat) (r : TenRec) : State :=
  let e := (r.cur + 1) % 65536
  let hs := holders s t
  let s := s.setTen t ⟨.fenced, r.slot, e, e⟩
  let s := s.modSec fun x => { x with purges := NMap.insert x.purges t ⟨hs, s.now, false⟩ }
  let s := (s.sendPurges t e hs).stopTenant t
  let ids := NMap.keys (NMap.keep (fun _ (x : Extent) => x.tenant = t && x.st ≠ .fencing && x.st ≠ .scrubbing) s.ext.table)
  (s.fenceMany ids 3).releaseTenant t

/-- TENANT_FENCE (Table 16.7 steps 1 to 3): accepted in KEYLESS and LIVE. -/
def execTenantFence (s : State) : Host.Outcome State Fault Refusal :=
  onTenant s (fun st => st = .keyless || st = .live) fun t r => (s.fenceTenant t r).secOk

/-- A PURGE whose frames have all been scrubbed is acknowledged (R328). -/
def State.purgeAcks (s : State) : State :=
  let done := s.sec.purgeDue.filter fun d => d.frames = []
  let s := s.modSec fun x => { x with purgeDue := x.purgeDue.filter fun d => d.frames ≠ [] }
  done.foldl (fun s d => s.sendNew (purgePkt s d.agent d.tenant 0 s.node)) s

/-- PURGE (R328): the holder raises its FLOOR, discards what it has received, scrubs the frames, and acknowledges. -/
def execSecPurge (p : Pkt) (s : State) : Host.Outcome State Fault Refusal :=
  if p.opcode ≠ 0x38 then .next s
  else
    let r := (tenRec s p.tenant).getD ⟨.none, 0, 0, 0⟩
    let d := (p.tenEpoch + 65536 - r.floor) % 65536
    let s := if 1 ≤ d ∧ d < 32768 then s.setTen p.tenant { r with floor := p.tenEpoch } else s
    let mine := NMap.keys (NMap.keep (fun _ (l : Lodged) => l.owner = rpaNode p.addr && l.tenant = p.tenant) s.plc.lodgedIn)
    let frames : List FrameId := mine.map fun f => ⟨.hbm, 0, f⟩
    let s := { s with plc := { s.plc with
      lodgedIn := NMap.keep (fun f _ => !mine.contains f) s.plc.lodgedIn
      lodgedMem := NMap.keep (fun k _ => !mine.contains (k / 16384)) s.plc.lodgedMem
      scrub := s.plc.scrub ++ frames } }
    let due : PurgeDue := ⟨p.src, rpaNode p.addr, p.tenant, frames⟩
    .next ((s.modSec fun x => { x with
      purgeDue := if x.purgeDue.any (fun (y : PurgeDue) => y.node = due.node && y.tenant = due.tenant) then x.purgeDue
        else x.purgeDue ++ [due] }).purgeAcks)

/-- FRAME_SCRUB_DONE (R117): a frame left by a move, or a lodged frame that its owner has released, is free; a PURGE
that waited for it is acknowledged. -/
def execFrameScrubDone (tier set frame : Nat) (s : State) : Host.Outcome State Fault Refusal :=
  let id : FrameId := ⟨if tier = 0 then .hbm else .ddr5, if tier = 0 then 0 else set, frame⟩
  let s' := s.scrubDone id
  .next ((s'.modSec fun x => { x with
    purgeDue := x.purgeDue.map fun d => { d with frames := if s.plc.scrub.contains id then d.frames.erase id else d.frames } }).purgeAcks)

/-- PURGE_RESEND (Table 16.7 step 4): every 1 ms, to the holders that are not lost. -/
def execPurgeResend (t : Nat) (s : State) : Host.Outcome State Fault Refusal :=
  match NMap.find s.sec.purges t, tenRec s t with
  | some g, some r =>
    let left := purgeLeft s t
    if left ≠ [] ∧ g.sent + 1000000 ≤ s.now then
      .next ((s.modSec fun x => { x with purges := NMap.insert x.purges t { g with sent := s.now } }).sendPurges t r.cur left)
    else .next (s.releaseTenant t)
  | _, _ => .next s

/-- PURGE_ACK (Table 16.7 step 4): the holder that a packet comes from acknowledges. -/
def execPurgeAck (p : Pkt) (s : State) : Host.Outcome State Fault Refusal :=
  match NMap.find s.sec.purges p.tenant with
  | some g =>
    if p.opcode = 0x38 ∧ g.waits.contains (rpaNode p.addr) then
      let g' := { g with waits := g.waits.filter fun n => n ≠ rpaNode p.addr }
      .next ((s.modSec fun x => { x with purges := NMap.insert x.purges p.tenant g' }).releaseTenant p.tenant)
    else .next s
  | none => .next s

/-- Whether steps 4 to 7 have ended, and step 7 of Table 2.4 for every extent. -/
def tenantDrained (s : State) (t : Nat) : Bool :=
  (NMap.find s.sec.purges t).all Purge.ended && purgeLeft s t == [] && tenantStopped s t &&
  (s.plc.moves.all fun (m : Nat × Move) => !pageOf s t m.1) &&
  s.ext.table.all fun (x : Nat × Extent) => x.2.tenant ≠ t || x.2.st = .scrubbing

/-- TENANT_DRAINED (Table 16.7 step 8). -/
def execTenantDrained (t : Nat) (s : State) : Host.Outcome State Fault Refusal :=
  match tenRec s t with
  | some r =>
    if r.st = .fenced ∧ tenantDrained s t then
      .next ((((s.setTen t { r with st := .drained }).modSec fun x => { x with purges := NMap.erase x.purges t })).secEvent
        SEC_EVENT_FENCE_DONE r.slot)
    else .next s
  | none => .next s

/-- ERASE (Table 16.7 step 10, R330): the key is gone; so are rime copies of REMOTE lines, and the neve stores of the
cirques the tenant used last. -/
def execSecErase (s : State) : Host.Outcome State Fault Refusal :=
  onTenant s (fun st => st = .drained) fun t r =>
    let s := (s.modSec fun x => { x with keys := NMap.erase x.keys t }).setTen t { r with st := .erased }
    let s := { s with plc := { s.plc with filled := s.plc.filled.filter fun l => !pageOf s t (l / 16384) } }
    let mine := fun (e : Nat) => NMap.find s.eng.lastTen (e / 16) == some t
    let s := { s with eng := { s.eng with
      engs := NMap.mapVal (fun e (x : Eng) => if mine e then { x with neve := [], poison := [] } else x) s.eng.engs } }
    (s.secEvent SEC_EVENT_ERASE_DONE r.slot).secOk

/-! Weight packages (R325, R326). -/

/-- The extent and offset that UNSEAL writes to, with room for `n` bytes. -/
def unsealDest (s : State) (t n : Nat) : Option Nat :=
  let id := s.get SEC_CMD0_EXTENT_ID
  let o := s.get SEC_CMD2_OFFSET
  match NMap.find s.ext.table id with
  | some x =>
    let mode := x.mode = .software || (x.mode = .published && roleOf s id x = .staging)
    if x.tenant = t ∧ (x.st = .active ∨ x.st = .grace) ∧ mode ∧ o % 128 = 0 ∧ o + n ≤ 2097152 * x.length then some (x.base + o)
    else none
  | none => none

/-- NONCE_BASE with bytes 8 to 11 xored with a chunk's number. -/
def chunkNonce (base : List Byte) (c : Nat) : List Byte :=
  base.take 8 ++ natLe 4 (Nat.xor (leNat (slice base 8 4)) c)

/-- The chunks of a package from `c` on, `n` of them, opened and written in order; none where one fails its tag, with the
state reached and the bytes written. -/
def State.unsealChunks (s : State) (pk nonce hash : List Byte) (src dst len : Nat) : Nat → Nat → Bool × Nat × State
  | 0, c => (true, min len (65536 * c), s)
  | n + 1, c =>
    let k := min 65536 (len - 65536 * c)
    let sealed := rdBytes s.mem (src + 65552 * c) (k + 16)
    match Config.gcmOpen pk (chunkNonce nonce c) (hash ++ natLe 4 c) sealed with
    | none => (false, 65536 * c, s)
    | some plain => (s.store (dst + 65536 * c) ((fitBytes k plain).map some) false .nobody).unsealChunks pk nonce hash src dst len n (c + 1)

/-- An UNSEAL that fails: every byte written is zero again. -/
def State.unsealZero (s : State) (dst n : Nat) : State := if n = 0 then s else s.store dst (List.replicate n (some 0#8)) false .nobody

def State.unsealFail (s : State) (slot de : Nat) : State := (s.secEvent SEC_EVENT_UNSEAL_FAIL slot).secRefuse de

/-- UNSEAL (R326); the lowest detail that applies. -/
def execSecUnseal (s : State) : Host.Outcome State Fault Refusal :=
  onTenant s (fun st => st = .live) fun t r =>
    let a := s.get SEC_CMD1_ADDR
    match readable s a 0x70 with
    | none => s.secRefuse 0x7
    | some h =>
      let n := leNat (slice h 2 2)
      let len := leNat (slice h 0x18 8)
      let bad : Bool := leNat (h.take 2) ≠ 1 || n = 0 || 256 < n || len = 0 || 2 ^ 40 < len
      let chunks := divUp len 65536
      let content := 0x70 + 80 * n
      match (if bad then none else readable s a (content + len + 16 * chunks)) with
      | none => s.secRefuse 0x7
      | some b =>
        let members := (List.range n).map fun i => slice b (0x70 + 80 * i) 80
        match members.find? (fun m => m.take 32 = idHash s) with
        | none => s.unsealFail r.slot 0x4
        | some m =>
          let kek := wrapKey (slice h 0x30 64) (slice h 8 16) (ascii "halhild weight package")
          match Config.gcmOpen kek (List.replicate 12 0#8) (b.take 0x68) (m.drop 32) with
          | none => s.unsealFail r.slot 0x5
          | some pk =>
            match unsealDest s t len with
            | none => s.unsealFail r.slot 0x6
            | some dst =>
              let hash := (Config.sha256 (b.take content)).toList
              let (ok, done, s) := s.unsealChunks pk (slice h 0x20 12) hash (rpaOff a + content) dst len chunks 0
              if ok then (s.secEvent SEC_EVENT_UNSEAL_DONE r.slot).secOk else (s.unsealZero dst done).unsealFail r.slot 0x5

/-! The agent map (R312). -/

/-- SEC_AGENT_DATA_WRITE (R312): not stored where it would take an agent from its tenant while the agent holds a lease or
its DIR_AGENT_MAP bit is set; a stored change deletes the agent's retention records (R360). -/
def execSecAgentDataWrite (v : Word64) (s : State) : Host.Outcome State Fault Refusal :=
  let a := s.get SEC_AGENT_SEL_AGENT
  let t := v.toNat % 1024
  let new := if bit v.toNat 10 then some t else none
  let old := NMap.find s.sec.agents a
  if old.isSome ∧ old ≠ new ∧ ((NMap.find s.ext.leases a).isSome ∨ mapped s a) then .next s
  else
    let s := s.modSec fun x => { x with
      agents := match new with
        | some t => NMap.insert x.agents a t
        | none => NMap.erase x.agents a
      idleMap := if new.isSome || t = 0 then NMap.erase x.idleMap a else NMap.insert x.idleMap a t }
    .next (if old = new then s else { s with err := { s.err with retention := NMap.erase s.err.retention a } })

end Sys2Proof.Machine
end

