-- ==== Sys2Proof/Machine/Trace.lean ====
section
/-! DEFINITION. Error views and the moraine log's freeze, the device-fatal stop (chapter 18), the trace writer, triggers,
counter copies, gaps and the freeze snapshot (chapter 19); one meaning for each of their commands and events. -/

namespace Sys2Proof.Machine

open Reg

def State.modErr (s : State) (f : ErrUnit → ErrUnit) : State := { s with err := f s.err }
def State.modDbg (s : State) (f : DbgUnit → DbgUnit) : State := { s with dbg := f s.dbg }
def State.modMgt (s : State) (f : MgtUnit → MgtUnit) : State := { s with mgt := f s.mgt }

/-! Recoveries and views (R354, R356, R368). -/

/-- RECOVERY_CLOSE (R356): a unit's recovery ends. -/
def execRecoveryClose (ut ui : Nat) (s : State) : Host.Outcome State Fault Refusal := .next (s.closeRec ut ui)

/-- The 64 bytes of Table 18.2. A snapshot entry holds V0 in ADDR with ADDR_V 0 (R380). -/
def recBytes (r : ErrRec) : List Byte :=
  let addrV := r.addr.isSome && r.kind ≠ 2
  natLe 8 r.seq ++ natLe 8 r.time ++ natLe 1 (r.cls + 4 * b2n r.tenant.isSome + 8 * b2n addrV + 16 * r.kind) ++
  natLe 1 r.depth ++ natLe 1 r.unitType ++ natLe 1 r.status ++ natLe 2 r.unitIndex ++ natLe 2 r.cause ++
  natLe 2 (r.tenant.getD 0) ++ natLe 2 r.agent ++ natLe 4 r.parent ++ natLe 8 (r.addr.getD 0) ++ natLe 16 r.info ++
  natLe 4 r.count ++ natLe 4 0

/-- The entry that a view selects (R368): ring slot, place in a unit log, or moraine entry; none where it is empty. -/
def viewEntry (s : State) (source ut ui index : Nat) : Option ErrRec :=
  if source = 0 then (if index < 4096 then NMap.find s.err.ring index else none)
  else if source = 1 then (if index < 16 then (NMap.getD s.err.logs (unitKey ut ui) [])[index]? else none)
  else NMap.find s.err.moraine index

def viewBytes (r : Option ErrRec) : List Byte := match r with
  | some r => recBytes r
  | none => List.replicate 64 0#8

/-- ERR_VIEW_SEL_WRITE (R368): the fields, then the view. -/
def execErrViewSelWrite (v : Word64) (s : State) : Host.Outcome State Fault Refusal :=
  let s := s.wrFields ERR_VIEW_SEL v.toNat
  let l := viewBytes (viewEntry s (s.get ERR_VIEW_SEL_SOURCE) (s.get ERR_VIEW_SEL_UNIT_TYPE) (s.get ERR_VIEW_SEL_UNIT_INDEX)
    (s.get ERR_VIEW_SEL_INDEX))
  .next ((List.range 8).foldl (fun s n => s.put (ERR_VIEW_DATA n) (leNat (slice l (8 * n) 8))) s)

/-! The moraine log's freeze (R366). -/

/-- An in-band interrupt of the sideband (R404): none in SMBus fallback. -/
def State.alert (s : State) (byte : Nat) : State :=
  if s.mgt.i3c.isSome && !s.mgt.smbus then s.modMgt fun x => { x with ibi := x.ibi ++ [byte] } else s

def State.morFreeze (s : State) : State :=
  (((s.put ERR_MOR_STATUS_FROZEN 1).modErr fun x => { x with postLeft := none }).raise ERR_EVENT_MOR_FROZEN).alert 0x03

/-- The trigger of R366: a further MOR_POST entries, then the freeze. -/
def State.morTrigger (s : State) : State :=
  if s.flag ERR_MOR_STATUS_FROZEN ∨ s.err.postLeft.isSome then s
  else if s.get ERR_CFG_MOR_POST = 0 then s.morFreeze
  else s.modErr fun x => { x with postLeft := some (s.get ERR_CFG_MOR_POST) }

def execMoraineFreeze (s : State) : Host.Outcome State Fault Refusal := .next s.morTrigger

/-- ERR_MOR_CTL.UNFREEZE (R366). -/
def execMoraineUnfreeze (s : State) : Host.Outcome State Fault Refusal :=
  if s.flag ERR_MOR_STATUS_FROZEN ∨ s.err.postLeft = some 0 then
    .next ((s.put ERR_MOR_STATUS_FROZEN 0).modErr fun x => { x with postLeft := none })
  else .next s

def execMorPostReached (s : State) : Host.Outcome State Fault Refusal :=
  .next (if s.err.postLeft = some 0 then s.morFreeze else s)

/-! Management frames (Table 21.2): the stream uses them too. -/

/-- A frame on the management port. -/
def mgtFrame (s : State) (kind : Nat) (payload : List Byte) : List Byte :=
  natLe 1 0xe2 ++ natLe 1 kind ++ natLe 2 payload.length ++ natLe 2 s.node ++ natLe 2 0 ++ natLe 8 s.dev.serial ++ payload

def State.ethSend (s : State) (kind : Nat) (payload : List Byte) : State :=
  if s.flag MGT_ETH_LINK_UP then
    let mac := if s.get MGT_ETH_HOST_MAC = 0 then 2 ^ 48 - 1 else s.get MGT_ETH_HOST_MAC
    s.modMgt fun x => { x with eth := x.eth ++ [(mac, mgtFrame s kind payload)] }
  else s

/-! Gaps (R376). -/

def gapF (d : Nat) : Fld :=
  if d = 0 then DBG_GAP_ENGINE else if d = 1 then DBG_GAP_NOC else if d = 2 then DBG_GAP_SWITCH
  else if d = 3 then DBG_GAP_MGMT else DBG_GAP_FROST

/-- A domain of Table 19.4 stops. -/
def State.gapBegin (s : State) (d : Nat) : State :=
  if (NMap.find s.dbg.stopped d).isSome then s else s.modDbg fun x => { x with stopped := NMap.insert x.stopped d s.now }

/-- A domain runs again: its GAP record and its count. -/
def State.gapEnd (s : State) (d : Nat) : State :=
  match NMap.find s.dbg.stopped d with
  | some t =>
    let s := s.modDbg fun x => { x with stopped := NMap.erase x.stopped d }
    (s.bump (gapF d) 1).trace { time := s.now, type := 0x0e, unitType := utClocks, unitIndex := d, tenant := none, arg0 := t, arg1 := s.now }
  | none => s

/-! The freeze snapshot (R379, R380). -/

/-- An entry's content: unit (none where Table 18.3 has no type for it), tenant, V0 to V2; a value the model does not hold is
none. Both become free values (log entry 2). -/
structure SnapEnt where
  unit : Option (Nat × Nat)
  tenant : Option Nat
  v0 : Nat
  v1 : Nat
  v2 : Option Nat
  deriving DecidableEq, Repr

/-- WAIT of item 0x01: code, number, n. -/
def waitWord : Option EWait → Nat
  | none => 0
  | some (.tag t) => 1 + 16 * t
  | some .all => 2
  | some (.most n) => 3 + 65536 * n
  | some (.bar b) => 4 + 16 * b
  | some (.sem m n) => 5 + 16 * m + 65536 * n
  | some .halt => 7
  | some (.hold t) => 8 + 16 * t

def snapEngines (s : State) : List SnapEnt :=
  (List.range 256).map fun e =>
    ⟨some (utEngine, e), if engBusy s e then some (engTenant s e) else none, regVal s (ENG_STATUS e), waitWord (engOf s e).wait,
      some (regVal s (ENG_FAULT e))⟩

def snapBarriers (s : State) : List SnapEnt :=
  (List.range 16).flatMap fun k =>
    [⟨none, none, regVal s (CIRQ_BAR0 k), regVal s (CIRQ_BARMASK0 k), some (regVal s (CIRQ_STATUS k))⟩,
     ⟨none, none, regVal s (CIRQ_BAR1 k), regVal s (CIRQ_BARMASK1 k), some 0⟩]

def snapSems (s : State) : List SnapEnt :=
  (List.range 16).flatMap fun k =>
    let r := fun n => if n < 8 then regVal s (CIRQ_SEM k n) else 0
    (List.range 3).map fun i => ⟨none, none, r (3 * i), r (3 * i + 1), some (r (3 * i + 2))⟩

/-- The first condition of R145 that holds a channel's next descriptor back. -/
def unmet (x : Chan) : Nat :=
  let staged := x.live.any fun l => !l.started && l.ended.isNone
  if x.sqHead = x.sqTail && !staged then 0
  else if x.live.any fun l => l.d.op = opFence && l.ended.isNone && l.started then 2
  else if x.liveMax ≤ x.live.length && !staged then 3
  else if 2 ^ x.cqLog ≤ ahead x.cqTail x.cqHead + x.live.length && !staged then 4
  else if x.st ≠ chRunning then 5 else 6

def snapChannels (s : State) : List SnapEnt :=
  (s.chn.cache.foldl (fun l n => insSorted n l) []).filterMap fun c =>
    (chanOf' s c).map fun x =>
      let old := x.live.head?
      let flight := old.elim 0 fun l => (l.tiles.filter fun t => !t.delivered).length
      ⟨some (utChannel, c), some x.tenant, x.sqHead + 65536 * x.sqTail + 2 ^ 32 * x.cqHead + 2 ^ 48 * x.cqTail,
        x.st + 256 * x.live.length + 65536 * (old.elim 0 LiveDesc.idx % 65536) + 2 ^ 32 * flight + 2 ^ 40 * unmet x,
        some (tokens s c % (2 ^ 64 : Int)).toNat⟩

/-- The tiles in flight on a data mover: channel, its tenant, descriptor and tile. -/
def moverTiles (s : State) (k : Nat) : List (Nat × Nat × LiveDesc × Tile) :=
  s.chn.chans.flatMap fun (p : Nat × Chan) => p.2.live.flatMap fun l =>
    (l.tiles.filter fun t => !t.delivered && moverOf s l t.ord = k).map fun t => (p.1, p.2.tenant, l, t)

/-- What a tile waits for (item 0x05). -/
def tileWait (s : State) (c : Nat) (l : LiveDesc) (t : Tile) : Nat :=
  if !t.performed then (if t.accs.all (accReady s) then 0 else 2)
  else if heldFor s (.tile c l.idx t.ord) then 4 else if t.due ≠ 0 then 5 else 0

def snapMovers (s : State) : List SnapEnt :=
  (List.range 16).map fun k =>
    let ts := moverTiles s k
    let first := ts.foldl (fun (m : Option (Nat × Nat × LiveDesc × Tile)) t =>
      match m with
      | some b => if t.2.2.2.began < b.2.2.2.began then some t else m
      | none => some t) none
    match first with
    | none => ⟨some (utMover, k), none, 0, 0, some 0⟩
    | some (c, ten, l, t) => ⟨some (utMover, k), some ten, ts.length, c + 65536 * (l.idx % 65536), some (tileWait s c l t)⟩

/-- What the oldest waiting line of a slice waits for: offset, code, agent, hold left. -/
def sliceWait (s : State) (k : Nat) : Nat × Nat × Nat × Nat :=
  match s.dir.txns.find? fun t => homeTile s (128 * t.line) = k with
  | some t =>
    let off := 128 * t.line
    if t.started then (off, 2, (t.waits.head?).elim 0 Snoop.agent, 0)
    else match NMap.find s.dir.holds t.line with
      | some (a, til) => (off, 1, a, (til - s.now) / 10)
      | none => if needsEntry s t && 16 ≤ (setLines s t.line).length then (off, 4, 0, 0) else (off, 0, 0, 0)
  | none =>
    match s.mir.held.find? fun (h : Nat × Held) => homeTile s h.2.off = k with
    | some h => (h.2.off, 5, 0, 0)
    | none =>
      match s.dir.accs.find? fun (a : Nat × HomeAcc) => homeTile s a.2.off = k with
      | some a => (a.2.off, 3, 0, 0)
      | none => (0, 0, 0, 0)

def snapSlices (s : State) : List SnapEnt :=
  (List.range 16).map fun k =>
    let (off, w, a, h) := sliceWait s k
    ⟨some (utDir, k), none, inSlice s k, off, some (w + 65536 * a + 2 ^ 32 * h)⟩

def snapMem (s : State) : List SnapEnt :=
  let hbm := (List.range 16).filter fun k => bit s.dev.part.hbmSites k
  let ddr := (NMap.keys s.mch.dimm).map fun c => 16 + c
  (hbm ++ ddr).flatMap fun k => (List.range 4).map fun p =>
    let q := (ctlOf s k).queue.filter fun r => r.port = p
    let unit := if k < 16 then none else some (utDdrChannel, k - 16)
    match q.head? with
    | none => ⟨unit, none, 0, 0, some 0⟩
    | some r => ⟨unit, none, q.length, s.now - r.arrive, some r.addr⟩

/-- The routers' buffers, request plane and reply plane of each: bytes that wait, the oldest head's tile and age. -/
def snapRouters (s : State) : List SnapEnt :=
  (List.range 16).flatMap fun r => [Plane.request, Plane.reply].map fun p =>
    let q := nocAt s r p
    ⟨some (0x0c, 0), none, q.foldl (fun n x => n + x.bytes) 0, (q.head?).elim 0 NocPkt.dst,
      some ((q.head?).elim 0 fun x => s.now - x.since)⟩

def snapOutputs (s : State) : List SnapEnt :=
  ((List.range 72).filter (hasPort s) ++ range' 72 16).flatMap fun p => (List.range 6).map fun c =>
    let unit := if p < 72 then (utPort, p) else (utSwitch, 0)
    let credit := if p < 72 then some (s.get (credF p c)) else none
    match (NMap.getD s.fab.outq (8 * p + c) []).head? with
    | none => ⟨some unit, none, 0, 0, credit⟩
    | some q =>
      let h := q.pkt
      ⟨some unit, none, queueDepth s p c, h.src + 65536 * h.dst + 2 ^ 32 * h.tag + 2 ^ 48 * h.opcode,
        credit.map fun n => n + 2 ^ 63 * b2n (deferredNow s p c h)⟩

def snapLinks (s : State) : List SnapEnt :=
  ((List.range 72).filter (hasPort s)).map fun p =>
    ⟨some (utPort, p), none, regVal s (LNK_TXSTATE p), regVal s (LNK_RXSTATE p), some (regVal s (LNK_TXCRED p))⟩

def snapReorder (s : State) : List SnapEnt :=
  let keys := s.fab.held.foldl (fun l q => insSorted (domKey q.pkt) l) []
  keys.map fun k =>
    let mine := s.fab.held.filter fun q => domKey q.pkt = k
    let old := mine.foldl (fun m q => min m q.at_) s.now
    ⟨some (utSwitch, 0), none, k / 8 + 4096 * (k % 8), NMap.getD s.fab.expect k 0, some (mine.length + 65536 * (s.now - old))⟩

def snapReductions (s : State) : List SnapEnt :=
  s.fab.chunks.map fun (p : Nat × Chunk) =>
    ⟨some (utSwitch, 0), (NMap.find s.fab.groups (p.1 / 64)).map Group.tenant, p.1 / 64 + 65536 * p.2.chunk, p.2.taken.length,
      some (s.now - p.2.began)⟩

/-- The items in order, codes 0x01 to 0x0C. -/
def snapItems (s : State) : List (List SnapEnt) :=
  [snapEngines s, snapBarriers s, snapSems s, snapChannels s, snapMovers s, snapSlices s, snapMem s, snapRouters s, snapOutputs s,
   snapLinks s, snapReorder s, snapReductions s]

/-- An entry as a record (R380). SEQ counts records and events only, so an entry's SEQ is a free value (log entry 2). -/
def snapRec (s : State) (item index k : Nat) (x : SnapEnt) : ErrRec :=
  let free := fun n => (Config.freeValue (s.fresh + 4 * k + n)).toNat
  let unit := x.unit.getD (free 1 % 256, free 2 % 65536)
  { seq := free 0, time := s.now, cls := 0, tenant := x.tenant, addr := some x.v0, kind := 2, depth := 0, unitType := unit.1, status := 0,
    unitIndex := unit.2, cause := item, agent := 0, parent := s.get DBG_SNAP_STATUS_NUMBER % 2 ^ 32,
    info := x.v1 % 2 ^ 64 + 2 ^ 64 * (x.v2.getD (free 3) % 2 ^ 64), count := index }

def snapRecs (s : State) : Nat → Nat → List (List SnapEnt) → List ErrRec
  | _, _, [] => []
  | item, k, l :: ls => (l.zipIdx.map fun (p : SnapEnt × Nat) => snapRec s item p.2 (k + p.2) p.1) ++ snapRecs s (item + 1) (k + l.length) ls

/-- The snapshot latched: NUMBER counts it, and its entries wait to be written. -/
def State.snapLatch (s : State) : State × List ErrRec :=
  let s := s.bump DBG_SNAP_STATUS_NUMBER 1
  let l := snapRecs s 1 0 (snapItems s)
  ({ s with fresh := s.fresh + 4 * l.length }, l)

/-- The pool destination's base, where its extent takes a snapshot (R379). -/
def snapBase (s : State) : Option Nat :=
  match NMap.find s.ext.table (s.get DBG_SNAP_CTL_EXTENT_ID) with
  | some x => if x.st = .active ∧ x.mode = .software ∧ hasRights x rtWrite ∧ 2 ≤ x.length then some x.base else none
  | none => none

/-- A snapshot asked for by TAKE or by a trigger (R379). -/
def State.snapshot (s : State) : State :=
  let dest : Option (Option Nat) := if s.get DBG_SNAP_CTL_DEST = 1 then some none else (snapBase s).map some
  if s.flag DBG_SNAP_STATUS_BUSY then s.raise DBG_SNAP_STATUS_MISSED
  else match dest with
    | none => s.raise DBG_SNAP_STATUS_MISSED
    | some d =>
      let (s, l) := s.snapLatch
      (s.modDbg fun x => { x with snap := l, snapTo := d }).put DBG_SNAP_STATUS_BUSY 1

def execSnapshotTake (s : State) : Host.Outcome State Fault Refusal := .next s.snapshot

/-- How many entries the moraine log takes now. -/
def moraineRoom (s : State) (n : Nat) : Nat := if s.flag ERR_MOR_STATUS_FROZEN then 0 else s.err.postLeft.elim n (min n)

def State.snapDone (s : State) (n : Nat) : State :=
  ((s.modDbg fun x => { x with snap := [], snapTo := none }).put DBG_SNAP_STATUS_BUSY 0).put DBG_SNAP_STATUS_ENTRIES n

/-- SNAPSHOT_DONE (R379): the entries are written. A pool extent fenced meanwhile takes none, and the snapshot is abandoned. -/
def execSnapshotDone (s : State) : Host.Outcome State Fault Refusal :=
  let l := s.dbg.snap
  if ¬ s.flag DBG_SNAP_STATUS_BUSY then .next s
  else match s.dbg.snapTo with
    | none => .next ((l.foldl State.moraineAdd s).snapDone (moraineRoom s l.length))
    | some b =>
      if (extAt s b).any fun x => x.2.st = .active || x.2.st = .grace then
        .next ((s.store b ((l.flatMap recBytes).map some) false .nobody).snapDone l.length)
      else .next ((s.raise DBG_SNAP_STATUS_ABORTED).snapDone 0)

/-! The trace buffer (R372 to R375). -/

def bufExtent (s : State) : Option Extent := NMap.find s.ext.table (s.get DBG_TBUF_EXTENT_ID)

/-- Records that the buffer holds. -/
def traceCap (s : State) : Nat := 32768 * s.get DBG_TBUF_SIZE_MIB

/-- Whether the buffer extent can take a trace. -/
def bufOk (s : State) : Bool :=
  (bufExtent s).any fun x => x.st = .active && x.mode = .software && hasRights x rtWrite &&
    s.get DBG_TBUF_SIZE_MIB ≤ 2 * x.length

/-- The start of a trace: nothing written, nothing waiting at the sources. -/
def State.traceStart (s : State) : State :=
  ((s.put DBG_TPOS_WRITTEN 0).put DBG_TRIG_STATUS_STATE 0).modDbg fun x => { x with srcs := [], streamed := 0, postLeft := 0 }

/-- A write to DBG_TCFG (R372): refused whole where it would start a trace that the buffer extent cannot take. -/
def execDbgTcfgModeWrite (v : Word64) (s : State) : Host.Outcome State Fault Refusal :=
  let old := s.get DBG_TCFG_MODE
  let new := DBG_TCFG_MODE.of v.toNat
  if old = 0 ∧ new ≠ 0 ∧ ¬ bufOk s then .next s
  else
    let frozen := s.get DBG_TRIG_STATUS_STATE = 3
    let s := s.wrFields DBG_TCFG v.toNat
    .next (if new ≠ 0 ∧ (old = 0 ∨ frozen) then s.traceStart else s)

/-- The 32 bytes of Table 19.1. -/
def traceBytes (r : TraceRec) : List Byte :=
  natLe 8 r.time ++ natLe 1 r.type ++ natLe 1 0 ++ natLe 1 r.unitType ++ natLe 1 0 ++ natLe 2 r.unitIndex ++
  natLe 2 (r.tenant.elim 0 fun t => 32768 + t % 1024) ++ natLe 8 r.arg0 ++ natLe 8 r.arg1

/-- Whether the writer takes a record: its tenant's, every tenant's, or one that marks the stream itself. -/
def recWanted (s : State) (r : TraceRec) : Bool :=
  12 ≤ r.type || s.flag DBG_TCFG_ALL_TENANTS || (r.tenant.isSome && (bufExtent s).map Extent.tenant == r.tenant)

/-- Whether the buffer has no place for a record. -/
def traceFull (s : State) : Bool :=
  s.get DBG_TRIG_STATUS_STATE = 3 || (s.get DBG_TCFG_MODE = 2 && traceCap s ≤ s.get DBG_TPOS_WRITTEN) ||
  (s.get DBG_TCFG_MODE = 3 && traceCap s ≤ s.get DBG_TPOS_WRITTEN - s.dbg.streamed)

/-- A record put into its slot, or dropped at the writer. -/
def State.putTrace (s : State) (r : TraceRec) : State :=
  match bufExtent s with
  | none => s.count DBG_TSTAT_WRITER_DROPS 1
  | some x =>
    if traceFull s then s.count DBG_TSTAT_WRITER_DROPS 1
    else
      let n := s.get DBG_TPOS_WRITTEN
      let s := s.store (x.base + 32 * (n % max 1 (traceCap s))) ((traceBytes r).map some) false .nobody
      (s.put DBG_TPOS_WRITTEN (n + 1)).modDbg fun d => { d with postLeft := d.postLeft - 1 }

/-- ARMING and POST that have run their course (R375). -/
def State.traceSettle (s : State) : State :=
  let st := s.get DBG_TRIG_STATUS_STATE
  if s.get DBG_TCFG_MODE = 0 then s
  else if st = 0 ∧ s.get DBG_TWIN_PRE ≤ s.get DBG_TPOS_WRITTEN then s.put DBG_TRIG_STATUS_STATE 1
  else if st = 2 ∧ s.dbg.postLeft = 0 then s.put DBG_TRIG_STATUS_STATE 3
  else s

/-- Trigger `n` against a record (R374). -/
def triggerHits (s : State) (r : TraceRec) (n : Nat) : Bool :=
  let ty := s.get (DBG_TRIG_CTL_TYPE n)
  let ut := s.get (DBG_TRIG_CTL_UNIT_TYPE n)
  s.flag (DBG_TRIG_CTL_ENABLE n) && (ty == 0 || ty == r.type) && (ut == 0xff || ut == r.unitType) &&
  Nat.land (Nat.xor (s.get (DBG_TRIG_CTL_UNIT_INDEX n)) r.unitIndex) (s.get (DBG_TRIG_CTL_UNIT_MASK n)) == 0 &&
  (!s.flag (DBG_TRIG_CTL_TENANT_MATCH n) || r.tenant == some (s.get (DBG_TRIG_CTL_TENANT n))) &&
  Nat.land r.arg0 (s.get (DBG_TRIG_MASK_MASK n)) == s.get (DBG_TRIG_VALUE_VALUE n)

/-- A trigger fires on record number `pos` (R375). -/
def State.fireTrigger (s : State) (n pos : Nat) : State :=
  let s := s.putTrace { time := s.now, type := 0x0c, unitType := 0, unitIndex := 0, tenant := none, arg0 := n, arg1 := pos }
  let s := ((s.put DBG_TRIG_STATUS_STATE 2).put DBG_TRIG_STATUS_FIRED n).put DBG_TRIG_STATUS_TRIG_POS pos
  let s := s.modDbg fun d => { d with postLeft := s.get DBG_TWIN_POST }
  let s := if s.flag (DBG_TRIG_CTL_SNAP n) then s.snapshot else s
  if s.flag (DBG_TRIG_CTL_MORAINE n) then s.morTrigger else s

/-- A record at the writer: placed, and tested against the triggers while STATE is ARMED. -/
def State.writeRec (s : State) (r : TraceRec) : State :=
  let s := s.traceSettle
  let pos := s.get DBG_TPOS_WRITTEN
  if ¬ recWanted s r then s
  else if traceFull s ∨ (bufExtent s).isNone then s.count DBG_TSTAT_WRITER_DROPS 1
  else
    let armed := s.get DBG_TRIG_STATUS_STATE = 1
    let s := s.putTrace r
    match (if armed then (List.range 4).find? (triggerHits s r) else none) with
    | some n => s.fireTrigger n pos
    | none => s

/-- TRACE_WRITE (R372 to R375): the writer takes the oldest record of a source. -/
def execTraceWrite (ut ui : Nat) (s : State) : Host.Outcome State Fault Refusal :=
  match NMap.find s.dbg.srcs (unitKey ut ui) with
  | none => .next s
  | some q =>
    match q.queue with
    | [] => .next s
    | r :: rest =>
      if s.flag DBG_TCFG_MODE ∧ ¬ shut s then
        .next ((s.modDbg fun d => { d with srcs := NMap.insert d.srcs (unitKey ut ui) { q with queue := rest } }).writeRec r)
      else .next s

/-- TRIGGER_ARMED (R375). -/
def execTriggerArmed (s : State) : Host.Outcome State Fault Refusal :=
  if s.get DBG_TRIG_STATUS_STATE = 0 then .next s.traceSettle else .next s

/-- TRACE_FROZEN (R375). -/
def execTraceFrozen (s : State) : Host.Outcome State Fault Refusal :=
  if s.get DBG_TRIG_STATUS_STATE = 2 then .next s.traceSettle else .next s

/-- SOURCE_DROP_RECORD (R373): a source whose queue has room again marks what it dropped. -/
def execSourceDropRecord (ut ui : Nat) (s : State) : Host.Outcome State Fault Refusal :=
  match NMap.find s.dbg.srcs (unitKey ut ui) with
  | none => .next s
  | some q =>
    if q.drops ≠ 0 ∧ q.queue.length < 64 then
      let r : TraceRec :=
        { time := s.now, type := 0x0d, unitType := ut, unitIndex := ui, tenant := none, arg0 := q.drops, arg1 := q.firstDrop }
      let q' : TraceSrc := { queue := q.queue ++ [r], drops := 0, firstDrop := 0 }
      .next (s.modDbg fun d => { d with srcs := NMap.insert d.srcs (unitKey ut ui) q' })
    else .next s

/-- The bytes of record number `n` in the buffer. -/
def bufBytes (s : State) (x : Extent) (n : Nat) : List Byte := rdBytes s.mem (x.base + 32 * (n % max 1 (traceCap s))) 32

/-- TRACE_STREAM_SEND (R372): a datagram of at most 44 records leaves, and their slots are free. -/
def execTraceStreamSend (s : State) : Host.Outcome State Fault Refusal :=
  let n := min 44 (s.get DBG_TPOS_WRITTEN - s.dbg.streamed)
  match bufExtent s with
  | none => .next s
  | some x =>
    if s.get DBG_TCFG_MODE = 3 ∧ n ≠ 0 ∧ s.flag MGT_ETH_LINK_UP then
      .next ((s.ethSend 0x05 ((range' s.dbg.streamed n).flatMap (bufBytes s x))).modDbg fun d => { d with streamed := d.streamed + n })
    else .next s

/-! Counter copies (R378). -/

/-- DBG_CNT_SNAP: the set that DBG_CNT_SEL names. -/
def execDbgCntSnap (s : State) : Host.Outcome State Fault Refusal :=
  let i := s.get DBG_CNT_SEL_INDEX
  let m := if s.get DBG_CNT_SEL_SET = 0 then NMap.getD s.dbg.engCnt i []
    else if s.get DBG_CNT_SEL_SET = 1 then NMap.getD s.dbg.tenCnt i [] else s.dbg.nodeCnt
  .next (((List.range 64).foldl (fun s n => s.put (DBG_CNT_COUNT n) (NMap.getD m n 0)) s).put DBG_CNT_TIME_TIME s.now)

/-- TEN_CNT_SNAP: the set of a window's own tenant. -/
def execTenCntSnap (w : Nat) (s : State) : Host.Outcome State Fault Refusal :=
  match slotRec s w with
  | some (t, _) =>
    let m := NMap.getD s.dbg.tenCnt t []
    .next (((List.range 64).foldl (fun s n => s.put (TEN_CNT_COUNT w n) (NMap.getD m n 0)) s).put (TEN_CNT_TIME_TIME w) s.now)
  | none => .next s

/-! The device-fatal stop (R364, Table 18.7). -/

/-- Step 3: a port's lanes go idle. Table 13.8 has no cause for it, so DOWN_CAUSE keeps its value. -/
def State.idlePort (s : State) (p : Nat) : State :=
  let st := lnkSt s p
  if hasPort s p ∧ st ≠ lkDisabled ∧ st ≠ lkFailed ∧ st ≠ lkDown then
    (((s.putLnkSt p lkDown 0).event utPort p 0).setLnk p LnkPort.idle).put (LNK_STATUS_LANES_UP p) 0
  else s

/-- DEVICE_FATAL_STOP: steps 2 to 6 of Table 18.7. -/
def execDeviceFatalStop (s : State) : Host.Outcome State Fault Refusal :=
  if ¬ s.flag ERR_STATUS_DEVICE_FATAL ∨ s.err.stopStep ≠ 0 then .next s
  else
    let s := (List.range 72).foldl State.idlePort s
    let s := { s with clk := { s.clk with memHeld := true } }
    let s := if s.flag DBG_SNAP_STATUS_BUSY then (s.raise DBG_SNAP_STATUS_ABORTED).snapDone 0 else s
    let (s, l) := s.snapLatch
    let l := l.take (s.get ERR_CFG_MOR_POST)
    let s := ((l.foldl State.moraineAdd s).snapDone (moraineRoom s l.length)).morFreeze
    let ms := s.get ERR_CFG_AUTO_RESET_MS
    let due := if ms = 0 then none else some (s.now + 1000000 * ms)
    .next (((s.modErr fun x => { x with stopStep := 6, resetDue := due }).put RST_STATUS_PHASE 6).alert 0x02)

end Sys2Proof.Machine
end

