-- ==== Sys2Proof/Machine/Clock.lean ====
section
/-! DEFINITION. The timing stream, rack time, the stop on loss of both references, PLLs, the engine divisor and the power
states (chapter 20); one meaning for each of their commands and events, and what a tick of the reference does. -/

namespace Sys2Proof.Machine

open Reg

def State.modClk (s : State) (f : ClkUnit → ClkUnit) : State := { s with clk := f s.clk }

/-! Time codes (R382, R384). -/

def goodF (i : Nat) : Fld := if i = 0 then CLK_STATUS_A_GOOD else CLK_STATUS_B_GOOD
def anyGood (s : State) : Bool := s.flag CLK_STATUS_A_GOOD || s.flag CLK_STATUS_B_GOOD
def activeIn (s : State) : Nat := s.get CLK_STATUS_ACTIVE

def word (d : Int) : Nat := (d % (2 ^ 64 : Int)).toNat

/-- The codes of the two inputs compared: SKEW past 20 ns. -/
def State.checkSkew (s : State) : State :=
  match NMap.find s.clk.diff 0, NMap.find s.clk.diff 1 with
  | some a, some b =>
    if s.flag CLK_STATUS_A_GOOD ∧ s.flag CLK_STATUS_B_GOOD ∧ 20 < (toInt 64 a - toInt 64 b).natAbs then s.raise CLK_EVENT_SKEW else s
  | _, _ => s

/-- Three codes that agree correct the counter: a step forward, or a slew. -/
def State.correct (s : State) (d : Int) : State :=
  let s := s.modClk fun c => { c with misses := [] }
  if 0 < d then ((s.put CLK_RACK_TIME (s.now + d.toNat)).modClk fun c => { c with slew := 0 }).raise CLK_EVENT_STEP
  else (s.modClk fun c => { c with slew := d.natAbs }).raise CLK_EVENT_SLEW

/-- A code of the active input against the counter. -/
def State.checkCode (s : State) (d : Int) : State :=
  if d.natAbs ≤ 2 then s.modClk fun c => { c with misses := [] }
  else
    let s := s.count (CLK_TREF_MISMATCH (activeIn s)) 1
    let l := (s.clk.misses ++ [word d]).drop (s.clk.misses.length - 2)
    let vals := l.map (toInt 64)
    let agree := vals.length = 3 ∧ ∀ x ∈ vals, ∀ y ∈ vals, (x - y).natAbs ≤ 2
    if agree then s.correct d else s.modClk fun c => { c with misses := l }

/-- TIME_CODE (R384): the first code after lock loads the counter, later ones check it. -/
def execTimeCode (c : TimeCode) (s : State) : Host.Outcome State Fault Refusal :=
  let s := if c.input ≤ 1 then s.count (CLK_TREF_CODE_ERR c.input) c.viol else s
  if 1 < c.input ∨ !c.crcOk ∨ c.type ≠ 1 ∨ ¬ s.flag CLK_STATUS_ROOT_LOCK then .next s
  else
    let v := c.time + s.get (CLK_TREF_DELAY_NS c.input)
    let load := !s.flag CLK_STATUS_RACK_VALID && c.input == activeIn s
    let d : Int := if load then 0 else (v : Int) - (s.now : Int)
    let s := (s.modClk fun k => { k with diff := NMap.insert k.diff c.input (word d) })
    if load then
      .next (((s.put CLK_RACK_TIME v).put CLK_STATUS_RACK_VALID 1).modClk fun k => { k with misses := [], slew := 0 })
    else if ¬ s.flag CLK_STATUS_RACK_VALID then .next s
    else
      let s := s.checkSkew
      .next (if c.input = activeIn s then s.checkCode d else s)

/-! Loss, recovery and return of an input (R383). -/

def lostF (i : Nat) : Fld := if i = 0 then CLK_EVENT_A_LOST else CLK_EVENT_B_LOST

def State.switchTo (s : State) (i : Nat) : State :=
  ((s.put CLK_STATUS_ACTIVE i).raise CLK_EVENT_SWITCHED).modClk fun c => { c with misses := [] }

/-- Steps 1 to 4 of Table 20.2: both inputs are lost. -/
def State.bothLost (s : State) : State :=
  let s := (s.raise CLK_EVENT_BOTH_LOST).modClk fun c => { c with bothLost := some s.now }
  let s := ((List.range 72).filter fun p => hasPort s p && (lnkSt s p == lkUp || lnkSt s p == lkSleep)).foldl
    (fun s p => (s.quiet p).linkDown p 7 false) s
  s.chn.chans.foldl (fun s c => match chanOf' s c.1 with | some x => s.abortLive c.1 x | none => s) s

/-- TREF_LOSS (R383, R385). -/
def execTrefLoss (input : Nat) (s : State) : Host.Outcome State Fault Refusal :=
  if 1 < input ∨ ¬ s.flag (goodF input) then .next s
  else
    let other := 1 - input
    let s := ((s.put (goodF input) 0).raise (lostF input)).count (CLK_TREF_LOSS input) 1
    let s := s.modClk fun c => { c with goodFrom := NMap.insert c.goodFrom input s.now, diff := NMap.erase c.diff input }
    let s := s.event utClocks 0 0
    if activeIn s ≠ input then .next s
    else if s.flag (goodF other) then
      .next ((s.switchTo other).post { cls := 0, unitType := utClocks, unitIndex := 0, cause := 0, status := 0, tenant := none, agent := 0,
                                       addr := none, info := 0 })
    else .next (if s.flag CLK_STATUS_ROOT_LOCK then s.bothLost else s)

/-- TREF_RECOVER (R383): 1 ms without a loss condition; while the counter stands, the event alone says so. An input that
becomes good while none is active becomes the active one, PREF first. -/
def execTrefRecover (input : Nat) (s : State) : Host.Outcome State Fault Refusal :=
  let timed := s.flag CLK_STATUS_ROOT_LOCK && !s.clk.stopped
  let due := (NMap.find s.clk.goodFrom input).all fun t => !timed || t + 1000000 ≤ s.now
  if 1 < input ∨ s.flag (goodF input) ∨ ¬ due ∨ (s.clk.bothLost.isSome ∧ ¬ s.clk.stopped) then .next s
  else
    let first := !anyGood s
    let s := ((s.put (goodF input) 1).modClk fun c => { c with goodFrom := NMap.insert c.goodFrom input s.now }).event utClocks 0 0
    let pref := s.get CLK_CTL_PREF
    if first ∧ activeIn s ≠ input then .next (s.switchTo input)
    else if ¬ s.flag CLK_STATUS_ROOT_LOCK ∧ input = pref ∧ activeIn s ≠ input then .next (s.switchTo input)
    else .next s

/-- TREF_REVERT (R383): back to PREF, once it has been good for 1 s. -/
def execTrefRevert (input : Nat) (s : State) : Host.Outcome State Fault Refusal :=
  if input = s.get CLK_CTL_PREF ∧ s.flag CLK_CTL_REVERT ∧ s.flag (goodF input) ∧ activeIn s ≠ input ∧ s.clk.bothLost.isNone ∧
      (NMap.find s.clk.goodFrom input).all (fun t => t + 1000000000 ≤ s.now) then
    .next (s.switchTo input)
  else .next s

/-! The stop and the restart (R385, R386). -/

/-- The management port is lost (R401). -/
def State.ethDown (s : State) : State :=
  if s.flag MGT_ETH_LINK_UP then (s.put MGT_ETH_LINK_UP 0).raise MGT_EVENT_ETH_DOWN else s

/-- Whether the memories may enter self-refresh: step 4 has ended and every accepted write is done. -/
def memQuiet (s : State) : Bool :=
  (s.chn.chans.all fun (c : Nat × Chan) => c.2.live = []) && s.dir.accs = [] && (List.range 256).all fun e => !engBusy s e

/-- FROST_STOP (Table 20.2 steps 5 and 6). -/
def execFrostStop (s : State) : Host.Outcome State Fault Refusal :=
  match s.clk.bothLost with
  | none => .next s
  | some t =>
    if s.clk.stopped ∨ ¬ (memQuiet s ∨ t + 1000000 ≤ s.now) then .next s
    else
      let s := (s.gapBegin 4).ethDown
      .next (((s.put CLK_STATUS_RACK_VALID 0).put CLK_STATUS_ROOT_LOCK 0).modClk fun c => { c with stopped := true, memHeld := true, pll := [] })

/-- One retraining pause for every channel of a controller (R87), at which its calibration offset comes into force. -/
def State.pauseCtl (s : State) (ctl : Nat) : State :=
  let m := ctlOf s ctl
  let ends := (List.range (if isHbm ctl then 32 else 1)).map fun ch => (ch, s.now + 2000)
  ((s.setCtl ctl { m with pauseEnd := ends }).startRetrain ctl).applyCal ctl

/-- The controllers with memory behind them. -/
def ctls (s : State) : List Nat := s.mch.hbmForm ++ (NMap.keys s.mch.dimm).map fun c => 16 + c

def State.pauseAll (s : State) : State := (ctls s).foldl State.pauseCtl s

/-- The leases at a restart (R37): lapsed ones enter GRACE, and every grace period starts now. -/
def State.leasesRestart (s : State) : State :=
  if s.get MIR_STATUS_STATE = 3 ∨ s.get MIR_STATUS_STATE = 4 then s
  else
    let lapsed := NMap.keys (NMap.keep (fun _ (l : Lease) => l.st = .held && l.expiry ≤ s.now) s.ext.leases)
    let s := { s with ext := { s.ext with
      leases := NMap.mapVal (fun a (l : Lease) =>
        if l.st = .grace || lapsed.contains a then { l with st := .grace, graceFrom := s.now } else l) s.ext.leases } }
    let s := lapsed.foldl (fun s a => s.moveExtents a .active .grace) s
    if lapsed = [] then s else s.raise EXT_EVENT_LEASE_LAPSED

/-- Ports with ENABLE set train at once. -/
def State.trainPorts (s : State) : State :=
  ((List.range 72).filter fun p => hasPort s p && s.flag (LNK_CTL_ENABLE p) && lnkSt s p ≠ lkFailed).foldl
    (fun s p => (s.quiet p).startTraining p) s

/-- The rack time of a stop does not count toward a snoop's time-out. -/
def State.shiftSnoops (s : State) (n : Nat) : State :=
  let up := fun (l : List Snoop) => l.map fun w => { w with sent := w.sent + n }
  { s with dir := { s.dir with
    txns := s.dir.txns.map fun t => { t with waits := up t.waits }
    lost := NMap.mapVal (fun _ (e : EntryLost) => { e with waits := up e.waits }) s.dir.lost } }

/-- The restart of R386 from its step 3 on. The memories' retraining is the firmware's, and waits until it runs (R399). -/
def State.clockRestart (s : State) : State :=
  let held := s.flag ERR_STATUS_DEVICE_FATAL
  let began := NMap.getD s.dbg.stopped 4 s.now
  let up := s.get MGT_STATUS_STATE = 2
  let s := (s.modClk fun c => { c with stopped := false, bothLost := none, memHeld := held || !up }).modMgt fun m => { m with
    meters := NMap.mapVal (fun _ (x : Meter) => { x with gap := true }) m.meters }
  let s := (s.gapEnd 4).shiftSnoops (s.now - began)
  if held then s
  else
    let s := if up then s.pauseAll else s
    let s := s.trainPorts.leasesRestart
    if serving s then s.fenceSelf else s

/-! PLLs (R389). -/

/-- PLL_LOCK: kind 0 the root PLL; 1 an HBM stack's, 2 a DDR5 channel's, 3 a port's, 4 the management port's. -/
def execPllLock (kind unit : Nat) (s : State) : Host.Outcome State Fault Refusal :=
  if kind = 0 then .next (if anyGood s then s.put CLK_STATUS_ROOT_LOCK 1 else s)
  else if 4 < kind ∨ s.clk.stopped then .next s
  else .next (s.modClk fun c => { c with pll := insSorted (256 * kind + unit % 256) c.pll })

/-- PLL_UNLOCK, with its consequence by kind. -/
def execPllUnlock (kind unit : Nat) (s : State) : Host.Outcome State Fault Refusal :=
  if kind = 0 then
    if s.flag CLK_STATUS_ROOT_LOCK ∧ anyGood s then
      .next ((s.put CLK_STATUS_ROOT_LOCK 0).deviceFatal
        { cls := 3, unitType := utClocks, unitIndex := 0, cause := 0, status := 0, tenant := none, agent := 0, addr := none, info := 0 })
    else .next s
  else
    let k := 256 * kind + unit % 256
    if ¬ s.clk.pll.contains k then .next s
    else
      let s := s.modClk fun c => { c with pll := c.pll.filter (· ≠ k) }
      if kind = 1 then .next (s.phyLost unit [])
      else if kind = 2 then .next (s.phyLost (16 + unit) [])
      else if kind = 3 then .next (if hasPort s unit && lnkSt s unit == lkUp then (s.quiet unit).linkDown unit 3 false else s)
      else .next s.ethDown

/-! The engine divisor (R388). -/

def enginesIdle (s : State) : Bool := (List.range 256).all fun e => engSt s e = 0 || engSt s e = 5

/-- Steps 3 and 4 of APPLY_ENG. -/
def State.applyEng (s : State) : State :=
  let s := ((s.gapBegin 0).put CLK_STATUS_ENG_DIV (s.get CLK_CTL_ENG_DIV_NEXT)).gapEnd 0
  ((s.put CLK_CMD_BUSY 0).raise CLK_EVENT_DIV_DONE).endCmd CLK_CMD_STATUS CLK_CMD_DETAIL stOK 0

/-- APPLY_ENG: it waits, BUSY, until every engine is IDLE or OFFLINE. -/
def execApplyEng (s : State) : Host.Outcome State Fault Refusal :=
  if s.flag CLK_CMD_BUSY then .next s
  else if enginesIdle s then .next s.applyEng else .next (s.put CLK_CMD_BUSY 1)

/-! Power states (R390 to R393). -/

abbrev pwRun : Nat := 0
abbrev pwEnterSleep : Nat := 1
abbrev pwSleep : Nat := 2
abbrev pwEnterDeep : Nat := 3
abbrev pwDeep : Nat := 4
abbrev pwWaking : Nat := 5

def pwrSt (s : State) : Nat := s.get PWR_STATE_STATE
def State.pwrEnd (s : State) (st de : Nat) : State := s.endCmd PWR_CMD_STATUS PWR_CMD_DETAIL st de

/-- A node that begins to enter a state: the quiescent count starts. -/
def State.pwrEnter (s : State) (st : Nat) : State :=
  ((s.put PWR_STATE_STATE st).modClk fun c => { c with quietFrom := s.now }).pwrEnd stOK 0

/-- Ports that the handshake of R269 puts to sleep; one with packets outstanding tries again. -/
def State.sleepPorts (s : State) : State :=
  ((List.range 72).filter fun p => !(lnkOf s p).sleepSent).foldl State.sleepPort s

/-- PWR_CMD SLEEP; the lowest detail that applies. -/
def execPwrSleep (s : State) : Host.Outcome State Fault Refusal :=
  let blocks := (List.range 72).any fun p => hasPort s p && lnkSt s p == lkUp && !s.flag (LNK_CTL_SLEEP_EN p)
  if s.flag PWR_CMD_BUSY then .next s
  else if pwrSt s ≠ pwRun then .next (s.pwrEnd stPermission 0x1)
  else if s.get MIR_STATUS_STATE ≠ 0 then .next (s.pwrEnd stPermission 0x2)
  else if ¬ s.flag CLK_GATE_SWITCH_SLEEP ∧ blocks then .next (s.pwrEnd stPermission 0x3)
  else .next (s.pwrEnter pwEnterSleep).sleepPorts

/-- PWR_CMD DEEP. -/
def execPwrDeep (s : State) : Host.Outcome State Fault Refusal :=
  let ok := (List.range 72).all fun p => !hasPort s p || lnkSt s p == lkDown || lnkSt s p == lkDisabled || s.flag (LNK_CTL_SLEEP_EN p)
  if s.flag PWR_CMD_BUSY then .next s
  else if pwrSt s ≠ pwRun then .next (s.pwrEnd stPermission 0x1)
  else if s.get MIR_STATUS_STATE ≠ 0 then .next (s.pwrEnd stPermission 0x2)
  else if ¬ ok then .next (s.pwrEnd stPermission 0x3)
  else .next (s.pwrEnter pwEnterDeep)

def State.wakePorts (s : State) : State := (List.range 72).foldl State.wakePort s

/-- A wake: an entering node returns to RUN; a sleeping one is WAKING, with its source. -/
def State.wake (s : State) (source : Nat) : State :=
  let st := pwrSt s
  if st = pwEnterSleep ∨ st = pwEnterDeep then ((s.put PWR_STATE_STATE pwRun).raise PWR_EVENT_ENTRY_CANCELLED).wakePorts
  else if st = pwSleep ∨ st = pwDeep then
    (((s.put PWR_STATE_STATE pwWaking).put PWR_STATE_LAST_WAKE source).raise PWR_EVENT_WOKE).wakePorts
  else s

/-- PWR_CMD WAKE. -/
def execPwrWake (s : State) : Host.Outcome State Fault Refusal :=
  if s.flag PWR_CMD_BUSY then .next s
  else if pwrSt s = pwRun ∨ pwrSt s = pwWaking then .next (s.pwrEnd stPermission 0x1)
  else .next ((s.wake 1).pwrEnd stOK 0)

/-- Whether a wake source is enabled; a timer's time must have come. -/
def wakeOn (s : State) (source : Nat) : Bool :=
  if source = 2 then s.flag PWR_WAKE_EN_LANE
  else if source = 3 then s.flag PWR_WAKE_EN_LOCAL
  else if source = 4 then s.flag PWR_WAKE_EN_TIMER && s.get PWR_WAKE_TIME_TIME ≤ s.now
  else if source = 5 then s.flag PWR_WAKE_EN_SIDEBAND
  else source == 6

/-- WAKE_EVENT (R393): 2 lane, 3 local packet, 4 timer, 5 sideband, 6 management access. -/
def execWakeEvent (source : Nat) (s : State) : Host.Outcome State Fault Refusal :=
  .next (if wakeOn s source && !s.clk.stopped then s.wake source else s)

/-- Quiescent (R392). -/
def quiescent (s : State) : Bool :=
  (s.chn.chans.all fun (c : Nat × Chan) => c.2.live = []) && enginesIdle s && s.plc.moves = [] && s.mch.retiring = [] &&
  s.mch.drains = [] && s.mir.copyPos.isNone && s.mir.cmpNext = [] &&
  (s.ext.table.all fun (x : Nat × Extent) => x.2.st ≠ .fencing && x.2.st ≠ .scrubbing) &&
  s.get EXT_FENCE_CUR_GEN == s.get EXT_FENCE_DONE_GEN && s.dir.txns = [] && s.dir.accs = [] &&
  (pwrSt s ≠ pwEnterSleep || (List.range 72).all fun p => !(hasPort s p && lnkSt s p == lkUp && s.flag (LNK_CTL_SLEEP_EN p)))

/-- A port taken down for Deep. -/
def State.deepPort (s : State) (p : Nat) : State :=
  if ¬ hasPort s p then s
  else if lnkSt s p = lkUp ∨ lnkSt s p = lkSleep then (s.quiet p).linkDown p 6 true
  else if lnkSt s p = lkTraining then (((s.quiet p).putLnkSt p lkDown 6).modLnk p fun x => { LnkPort.idle with out := x.out }).closeRec utPort p
  else s

/-- POWER_STATE_ENTRY (R392): quiescent for QUIET_US. -/
def execPowerStateEntry (s : State) : Host.Outcome State Fault Refusal :=
  let st := pwrSt s
  if ¬ (quiescent s ∧ s.clk.quietFrom + 1000 * s.get PWR_CFG_QUIET_US ≤ s.now) then .next s
  else if st = pwEnterSleep then
    let s := s.gapBegin 0
    let s := if s.flag CLK_GATE_SWITCH_SLEEP then s else s.gapBegin 2
    let s := if s.flag CLK_GATE_MGMT_SLEEP then s else s.gapBegin 3
    .next (((s.put PWR_STATE_STATE pwSleep).raise PWR_EVENT_SLEEP).event utAon 0 0)
  else if st = pwEnterDeep then
    let s := (List.range 72).foldl State.deepPort s
    let s := ((s.gapBegin 0).gapBegin 1).gapBegin 2
    .next (((s.put PWR_STATE_STATE pwDeep).raise PWR_EVENT_DEEP).event utAon 0 0)
  else .next s

/-- The end of a wake: the domains run, every channel has its retraining pause; from Deep the leases restart (R37) and the
ports train. -/
def State.wakeDone (s : State) : State :=
  let deep := (NMap.find s.dbg.stopped 1).isSome
  let s := ((s.gapEnd 0).gapEnd 1).gapEnd 2
  let s := if s.get MGT_STATUS_STATE = 2 then s.gapEnd 3 else s
  let s := (s.put PWR_STATE_STATE pwRun).pauseAll
  let s := if deep then s.trainPorts.leasesRestart else s
  s.event utAon 0 0

/-! A tick of the reference (R384): 10 ns of rack time, or 9 while it slews. -/

/-- Whether the counter counts. -/
def counting (s : State) : Bool := !s.clk.stopped && (s.flag CLK_STATUS_ROOT_LOCK || s.flag CLK_STATUS_RACK_VALID)

/-- A meter's share of `n` ns (Table 21.6). -/
def Meter.tick (s : State) (slot n : Nat) (m : Meter) : Meter :=
  match slotRec s slot with
  | none => m
  | some (t, _) =>
    let live := s.chn.chans.any fun (c : Nat × Chan) => c.2.tenant = t && c.2.live ≠ []
    let run := s.eng.launches.any fun l => l.tenant = t && l.held
    let engs := ((s.eng.launches.filter fun l => l.tenant = t && l.held).flatMap Launch.engines).filter (engBusy s)
    let held := (s.ext.table.filter fun (x : Nat × Extent) => x.2.tenant = t && (x.2.st = .active || x.2.st = .grace)).foldl
      (fun a x => a + x.2.length) 0
    { m with active := m.active + (if live || run then n else 0), engine := m.engine + n * engs.length, held := m.held + n * held }

/-- What a tick brings: rack time, the meters, graupels on the lanes (R255), cycles of the engines that wait or drain, the quiescent count, and what waits for
the engines or the ports. -/
def State.tick (s : State) : State :=
  if ¬ counting s then s
  else
    let n := if 0 < s.clk.slew then 9 else 10
    let s := s.modMgt fun m => { m with meters := NMap.mapVal (fun k x => Meter.tick s k n x) m.meters }
    let s := (s.bump CLK_RACK_TIME n).modClk fun c => { c with slew := c.slew - 1 }
    let s := ((List.range 256).filter fun e => engSt s e = 3 || engSt s e = 4).foldl State.cycles s
    let s := s.lanesTick
    let s := if s.flag CLK_CMD_BUSY ∧ enginesIdle s then s.applyEng else s
    let entering := pwrSt s = pwEnterSleep ∨ pwrSt s = pwEnterDeep
    let s := if pwrSt s = pwEnterSleep then s.sleepPorts else s
    if entering ∧ ¬ quiescent s then s.modClk fun c => { c with quietFrom := s.now } else s

end Sys2Proof.Machine
end

