-- ==== Sys2Proof/Machine/Boot.lean ====
section
/-! DEFINITION. The management complex's images, boot and restart (chapter 21), resets and start-up (chapter 20); one meaning
for each of their commands and events. -/

namespace Sys2Proof.Machine

open Reg

/-! Images (R324). -/

/-- The security version counter of an image type. -/
def Device.svn (d : Device) (ty : Nat) : Nat :=
  if ty = 1 then d.svnMgmt else if ty = 2 then d.svnMicrocode else if ty = 3 then d.svnHbm else if ty = 4 then d.svnDdr5 else d.svnSerdes

/-- An image of a type, where its block accepts it: type, digest, signature, SVN. -/
def imageOk (s : State) (ty : Nat) (b : List Byte) : Option Image :=
  let body := b.take (b.length - 128)
  let blk := b.drop (b.length - 128)
  let svn := leNat (slice blk 1 1)
  let digest := slice blk 32 32
  if 128 ≤ b.length ∧ leNat (blk.take 1) = ty ∧ digest = (Config.sha256 body).toList ∧
      Config.ecdsaVerify Config.imageKey (blk.take 64) (blk.drop 64) ∧ s.dev.svn ty ≤ svn then
    some ⟨svn, digest⟩
  else none

/-! Host fetch and start of an image (R406, Table 21.1). -/

/-- BOOT_REQ for the next byte wanted; how many frames it asks for, 1 to 64, is a free value (log entry 2). -/
def State.bootReq (s : State) (f : Fetch) : State :=
  let (k, s) := s.take
  let n := (Config.freeValue k).toNat % 64 + 1
  (s.modMgt fun m => { m with fetch := some { f with at_ := s.now, left := n } }).ethSend 0x07 (natLe 8 f.got.length ++ natLe 2 n)

/-- A host fetch from offset 0. -/
def State.bootFetch (s : State) : State := (s.modMgt fun m => { m with step := 2 }).bootReq ⟨[], none, s.now, 0⟩

/-- A verified image started; SOURCE 1 slot, 2 host fetch. -/
def State.startImage (s : State) (b : List Byte) (i : Image) (source : Nat) : State :=
  let s := s.modMgt fun m => { m with
    step := 3
    started := s.now
    slot := some b
    fetch := none
    images := NMap.insert m.images 1 i }
  (s.put MGT_FW_SOURCE source).put MGT_FW_SVN i.svn

/-- Steps 1 to 3 of Table 21.1. -/
def State.mgtRestart (s : State) : State :=
  let s := ((s.put MGT_STATUS_STATE 3).count MGT_STATUS_RESTARTS 1).put MGT_FW_BOOT_OK 0
  let s := ((s.put RST_STATUS_LAST_KIND 6).event utMgmt 0 6).gapBegin 3
  let s := s.modMgt fun m => { m with refetched := false, downAt := s.now, fetch := none }
  match s.mgt.slot.bind fun b => (imageOk s 1 b).map fun i => (b, i) with
  | some (b, i) => s.startImage b i 1
  | none => s.bootFetch

/-- MGMT_WATCHDOG (R400): TIMEOUT_MS without a KICK. -/
def execMgmtWatchdog (s : State) : Host.Outcome State Fault Refusal :=
  let t := s.get MGT_WDOG_TIMEOUT_MS
  if s.get MGT_STATUS_STATE = 2 ∧ t ≠ 0 ∧ s.mgt.kicked + 1000000 * t ≤ s.now then
    let s := s.post { cls := 1, unitType := utMgmt, unitIndex := 0, cause := 0x000a, status := 0, tenant := none, agent := 0,
                      addr := none, info := 0 }
    .next (if s.get MGT_STATUS_STATE = 4 then s else s.mgtRestart)
  else .next s

/-- KICK. -/
def execMgtKick (s : State) : Host.Outcome State Fault Refusal := .next (s.modMgt fun m => { m with kicked := s.now })

/-- MGT_CMD RESTART: from HELD too. -/
def execMgtRestart (s : State) : Host.Outcome State Fault Refusal := .next (if s.get MGT_STATUS_STATE = 0 then s else s.mgtRestart)

/-- A unit that runs a new image (R405): the last one ends the update. -/
def State.updated (s : State) (unit : Nat) : State :=
  match s.mgt.next with
  | none => s
  | some (ty, i) =>
    let left := s.mgt.units.filter (· ≠ unit)
    let s := (s.modMgt fun m => { m with units := left }).put MGT_UPD_STATUS_PENDING left.length
    if left = [] then (s.modMgt fun m => { m with images := NMap.insert m.images ty i, next := none }).raise MGT_EVENT_UPD_DONE else s

/-- BOOT_OK (Table 21.1 step 4). -/
def execBootOk (s : State) : Host.Outcome State Fault Refusal :=
  if s.mgt.step ≠ 3 then .next s
  else
    let again := s.get MGT_STATUS_STATE = 3
    let s := ((s.put MGT_FW_BOOT_OK 1).put MGT_STATUS_STATE 2).modMgt fun m => { m with step := 0, kicked := s.now, upAt := s.now }
    let s := (s.gapEnd 3).closeRec utMgmt 0
    let s := if again then s.raise MGT_EVENT_RESTARTED else s
    let s := if s.clk.memHeld && !s.clk.stopped && !shut s then (s.modClk fun c => { c with memHeld := false }).pauseAll else s
    match s.mgt.next with
    | some (1, i) =>
      if NMap.find s.mgt.images 1 = some i then .next (s.updated 0)
      else .next ((s.modMgt fun m => { m with next := none, units := [] }).put MGT_UPD_STATUS_PENDING 0)
    | _ => .next s

/-- BOOT_LIMIT (Table 21.1 step 5): the host's image, or HELD where that one fails too. -/
def execBootLimit (s : State) : Host.Outcome State Fault Refusal :=
  if s.mgt.step = 3 ∧ s.mgt.started + 1000000 * s.get MGT_FW_BOOT_LIMIT_MS ≤ s.now then
    if s.mgt.refetched then
      let s := s.post { cls := 2, unitType := utMgmt, unitIndex := 0, cause := 0x0006, status := 0, tenant := none, agent := 0,
                        addr := none, info := 0 }
      .next ((s.put MGT_STATUS_STATE 4).modMgt fun m => { m with step := 0 })
    else .next ((s.raise MGT_EVENT_REFETCH).modMgt fun m => { m with refetched := true }).bootFetch
  else .next s

/-- BOOT_DATA (R406): the next bytes of the image. -/
def execBootData (off total : Nat) (data : List Byte) (s : State) : Host.Outcome State Fault Refusal :=
  match s.mgt.fetch with
  | none => .next s
  | some f =>
    if ¬ s.flag MGT_ETH_LINK_UP ∨ off ≠ f.got.length ∨ data = [] ∨ 1392 < data.length then .next s
    else
      let t := f.total.getD total
      if 67108864 < t then .next s.bootFetch
      else
        let got := (f.got ++ data).take t
        if got.length < t then
          let f : Fetch := ⟨got, some t, s.now, f.left - 1⟩
          if f.left = 0 then .next (s.bootReq f) else .next (s.modMgt fun m => { m with fetch := some f })
        else match imageOk s 1 got with
          | some i => .next (s.startImage got i 2)
          | none => .next s.bootFetch

/-- BOOT_FETCH_RETRY (R406): 10 ms without progress. -/
def execBootFetchRetry (s : State) : Host.Outcome State Fault Refusal :=
  match s.mgt.fetch with
  | some f => if f.at_ + 10000000 ≤ s.now then .next (s.bootReq f) else .next s
  | none => .next s

/-! Resets (R394, R395, R428, R429). -/

/-- The fields of Table 22.7, and those of the CLK block's status, which the always-on block keeps. -/
def keptFields : List Fld :=
  [CLK_CTL_MGMT_DIV_NEXT, CLK_CTL_NOC_DIV_NEXT, CLK_CTL_ENG_DIV_NEXT, CLK_CTL_REVERT, CLK_CTL_PREF, CLK_TREF_DELAY_NS 0,
   CLK_TREF_DELAY_NS 1, CLK_GATE_MGMT_SLEEP, CLK_GATE_SWITCH_SLEEP, ERR_EVENT_PRIOR_FATAL, GLB_ADMIN_HASH_HASH 0, GLB_ADMIN_HASH_HASH 1,
   GLB_ADMIN_HASH_HASH 2, GLB_ADMIN_HASH_HASH 3, GLB_ADMIN_CTL_LOCK, CLK_RACK_TIME, RST_STATUS_WARM_COUNT, RST_STATUS_LAST_KIND,
   MGT_STATUS_RESTARTS, ERR_SEQ_NEWEST, ERR_MOR_STATUS_BOOTS, ERR_MOR_STATUS_WRAPPED, ERR_MOR_STATUS_FROZEN, ERR_MOR_STATUS_NEWEST,
   CLK_STATUS_RACK_VALID, CLK_STATUS_ACTIVE, CLK_STATUS_A_GOOD, CLK_STATUS_B_GOOD, CLK_STATUS_ROOT_LOCK]

/-- Whether a field's key is kept: those fields, ENG_CTL.OFFLINE of every engine, MGT_CAL_VIEW.USER of every quantity. -/
def keptKey (k : Nat) : Bool :=
  keptFields.any (fun f => f.key = k) || (List.range 256).any (fun e => (ENG_CTL_OFFLINE e).key = k) ||
  (64 * 0x200f00000 ≤ k && k < 64 * 0x200f10000)

/-- Whether a sensor's signal exists: its stack or I/O die is mounted (R442, R10). -/
def sensorOn (s : State) (i : Nat) : Bool :=
  if 16 ≤ i && i < 32 then bit s.dev.part.hbmSites (i - 16) else if 32 ≤ i && i < 38 then bit s.dev.part.iodSites (i - 32) else i < 64

/-- A sensor's trip value in quarters of a degree (R443): sensors 16 to 31 are stack cases, the others junctions. -/
def tripAt (i : Nat) : Int := if 16 ≤ i && i < 32 then 380 else 420

/-- The last samples by sensor, of those that exist. -/
def samples (s : State) : List (Nat × Int) := (s.brd.temps.zipIdx.map fun (p : Int × Nat) => (p.2, p.1)).filter fun p => sensorOn s p.1

/-- Whether a sensor reads at or above its trip value. -/
def tripNow (s : State) : Bool := (samples s).any fun p => decide (tripAt p.1 ≤ p.2)

/-- The phase at which start-up resumes: POWER while a thermal trip holds it, BOOT, or TREF where no input is good. -/
def resumePhase (s : State) : Nat := if s.clk.hot then 0 else if anyGood s then 2 else 1

/-- Steps 2 to 4 of R395: every unit but the always-on block reset. -/
def State.wiped (s : State) : State :=
  { State.reset with
    dev := s.dev
    regs := NMap.keep (fun k _ => keptKey k) s.regs
    err := { State.reset.err with moraine := s.err.moraine, postLeft := s.err.postLeft, sbSel := s.err.sbSel, sbView := s.err.sbView }
    clk := { s.clk with memHeld := false, quietFrom := s.now, latched := none }
    mgt := { State.reset.mgt with i3c := s.mgt.i3c, smbus := s.mgt.smbus, ibi := s.mgt.ibi }
    brd := s.brd
    fresh := s.fresh
    pending := s.pending }

/-- A reset recorded: the moraine event, BOOTS. -/
def State.resetEvent (s : State) (kind : Nat) : State := (s.event utAon 0 kind).count ERR_MOR_STATUS_BOOTS 1

/-- A warm reset of a kind (R395); the divisors asked for come into force (R388). -/
def State.warm (s : State) (kind : Nat) : State :=
  let s := ((s.resetEvent kind).put RST_STATUS_LAST_KIND kind).count RST_STATUS_WARM_COUNT 1
  let s := if s.flag ERR_STATUS_DEVICE_FATAL then s.put ERR_EVENT_PRIOR_FATAL 1 else s
  let s := s.wiped.modClk fun c => { c with hot := tripNow s }
  let s := (List.range 256).foldl State.showOffline s
  let s := ((s.put CLK_STATUS_ENG_DIV (s.get CLK_CTL_ENG_DIV_NEXT)).put CLK_STATUS_NOC_DIV (s.get CLK_CTL_NOC_DIV_NEXT)).put
    CLK_STATUS_MGMT_DIV (s.get CLK_CTL_MGMT_DIV_NEXT)
  let s := s.put RST_STATUS_PHASE (resumePhase s)
  if resumePhase s = 2 then s.bootFetch else s

/-- A warm reset asked for from outside: latched while the frost group is stopped (R385). -/
def State.askWarm (s : State) (kind : Nat) : State :=
  if s.clk.stopped then s.modClk fun c => { c with latched := some kind } else s.warm kind

/-- COLD_RESET (R394): everything but the fuses; the straps are read (R10). -/
def execColdReset (addr pos : Nat) (s : State) : Host.Outcome State Fault Refusal :=
  .next { State.reset with
    dev := { s.dev with smbAddr := addr % 128, trayPos := pos }
    clk := { State.reset.clk with pinLow := s.clk.pinLow }
    fresh := s.fresh
    pending := s.pending }

/-- RST_IN_N low for 1 µs: a warm reset, in which the pin holds start-up. -/
def execRstInNLow (s : State) : Host.Outcome State Fault Refusal :=
  if s.brd.pwrGood then .next ((s.modClk fun c => { c with pinLow := true }).askWarm 2)
  else .next (s.modClk fun c => { c with pinLow := true })

/-- RST_IN_N high. -/
def execRstInNRelease (s : State) : Host.Outcome State Fault Refusal := .next (s.modClk fun c => { c with pinLow := false })

/-- RST_CMD.WARM. -/
def execRstWarm (s : State) : Host.Outcome State Fault Refusal := .next (s.askWarm 4)

/-- AUTO_RESET (R364). -/
def execAutoReset (s : State) : Host.Outcome State Fault Refusal :=
  match s.err.resetDue with
  | some t => if t ≤ s.now then .next (s.askWarm 5) else .next s
  | none => .next s

/-- SB_WARM_RESET (Table 21.4). -/
def execSbWarmReset (s : State) : Host.Outcome State Fault Refusal := if s.brd.pwrGood then .next (s.askWarm 3) else .next s

/-- CLOCK_RESTART (R386): the root PLL has locked and rack time is loaded. A stop before READY ends in a warm reset, whose
kind no rule gives (a free value, log entry 2); a reset latched meanwhile runs. -/
def execClockRestart (s : State) : Host.Outcome State Fault Refusal :=
  if ¬ (s.clk.stopped ∧ s.flag CLK_STATUS_ROOT_LOCK ∧ s.flag CLK_STATUS_RACK_VALID) then .next s
  else
    let on := s.modClk fun c => { c with stopped := false, bothLost := none }
    match s.clk.latched with
    | some k => .next (on.warm k)
    | none =>
      if s.get RST_STATUS_PHASE < 5 then
        let (k, s) := on.take
        .next (s.warm ((Config.freeValue k).toNat % 256))
      else .next s.clockRestart

/-! Start-up (R396). -/

/-- A step that fails: a device-fatal record of the unit that acts. -/
def State.startFails (s : State) (unit : Nat) : State :=
  s.deviceFatal { cls := 3, unitType := unit, unitIndex := 0, cause := 0, status := 0, tenant := none, agent := 0, addr := none, info := 0 }

/-- The carve-out's 16,384 pages in HBM frames; which frames is a free value (log entry 2). -/
def State.carveOut (s : State) : State :=
  let (k, s) := s.take
  let total := max 1 (hbmTotal s)
  let f0 := (Config.freeValue k).toNat
  let new : NMap Frame := (List.range 16384).map fun i =>
    (8372224 + i, { Frame.zeroEntry with frame := (f0 + i) % total, tier := .hbm, zero := false })
  { s with plc := { s.plc with map := s.plc.map ++ new } }

/-- Step 4 begins: the mounted stacks train. -/
def State.trainHbm (s : State) : State :=
  ((List.range 16).filter fun k => bit s.dev.part.hbmSites k).foldl (fun s k => s.put (MEMH_STATUS_STATE k) 1) s

/-- Step 5 begins: the channels of the mounted I/O dies read their SPDs and train. -/
def State.trainDdr5 (s : State) : State :=
  ((List.range 24).filter fun c => bit s.dev.part.iodSites (c / 4)).foldl (fun s c => s.put (MEMD_STATUS_STATE c) 1) s

/-- Step 4: the stacks that trained form the tier. PWR_UNIT shows the stacks, the I/O dies and the management complex on
from here (DESIGN CHOICE for the instant, log entry 171). -/
def State.formHbm (s : State) (trained : List Nat) : State :=
  let here := (List.range 16).filter fun k => bit s.dev.part.hbmSites k
  let form := here.filter trained.contains
  let s := { s with mch := { s.mch with hbmForm := form } }
  let s := here.foldl (fun s k => s.put (MEMH_STATUS_STATE k) (if form.contains k then 2 else 3)) s
  let s := ((List.range 16).filter fun k => !form.contains k).foldl (fun s k =>
    (List.range 64).foldl (fun s n => s.put (MEMH_PC_STATE k n) (if here.contains k then 4 else 5)) s) s
  let s := (s.put PWR_UNIT_HBM (here.foldl (fun v k => v + 2 ^ k) 0)).put PWR_UNIT_MGMT 1
  let s := (s.put PWR_UNIT_IODIE ((List.range 6).foldl (fun v i => v + 2 ^ i * b2n (bit s.dev.part.iodSites i)) 0))
  let s := form.foldl (fun s k => (s.applyCal k).startRetrain k) s
  let s := (s.put MEMH_TIER_STATUS_STACKS form.length).put MEMH_TIER_STATUS_PC_IN_SERVICE (64 * form.length)
  (s.showAreas utPc 0).carveOut

/-- A channel's population recorded. -/
def State.bringDimms (s : State) (c : Nat) (ds : List Dimm) : State :=
  let s := { s with mch := { s.mch with dimm := NMap.insert s.mch.dimm c ds } }
  let s := (s.showDimms c ds).rankStates c (ranksOf ds)
  ((s.put PWR_UNIT_DDR5 (setBits (s.get PWR_UNIT_DDR5) c c 1)).applyCal (16 + c)).startRetrain (16 + c)

/-- A set's channels brought into service (R78). -/
def State.bringSet (s : State) (n : Nat) : State :=
  let mine := (range' (4 * n) 4).filter fun c => dimmsOf s c ≠ []
  let bad := mine.filter fun c => !chanListed (dimmsOf s c)
  let good := mine.filter fun c => chanListed (dimmsOf s c)
  let s := bad.foldl State.mismatch s
  if good = [] then (if bad = [] then s else s.put (MEMD_SET_STATE n) 4)
  else if allAlike (good.flatMap (dimmsOf s)) then s.formSet n good
  else (good.foldl State.mismatch s).put (MEMD_SET_STATE n) 4

/-- Step 5: DDR5 sets and ports. NODE_CAP reads zero until step 6. -/
def State.formDdr5 (s : State) (x : StartIn) : State :=
  let here := (List.range 24).filter fun c => bit s.dev.part.iodSites (c / 4)
  let s := here.foldl (fun s c => (s.put (MEMD_STATUS_STATE c) 0).rankStates c 0) s
  let ds := x.dimms.filter fun (c : Nat × List Dimm) => here.contains c.1 && c.2 ≠ []
  let s := ds.foldl (fun s c => s.bringDimms c.1 c.2) s
  let s := ((List.range 6).foldl State.bringSet s).put EXT_CAP_NODE_CAP 0
  (x.ports.filter fun p => hasPort s p).foldl (fun s p => s.lnkEnable p true) s

/-- Step 6: READY. -/
def State.ready (s : State) : State := ((s.recap.put RST_TIME_READY s.now).put RST_STATUS_PHASE 5).notify 16

/-- STARTUP_PHASE_DONE (Table 20.7): the step that PHASE reports ends. -/
def execStartupPhaseDone (x : StartIn) (s : State) : Host.Outcome State Fault Refusal :=
  let phase := s.get RST_STATUS_PHASE
  if s.clk.pinLow ∨ shut s ∨ ¬ s.brd.pwrGood ∨ 5 ≤ phase ∨ (phase = 0 ∧ s.clk.hot) then .next s
  else if ¬ x.ok then
    .next (s.startFails (if phase = 0 then utAon else if phase = 1 then utClocks else utMgmt))
  else if phase = 0 then
    let s := if s.get RST_STATUS_LAST_KIND = 1 ∧ s.get ERR_MOR_STATUS_BOOTS = 0 then s.resetEvent 1 else s
    let p := if s.get RST_STATUS_LAST_KIND = 1 then 1 else resumePhase s
    let s := s.put RST_STATUS_PHASE p
    .next (if p = 2 then s.bootFetch else s)
  else if phase = 1 then
    if anyGood s ∧ s.flag CLK_STATUS_ROOT_LOCK ∧ s.flag CLK_STATUS_RACK_VALID then .next (s.put RST_STATUS_PHASE 2).bootFetch else .next s
  else if phase = 2 then
    if s.mgt.step = 3 ∨ s.get MGT_STATUS_STATE = 2 then .next (s.put RST_STATUS_PHASE 3).trainHbm else .next s
  else if phase = 3 then .next ((s.formHbm x.trained).put RST_STATUS_PHASE 4).trainDdr5
  else .next (s.formDdr5 x).ready

end Sys2Proof.Machine
end

