-- ==== Sys2Proof/Machine/Mgmt.lean ====
section
/-! DEFINITION. The management complex's transports, notifications, image updates, calibration and metering (chapter 21),
the SPDM responder and the rack-admin proof (chapters 16 and 22); one meaning for each of their commands and events. -/

namespace Sys2Proof.Machine

open Reg

/-! Management messages on their two transports (R401, R322). -/

/-- Whether the management firmware runs (R399). -/
def mgtUp (s : State) : Bool := s.get MGT_STATUS_STATE == 2

/-- A management frame of this node's own, in a MGMT packet (R282 keeps it until its MGMT_RSP). -/
def State.mgtSend (s : State) (agent kind : Nat) (payload : List Byte) : State :=
  let l := mgtFrame s kind payload
  s.sendReq { request s 0x38 4 agent 0 with
    len := l.length
    payload := l } .mgmt

/-- MGMT_RSP with a payload. -/
def State.mgtReply (s : State) (p : Pkt) (l : List Byte) : State :=
  s.send { replyTo s p 0x39 stOK with
    len := l.length
    payload := l }

/-- An answer, on the transport that the request came by. -/
def State.mgtAnswer (s : State) (via : Option Pkt) (kind : Nat) (payload : List Byte) : State :=
  match via with
  | none => s.ethSend kind payload
  | some p => s.mgtReply p (mgtFrame s kind payload)

/-- ETH_DOWN (R401). -/
def execEthDown (s : State) : Host.Outcome State Fault Refusal := .next s.ethDown

/-- ETH_LINK_UP (R401), with the port's PLL in lock (R389). -/
def execEthLinkUp (s : State) : Host.Outcome State Fault Refusal :=
  if s.clk.pll.contains 1024 then .next (s.put MGT_ETH_LINK_UP 1) else .next s

/-! The owner record (R407). -/

/-- OWNER (R407, Table 21.10): the first record of this device sets the hash and LOCK. -/
def execMgtOwner (data : List Byte) (s : State) : Host.Outcome State Fault Refusal :=
  let ok := data.length = 64 ∧ leNat (data.take 2) = 1 ∧ leNat (slice data 8 8) = s.dev.serial
  if s.flag GLB_ADMIN_CTL_LOCK ∨ ¬ ok ∨ ¬ (s.mgt.step = 3 ∨ mgtUp s) ∨ ¬ s.flag MGT_ETH_LINK_UP then .next s
  else
    let s := (List.range 4).foldl (fun s n => s.put (GLB_ADMIN_HASH_HASH n) (leNat (slice data (0x10 + 8 * n) 8))) s
    .next ((s.put GLB_ADMIN_CTL_LOCK 1).modMgt fun m => { m with asked := none })

/-- OWNER_POLL (R407): an empty OWNER frame, every 100 ms while LOCK is 0. -/
def execOwnerPoll (s : State) : Host.Outcome State Fault Refusal :=
  if ¬ s.flag GLB_ADMIN_CTL_LOCK ∧ (s.mgt.step = 3 ∨ mgtUp s) ∧ s.mgt.asked.all (fun t => t + 100000000 ≤ s.now) then
    .next ((s.ethSend 0x09 []).modMgt fun m => { m with asked := some s.now })
  else .next s

/-! The notification unit (R402). -/

/-- One NOTIFY. -/
def State.notifySend (s : State) : State :=
  let b := natLe 8 (s.get MGT_NOTIFY_PENDING) ++ natLe 8 s.now ++ natLe 8 (s.get ERR_SEQ_NEWEST)
  let s := s.mgtSend (s.get MGT_CFG_NOTIFY_AGENT) 0x03 b
  let s := if s.flag MGT_CFG_NOTIFY_ETH && mgtUp s then s.ethSend 0x03 b else s
  s.modMgt fun m => { m with told := s.get MGT_NOTIFY_PENDING, toldAt := some s.now }

/-- NOTIFY: a PENDING bit not yet told, HOLDOFF_US after the last NOTIFY. -/
def execMgtNotify (s : State) : Host.Outcome State Fault Refusal :=
  let new := Nat.land (s.get MGT_NOTIFY_PENDING) (Nat.xor (2 ^ 64 - 1) s.mgt.told)
  if s.flag MGT_CFG_NOTIFY_EN ∧ new ≠ 0 ∧ s.mgt.toldAt.all (fun t => t + 1000 * s.get MGT_CFG_HOLDOFF_US ≤ s.now) then
    .next s.notifySend
  else .next s

/-- NOTIFY_RESEND: every RESEND_MS while PENDING is not zero. -/
def execNotifyResend (s : State) : Host.Outcome State Fault Refusal :=
  match s.mgt.toldAt with
  | some t =>
    if s.flag MGT_CFG_NOTIFY_EN ∧ s.flag MGT_NOTIFY_PENDING ∧ t + 1000000 * s.get MGT_CFG_RESEND_MS ≤ s.now then .next s.notifySend
    else .next s
  | none => .next s

/-- Whether a register has a W1C bit set. -/
def w1cSet (s : State) (fs : List Fld) : Bool := fs.any fun f => f.acc = .w1c && s.flag f

/-- Whether a PENDING bit's source is still set (Table 21.3). -/
def sourceSet (s : State) (b : Nat) : Bool :=
  if b = 0 then w1cSet s CLK_EVENT else if b = 1 then w1cSet s PWR_EVENT
  else if b = 2 then (List.range 16).any fun k => w1cSet s (MEMH_EVENT k)
  else if b = 3 then (List.range 24).any fun c => w1cSet s (MEMD_EVENT c)
  else if b = 4 then w1cSet s PLC_EVENT else if b = 5 then w1cSet s DIR_EVENT
  else if b = 6 then w1cSet s XLT_EVENT else if b = 7 then w1cSet s EXT_EVENT
  else if b = 8 then w1cSet s CHN_EVENT else if b = 9 then w1cSet s FAB_EVENT
  else if b = 10 then (List.range 72).any fun p => w1cSet s (LNK_EVENT p)
  else if b = 11 then w1cSet s QOS_EVENT else if b = 12 then w1cSet s SEC_EVENT
  else if b = 13 then w1cSet s MIR_EVENT else if b = 14 then w1cSet s ERR_EVENT
  else if b = 15 then w1cSet s DBG_TSTAT || w1cSet s DBG_SNAP_STATUS
  else w1cSet s MGT_EVENT

/-- MGT_NOTIFY_WRITE: bits cleared, and set anew where their source is still set. -/
def execMgtNotifyWrite (v : Word64) (s : State) : Host.Outcome State Fault Refusal :=
  let cleared := Nat.land (s.get MGT_NOTIFY_PENDING) v.toNat
  let s := s.put MGT_NOTIFY_PENDING (Nat.xor (s.get MGT_NOTIFY_PENDING) cleared)
  let s := s.modMgt fun m => { m with told := Nat.land m.told (Nat.xor (2 ^ 64 - 1) cleared) }
  .next (((List.range 17).filter fun b => bit cleared b && sourceSet s b).foldl State.notify s)

/-! In-service update (R405). -/

def State.updEnd (s : State) (st de : Nat) : State := s.endCmd MGT_UPD_CTL_STATUS MGT_UPD_CTL_DETAIL st de

/-- The image that MGT_UPD0 names: its bytes, where an ACTIVE extent that grants read holds it whole. -/
def updImage (s : State) : Option (List Byte) :=
  match NMap.find s.ext.table (s.get MGT_UPD0_EXTENT_ID) with
  | none => none
  | some x =>
    let room := 2097152 * x.length - 4096 * s.get MGT_UPD0_OFFSET_4K
    let b := rdBytes s.mem (x.base + 4096 * s.get MGT_UPD0_OFFSET_4K) room
    let n := Config.imageEnd b
    if x.st = .active ∧ hasRights x rtRead ∧ 128 ≤ n ∧ n ≤ room then some (b.take n) else none

/-- The units that an image of a type goes to: cirques, HBM channels by 32 × stack + channel, DDR5 channels, ports. -/
def imageUnits (s : State) (ty : Nat) : List Nat :=
  if ty = 1 then [0]
  else if ty = 2 then List.range 16
  else if ty = 3 then s.mch.hbmForm.flatMap fun k => range' (32 * k) 32
  else if ty = 4 then NMap.keys s.mch.dimm
  else (List.range 72).filter (hasPort s)

/-- APPLY (R405); the lowest detail that applies. A management image replaces the slot's and restarts the complex. -/
def execMgtApply (s : State) : Host.Outcome State Fault Refusal :=
  let ty := s.get MGT_UPD_CTL_TYPE
  if s.flag MGT_UPD_STATUS_PENDING ∨ ¬ mgtUp s then .next (s.updEnd stPermission 0x1)
  else match updImage s with
    | none => .next (s.updEnd stPermission 0x2)
    | some b =>
      let own := leNat (slice b (b.length - 128) 1)
      match imageOk s own b with
      | none => .next ((s.raise MGT_EVENT_UPD_FAIL).updEnd stPermission 0x3)
      | some i =>
        if own ≠ ty ∨ ty = 0 ∨ 5 < ty then .next (s.updEnd stPermission 0x4)
        else
          let us := imageUnits s ty
          let s := (s.modMgt fun m => { m with next := some (ty, i), units := us }).put MGT_UPD_STATUS_PENDING us.length
          let s := s.updEnd stOK 0
          if ty = 1 then .next (s.modMgt fun m => { m with slot := some b }).mgtRestart else .next s

/-- The service pause of 400 µs in which a channel loads its image. -/
def State.loadPause (s : State) (ctl ch : Nat) : State :=
  let m := ctlOf s ctl
  let til := max (NMap.getD m.pauseEnd ch 0) (s.now + 400000)
  (s.setCtl ctl { m with pauseEnd := NMap.insert m.pauseEnd ch til }).modMgt fun x => { x with loadEnd := s.now + 400000 }

/-- UNIT_IMAGE_APPLY (R405): a unit at the point where it takes the new image. -/
def execUnitImageApply (unit : Nat) (s : State) : Host.Outcome State Fault Refusal :=
  match s.mgt.next with
  | none => .next s
  | some (ty, _) =>
    if ¬ s.mgt.units.contains unit then .next s
    else if ty = 2 then
      if s.eng.launches.any fun l => l.held && l.engines.any fun e => e / 16 = unit then .next s else .next (s.updated unit)
    else if ty = 3 then
      if s.now < s.mgt.loadEnd then .next s else .next ((s.loadPause (unit / 32) (unit % 32)).updated unit)
    else if ty = 4 then
      if s.now < s.mgt.loadEnd then .next s else .next ((s.loadPause (16 + unit) 0).updated unit)
    else if ty = 5 then
      if lnkSt s unit = lkTraining then .next (s.updated unit) else .next s
    else .next s

/-! The board controller's sideband (R404). -/

/-- Whether the board controller reaches the device. -/
def sbUp (s : State) : Bool := s.brd.pwrGood && (s.mgt.i3c.isSome || s.mgt.smbus)

/-- The sideband's own view registers. -/
def sbViewWord (s : State) (n : Nat) : Nat := s.err.sbView.getD n 0

/-- A register of the sideband window; another offset reads zero. -/
def sbWord (s : State) (off : Nat) : Nat :=
  let at_ := fun (fs : List Fld) => fs.any fun f => f.off = off
  if at_ ERR_VIEW_SEL then s.err.sbSel
  else match (List.range 8).find? fun n => at_ (ERR_VIEW n) with
    | some n => sbViewWord s n
    | none =>
      match [ERR_MOR_STATUS, ERR_SEQ, CLK_STATUS, PWR_STATE, RST_STATUS, MGT_STATUS, MGT_TELEM0, MGT_TELEM1].find? at_ with
      | some fs => regVal s fs
      | none => 0

/-- SB_READ: the word of the private read that follows. -/
def execSbRead (off : Nat) (s : State) : Host.Outcome State Fault Refusal :=
  if sbUp s then .next (s.modMgt fun m => { m with sbData := sbWord s off }) else .next s

/-- The sideband's ERR_VIEW_SEL written, SOURCE forced to 2, and its view loaded. -/
def State.sbSelect (s : State) (v : Nat) : State :=
  let v := Nat.land v (2 ^ ERR_VIEW_SEL_UNIT_TYPE.width * 2 ^ ERR_VIEW_SEL_UNIT_TYPE.lo - 2 ^ ERR_VIEW_SEL_UNIT_TYPE.lo) +
    ERR_VIEW_SEL_UNIT_INDEX.of v * 2 ^ ERR_VIEW_SEL_UNIT_INDEX.lo + 2 * 2 ^ ERR_VIEW_SEL_SOURCE.lo +
    ERR_VIEW_SEL_INDEX.of v * 2 ^ ERR_VIEW_SEL_INDEX.lo
  let l := viewBytes (viewEntry s 2 (ERR_VIEW_SEL_UNIT_TYPE.of v) (ERR_VIEW_SEL_UNIT_INDEX.of v) (ERR_VIEW_SEL_INDEX.of v))
  s.modErr fun x => { x with sbSel := v, sbView := (List.range 8).map fun n => leNat (slice l (8 * n) 8) }

/-- ERR_MOR_CTL (R366). -/
def State.morCtl (s : State) (v : Nat) : State :=
  let s := if ERR_MOR_CTL_UNFREEZE.of v = 1 ∧ (s.flag ERR_MOR_STATUS_FROZEN ∨ s.err.postLeft = some 0) then
      (s.put ERR_MOR_STATUS_FROZEN 0).modErr fun x => { x with postLeft := none }
    else s
  if ERR_MOR_CTL_FREEZE.of v = 1 then s.morTrigger else s

/-- SB_WRITE: ERR_MOR_CTL, ERR_VIEW_SEL and ALERT_W alone. -/
def execSbWrite (off : Nat) (v : Word64) (s : State) : Host.Outcome State Fault Refusal :=
  let at_ := fun (fs : List Fld) => fs.any fun f => f.off = off
  if ¬ sbUp s then .next s
  else if at_ ERR_MOR_CTL then .next (s.morCtl v.toNat)
  else if at_ ERR_VIEW_SEL then .next (s.sbSelect v.toNat)
  else if at_ MGT_TELEM1 then .next (s.put MGT_TELEM1_ALERT_W (MGT_TELEM1_ALERT_W.of v.toNat))
  else .next s

/-- SB_WAKE: wake source 5. -/
def execSbWake (s : State) : Host.Outcome State Fault Refusal :=
  if sbUp s ∧ wakeOn s 5 ∧ ¬ s.clk.stopped then .next (s.wake 5) else .next s

/-- SMBUS_FALLBACK: no address within 100 ms of PWR_GOOD. -/
def execSmbusFallback (s : State) : Host.Outcome State Fault Refusal :=
  if s.brd.pwrGood ∧ s.mgt.i3c.isNone ∧ s.brd.goodAt + 100000000 ≤ s.now then .next (s.modMgt fun m => { m with smbus := true })
  else .next s

/-- DYNAMIC_ADDRESS_ASSIGNED: the device is an I3C target. -/
def execDynamicAddressAssigned (addr : Nat) (s : State) : Host.Outcome State Fault Refusal :=
  if s.brd.pwrGood ∧ ¬ s.mgt.smbus then .next (s.modMgt fun m => { m with i3c := some (addr % 128) }) else .next s

/-! Calibration (R408). -/

/-- LIMIT of a quantity, and none for a reserved ID (Table 21.5). -/
def calLimit (q : Nat) : Option Nat :=
  if q < 0x28 then some 8
  else if 0x100 ≤ q ∧ q < 0x220 then some 5
  else if 0x300 ≤ q ∧ q < 0x340 then some 16
  else if q = 0x400 ∨ q = 0x401 then some 10
  else if 0x800 ≤ q ∧ q < 0x1000 then some 0
  else none

/-- MGT_CAL_VIEW of a quantity. -/
def calView (s : State) (q : Nat) : Nat :=
  match calLimit q with
  | none => 0
  | some lim =>
    let fac := (Config.factoryCal q).toNat
    let usr := s.get (MGT_CAL_VIEW_USER q)
    fac * 2 ^ 48 + usr * 2 ^ 32 + (fac + usr) % 65536 * 65536 + lim

/-- CAL_USER_WRITE: the selected quantity's offset, stored within ±LIMIT. -/
def execCalUserWrite (v : Word64) (s : State) : Host.Outcome State Fault Refusal :=
  let q := s.get MGT_CAL_SEL_ID
  let u := bits v.toNat 47 32
  match calLimit q with
  | none => .next s
  | some lim => if (toInt 16 u).natAbs ≤ lim then .next (s.put (MGT_CAL_VIEW_USER q) u) else .next s

/-! Metering (R409, R410). -/

/-- A tenant's MACs and BYTES since it was made (Tables 19.5 and 21.6). -/
def tenMacs (s : State) (t : Nat) : Nat := (List.range 10).foldl (fun n i => n + NMap.getD (NMap.getD s.dbg.tenCnt t []) i 0) 0
def tenBytes (s : State) (t : Nat) : Nat :=
  NMap.getD (NMap.getD s.dbg.tenCnt t []) 23 0 + NMap.getD (NMap.getD s.dbg.tenCnt t []) 26 0

/-- The five counts of a slot's meter; zero while it is not bound. -/
def meterCounts (s : State) (slot : Nat) : List Nat :=
  match NMap.find s.mgt.meters slot with
  | none => [0, 0, 0, 0, 0]
  | some m =>
    let t := (slotRec s slot).map Prod.fst
    [m.active, m.engine, t.elim 0 (fun t => tenMacs s t - m.macs0), t.elim 0 (fun t => tenBytes s t - m.bytes0), m.held / 1000000]

/-- A meter started now. -/
def meterNew (s : State) (slot : Nat) : Meter :=
  let t := (slotRec s slot).map Prod.fst
  ⟨s.now, 0, 0, t.elim 0 (tenMacs s), t.elim 0 (tenBytes s), 0, false⟩

/-- The report of a meter; RACK_TENANT of a slot without a tenant is a free value (log entry 2). -/
def State.meterReport (s : State) (slot : Nat) (m : Meter) (final : Bool) : State × Report :=
  let (t, s) := match slotRec s slot with
    | some (t, _) => (t, s)
    | none =>
      let (k, s) := s.take
      ((Config.freeValue k).toNat % 1024, s)
  (s, ⟨slot, m.gap, final, s.get (MGT_METER_CFG_COMP_ID slot), m.start, s.now, t, meterCounts s slot⟩)

/-- A report's 192 bytes, signed with the identity key (key 0). -/
def reportBytes (s : State) (seq : Nat) (restarted : Bool) (r : Report) : List Byte :=
  let body := natLe 2 1 ++ natLe 1 r.slot ++ natLe 1 (b2n r.gap + 2 * b2n restarted + 4 * b2n r.final) ++ natLe 4 r.comp ++
    natLe 8 s.dev.serial ++ natLe 8 seq ++ natLe 8 r.start ++ natLe 8 r.stop ++ natLe 2 r.tenant ++ natLe 6 0 ++
    r.counts.flatMap (natLe 8) ++ natLe 40 0
  body ++ (Config.ecdsaSign 0 body).toList

/-- A report sent. -/
def State.sendReport (s : State) (restarted : Bool) (r : Report) : State :=
  let s := s.bump MGT_REPORT_SEQ 1
  let b := reportBytes s (s.get MGT_REPORT_SEQ) restarted r
  let s := s.mgtSend (s.get MGT_CFG_REPORT_AGENT) 0x04 b
  if s.flag MGT_CFG_REPORT_ETH then s.ethSend 0x04 b else s

/-- A report that is due: sent, or kept until the firmware runs again (R399, R410). -/
def State.reportDue (s : State) (r : Report) : State :=
  if mgtUp s then s.sendReport false r else s.modMgt fun m => { m with due := m.due ++ [r] }

/-- The end of a slot's binding: its final report. -/
def State.meterEnd (s : State) (slot : Nat) : State :=
  match NMap.find s.mgt.meters slot with
  | none => s
  | some m =>
    let (s, r) := s.meterReport slot m true
    (s.reportDue r).modMgt fun x => { x with meters := NMap.erase x.meters slot }

/-- METER_BIND (R409): a write of MGT_METER_CFG rebinds a slot's meter. -/
def execMeterBind (slot : Nat) (v : Word64) (s : State) : Host.Outcome State Fault Refusal :=
  if 64 ≤ slot then .next s
  else
    let s := (s.meterEnd slot).wrFields (MGT_METER_CFG slot) v.toNat
    .next (if s.flag (MGT_METER_CFG_BIND slot) then s.modMgt fun m => { m with meters := NMap.insert m.meters slot (meterNew s slot) }
           else s)

/-- One bound meter's periodic report. -/
def State.meterPeriod (s : State) (restarted : Bool) (slot : Nat) (m : Meter) : State :=
  let (s, r) := s.meterReport slot m false
  (s.sendReport restarted r).modMgt fun x => { x with meters := NMap.insert x.meters slot { m with gap := false } }

/-- USAGE_REPORT (R410): reports kept through a restart, then one for each bound meter at a multiple of REPORT_S. -/
def execUsageReport (s : State) : Host.Outcome State Fault Refusal :=
  if ¬ mgtUp s then .next s
  else
    let s := (s.mgt.due.foldl (fun s r => s.sendReport true r) s).modMgt fun m => { m with due := [] }
    let p := 1000000000 * s.get MGT_CFG_REPORT_S
    let last := s.now / p * p
    if s.flag MGT_CFG_REPORT_EN ∧ s.mgt.reported < last then
      let restarted := s.mgt.downAt ≤ last && last < s.mgt.upAt
      let due := s.mgt.meters.filter fun (m : Nat × Meter) => m.2.start ≤ last
      let s := due.foldl (fun s m => s.meterPeriod restarted m.1 m.2) s
      .next (s.modMgt fun m => { m with reported := last })
    else .next s

/-! The end of a removal, and SVN_COMMIT. -/

/-- TENANT_REMOVED (Table 16.7 step 11): the slot's binding ends, its counters go (R378, R409). -/
def execTenantRemoved (t : Nat) (s : State) : Host.Outcome State Fault Refusal :=
  match tenRec s t with
  | some r =>
    if r.st = .erased ∧ s.ext.table.all (fun (x : Nat × Extent) => x.2.tenant ≠ t) then
      let bound := (NMap.find s.mgt.meters r.slot).isSome
      let s := (s.meterEnd r.slot).setTen t { r with st := .none }
      let s := s.modDbg fun d => { d with tenCnt := NMap.erase d.tenCnt t }
      let s := if bound then s.modMgt fun m => { m with meters := NMap.insert m.meters r.slot (meterNew s r.slot) } else s
      .next (s.secEvent SEC_EVENT_REMOVE_DONE r.slot)
    else .next s
  | none => .next s

/-- SVN_COMMIT (R324): each counter rises to the SVN of the running image of its type. -/
def execSvnCommit (s : State) : Host.Outcome State Fault Refusal :=
  if s.flag SEC_CMD_CTL_BUSY then .next s
  else
    let up := fun (ty : Nat) => max (s.dev.svn ty) ((NMap.find s.mgt.images ty).elim 0 Image.svn)
    let d := { s.dev with
      svnMgmt := up 1
      svnMicrocode := up 2
      svnHbm := up 3
      svnDdr5 := up 4
      svnSerdes := up 5 }
    .next { s with dev := d }.secOk

/-! SPDM (R322, R421). The request codes and the error message are those of DSP0274 (PRESUMED, log entry 26). -/

def spdmCode (m : SpdmIn) : Nat := leNat (slice m.data 1 1)

/-- The error Busy. -/
def spdmBusy (m : SpdmIn) : List Byte := m.data.take 1 ++ [0x7f#8, 0x03#8, 0#8]

/-- A message of the responder, sealed where its request was. -/
def State.spdmSend (s : State) (m : SpdmIn) (b : List Byte) : State :=
  let b := match m.sess with
    | some n => Config.sessionSeal n false b
    | none => b
  match m.via with
  | none => s.ethSend 0x06 b
  | some p => s.mgtReply p b

/-- The responder's own answer. -/
def State.spdmAnswer (s : State) (m : SpdmIn) : State :=
  let (k, s) := s.take
  s.spdmSend m (Config.spdmResponse k m.data)

/-- A session heard of. -/
def State.heard (s : State) (m : SpdmIn) : State :=
  match m.sess with
  | some n => s.modSec fun x => { x with sess := NMap.adjust x.sess n fun c => { c with heard := s.now } }
  | none => s

/-- Whether the responder takes a message of a code: over the management port only while the firmware runs (R399), in a
session only one that stands. -/
def spdmOn (s : State) (m : SpdmIn) (code : Nat) : Bool :=
  spdmCode m == code && (m.via.isSome || (mgtUp s && s.flag MGT_ETH_LINK_UP)) &&
  m.sess.all fun n => (NMap.find s.sec.sess n).any fun c => c.up || code == 0xe5

/-- A request whose answer is all that it does. -/
def spdmPlain (s : State) (m : SpdmIn) (code : Nat) : State := if spdmOn s m code then (s.heard m).spdmAnswer m else s

def execGetVersion (m : SpdmIn) (s : State) : Host.Outcome State Fault Refusal := .next (spdmPlain s m 0x84)
def execGetCapabilities (m : SpdmIn) (s : State) : Host.Outcome State Fault Refusal := .next (spdmPlain s m 0xe1)
def execNegotiateAlgorithms (m : SpdmIn) (s : State) : Host.Outcome State Fault Refusal := .next (spdmPlain s m 0xe3)
def execGetDigests (m : SpdmIn) (s : State) : Host.Outcome State Fault Refusal := .next (spdmPlain s m 0x81)
def execGetCertificate (m : SpdmIn) (s : State) : Host.Outcome State Fault Refusal := .next (spdmPlain s m 0x82)
def execSpdmChallenge (m : SpdmIn) (s : State) : Host.Outcome State Fault Refusal := .next (spdmPlain s m 0x83)
def execGetMeasurements (m : SpdmIn) (s : State) : Host.Outcome State Fault Refusal := .next (spdmPlain s m 0xe0)
def execKeyUpdate (m : SpdmIn) (s : State) : Host.Outcome State Fault Refusal := .next (spdmPlain s m 0xe9)

/-- HEARTBEAT in a session keeps it alive. -/
def execSpdmHeartbeat (m : SpdmIn) (s : State) : Host.Outcome State Fault Refusal :=
  if m.sess.isSome then .next (spdmPlain s m 0xe8) else .next s

/-- KEY_EXCHANGE (R421): Busy with 8 sessions held. The session's ID joins the requester's half and the device's own. -/
def execKeyExchange (m : SpdmIn) (s : State) : Host.Outcome State Fault Refusal :=
  if ¬ spdmOn s m 0xe4 then .next s
  else if 8 ≤ s.sec.sess.length then .next (s.spdmSend m (spdmBusy m))
  else
    let mine := (s.sec.lastSess + 1) % 65536
    let id := leNat (slice m.data 4 2) + 65536 * mine
    let c : Session := ⟨false, none, [], [], 0, false, 0, s.now⟩
    .next ((s.modSec fun x => { x with sess := NMap.insert x.sess id c, lastSess := mine }).spdmAnswer m)

/-- FINISH: the session stands. -/
def execSpdmFinish (m : SpdmIn) (s : State) : Host.Outcome State Fault Refusal :=
  match m.sess with
  | none => .next s
  | some n =>
    if spdmOn s m 0xe5 then
      .next ((s.modSec fun x => { x with sess := NMap.adjust x.sess n fun c => { c with up := true, heard := s.now } }).spdmAnswer m)
    else .next s

def State.endSession (s : State) (n : Nat) : State := s.modSec fun x => { x with sess := NMap.erase x.sess n }

/-- END_SESSION. -/
def execEndSession (m : SpdmIn) (s : State) : Host.Outcome State Fault Refusal :=
  match m.sess with
  | none => .next s
  | some n => if spdmOn s m 0xec then .next ((s.spdmAnswer m).endSession n) else .next s

/-- SESSION_HEARTBEAT_TIMEOUT: the event says that the period, which no rule gives, has passed. -/
def execSessionHeartbeatTimeout (n : Nat) (s : State) : Host.Outcome State Fault Refusal := .next (s.endSession n)

/-! The rack-admin proof (R420). -/

/-- AUTH_NONCE_READ: a fresh nonce of a session, four words of free values (log entry 2). -/
def State.drawNonce (s : State) (n : Nat) : State :=
  let w := (List.range 4).map fun i => (Config.freeValue (s.fresh + i)).toNat
  { s with fresh := s.fresh + 4 }.modSec fun x => { x with sess := NMap.adjust x.sess n fun c => { c with nonce := some w } }

def execAuthNonceRead (n : Nat) (s : State) : Host.Outcome State Fault Refusal :=
  if (NMap.find s.sec.sess n).any Session.up then .next (s.drawNonce n) else .next s

/-- The 64 bytes of eight 64-bit registers. -/
def wordBytes (m : NMap Nat) : List Byte := (List.range 8).flatMap fun n => natLe 8 (NMap.getD m n 0)

/-- The hash that GLB_ADMIN_HASH holds. -/
def adminHash (s : State) : List Byte := (List.range 4).flatMap fun n => natLe 8 (s.get (GLB_ADMIN_HASH_HASH n))

/-- Step 6 of Table 22.5. -/
def proofOk (s : State) (n : Nat) (c : Session) : Bool :=
  match c.nonce with
  | none => false
  | some w =>
    let msg := ascii "halhild rack admin" ++ natLe 8 s.dev.serial ++ natLe 4 n ++ w.flatMap (natLe 8)
    s.flag GLB_ADMIN_CTL_LOCK && (Config.sha256 (wordBytes c.key)).toList == adminHash s &&
    Config.ecdsaVerify (wordBytes c.key) msg (wordBytes c.sig)

/-- PROVE (R420, R421): the eighth failure ends the session. -/
def execAuthProve (n : Nat) (s : State) : Host.Outcome State Fault Refusal :=
  match NMap.find s.sec.sess n with
  | none => .next s
  | some c =>
    if ¬ c.up then .next s
    else if proofOk s n c then
      .next (s.modSec fun x => { x with sess := NMap.insert x.sess n { c with nonce := none, status := stOK, admin := true } })
    else if 8 ≤ c.fails + 1 then .next (s.endSession n)
    else
      .next (s.modSec fun x => { x with
        sess := NMap.insert x.sess n { c with nonce := none, status := stPermission, fails := c.fails + 1 } })

end Sys2Proof.Machine
end

