-- ==== Sys2Proof/Machine/Board.lean ====
section
/-! DEFINITION. The board side (chapter 23): the input supply, the power governor, the thermal steps and trip, the test
access port, and what the pins carry; one meaning for each of their commands and events. -/

namespace Sys2Proof.Machine

open Reg

def State.modBrd (s : State) (f : BrdUnit → BrdUnit) : State := { s with brd := f s.brd }

/-- The offset of a calibrated quantity in force: the factory value and the user offset last applied (R408). -/
def calEff (s : State) (q : Nat) : Int := toInt 16 (Config.factoryCal q).toNat + toInt 16 (NMap.getD s.mgt.calIn q 0)

/-! The input supply (R435). -/

/-- VIN_SHUTDOWN: PWR_GOOD falls, and memory, the moraine log and every register are lost. -/
def execVinShutdown (s : State) : Host.Outcome State Fault Refusal :=
  .next { State.reset with
    dev := s.dev
    clk := { State.reset.clk with pinLow := s.clk.pinLow }
    brd := { State.reset.brd with pwrGood := false }
    fresh := s.fresh
    pending := s.pending }

/-! The power governor (R438). -/

/-- A sense reading in thousandths, through its gain of 0.1 % a step. -/
def gained (s : State) (q raw : Nat) : Nat := ((raw : Int) * (1000 + calEff s q) / 1000).toNat

/-- A limit in watts at an input voltage in millivolts: in proportion to VIN / 40 V below 40 V (R435). -/
def limitAt (w vin : Nat) : Nat := if vin < 40000 then w * vin / 40000 else w

def mean (l : List Nat) : Nat := l.foldl (· + ·) 0 / max 1 l.length

/-- Whether a limit would be passed in the 100 µs to come, at the greater of the present draw and the governor's projection:
the peak by those 100 µs, the sustained power by the 10 ms window that ends with them (R2, R438). -/
def wouldPass (s : State) (v w : Nat) (before : List Nat) : Bool :=
  let next := max w (Config.powerAhead (w :: before))
  limitAt s.dev.part.peakW v < next || limitAt s.dev.part.sustainedW v < mean ((next :: w :: before).take 100)

/-- POWER_GOVERNOR: every 100 µs, from the sense readings in mV and mA. Which n from 7 to 1 limits engine issue where a limit
would be passed is a free value (log entry 2). Before 100 samples exist, the 10 ms average is the mean of those so far
(DESIGN CHOICE, log entry 170). -/
def execPowerGovernor (vin iin : Nat) (s : State) : Host.Outcome State Fault Refusal :=
  if ¬ s.brd.pwrGood ∨ (s.brd.power ≠ [] ∧ s.now < s.brd.governed + 100000) then .next s
  else
    let s := (s.applyCal 0x400).applyCal 0x401
    let v := gained s 0x400 vin
    let i := gained s 0x401 iin
    let w := v * i / 1000000
    let power := (w :: s.brd.power).take 100
    let avg := mean power
    let exceeds := wouldPass s v w s.brd.power
    let (k, s) := s.take
    let n := if exceeds then 1 + (Config.freeValue k).toNat % 7 else 8
    let before := s.get MGT_TELEM0_POWER_W
    let s := ((s.put MGT_TELEM0_VIN_100MV (v / 100)).put MGT_TELEM0_IIN_100MA (i / 100)).put MGT_TELEM0_POWER_W avg
    let s := s.modBrd fun b => { b with power := power, limit := n, governed := s.now }
    let alert := s.get MGT_TELEM1_ALERT_W
    if alert ≠ 0 ∧ alert < s.get MGT_TELEM0_POWER_W then
      let s := s.raise MGT_EVENT_POWER_ALERT
      .next (if alert < before then s else s.alert 0x01)
    else .next s

/-! Temperature (R442, R443). -/

/-- The step in force after a sample: the highest whose trigger holds, or that was in force and is not yet left (3 °C
below its trigger). Triggers in quarters of a degree. -/
def thermStep (triggers : List Int) (old : Nat) (temps : List Int) : Nat :=
  let keep := fun (n : Nat) (t : Int) => temps.any (fun x => decide (t ≤ x)) || (n ≤ old && temps.any fun x => decide (t - 12 < x))
  (triggers.zipIdx.map fun (p : Int × Nat) => if keep (p.2 + 1) p.1 then p.2 + 1 else 0).foldl max 0

def junctionTriggers : List Int := [380, 400, 412]
def caseTriggers : List Int := [340, 360, 372]

/-- The record of a step entered. -/
def State.stepRecord (s : State) : State :=
  s.post { cls := 0, unitType := utAon, unitIndex := 0, cause := 0x0005, status := 0, tenant := none, agent := 0, addr := none, info := 0 }

def State.stepsEntered (s : State) (old new : Nat) : State := (range' old (new - old)).foldl (fun s _ => s.stepRecord) s

/-- The hottest of some sensors in °C, as its telemetry byte; a reading below 0 °C, which the byte's meaning does not cover,
is a free value (log entry 2). -/
def State.hottest (s : State) (f : Fld) (on : Nat → Bool) : State :=
  match ((samples s).filter fun p => on p.1).map Prod.snd with
  | [] => s
  | x :: l =>
    let m := l.foldl max x
    if 0 ≤ m then s.put f (m / 4).toNat
    else
      let (k, s) := s.take
      s.put f (Config.freeValue k).toNat

/-- Stack k's step. -/
def State.caseStep (s : State) (k : Nat) : State :=
  let ts := ((samples s).filter fun p => p.1 = 16 + k).map Prod.snd
  let old := NMap.getD s.brd.hStep k 0
  let new := thermStep caseTriggers old ts
  let s := (s.stepsEntered old new).modBrd fun b => { b with hStep := NMap.insert b.hStep k new }
  let s := s.hottest (MEMH_STATUS_CASE_TEMP_C k) fun i => i = 16 + k
  if old = 0 ∧ new ≠ 0 then s.raise (MEMH_EVENT_TEMP_HIGH k) else s

/-- THERMAL_SAMPLE: every 1 ms, from the sensors' readings in quarters of a degree. -/
def execThermalSample (temps : List Int) (s : State) : Host.Outcome State Fault Refusal :=
  if ¬ s.brd.pwrGood ∨ temps.length ≠ 64 ∨ (s.brd.temps ≠ [] ∧ counting s ∧ s.now < s.brd.sampled + 1000000) then .next s
  else
    let s := (range' 0x300 64).foldl State.applyCal s
    let cal := temps.zipIdx.map fun (p : Int × Nat) => p.1 + calEff s (0x300 + p.2)
    let s := s.modBrd fun b => { b with temps := cal, sampled := s.now }
    let js := ((samples s).filter fun p => p.1 < 16 || 32 ≤ p.1).map Prod.snd
    let new := thermStep junctionTriggers s.brd.jStep js
    let s := (s.stepsEntered s.brd.jStep new).modBrd fun b => { b with jStep := new }
    let s := ((List.range 16).filter fun k => sensorOn s (16 + k)).foldl State.caseStep s
    let s := (s.hottest MGT_TELEM1_TJ_MAX_C fun i => i < 16 || 38 ≤ i).hottest MGT_TELEM1_HBM_MAX_C fun i => 16 ≤ i && i < 32
    let cool := (samples s).all fun p => decide (p.2 ≤ tripAt p.1 - 40)
    let from_ := if tripNow s then some (s.brd.tripFrom.getD s.now) else none
    .next ((s.modBrd fun b => { b with tripFrom := from_ }).modClk fun c => { c with hot := c.hot && !cool })

/-- THERMAL_TRIP: a trip value held for 1 ms. -/
def execThermalTrip (s : State) : Host.Outcome State Fault Refusal :=
  match s.brd.tripFrom with
  | some t =>
    if t + 1000000 ≤ s.now ∧ ¬ s.flag ERR_STATUS_DEVICE_FATAL then
      .next (s.deviceFatal { cls := 3, unitType := utAon, unitIndex := 0, cause := 0x0005, status := 0, tenant := none, agent := 0,
                             addr := none, info := 0 })
    else .next s
  | none => .next s

/-- The cycles in every 8 in which an engine issues (R438, R442): the smallest limit. -/
def issueOf8 (s : State) (e : Nat) : Nat :=
  let lim := fun (st : Nat) => if st = 3 then 1 else if st = 2 then 4 else 8
  min s.brd.limit (min (lim s.brd.jStep) (lim (NMap.getD s.brd.hStep (e / 16) 0)))

/-! The test access port (R444, Table 23.8). -/

/-- An instruction of the TAP taken, while PWR_GOOD is high. -/
def State.tapIr (s : State) (ir : Nat) (f : Tap → Tap) : Host.Outcome State Fault Refusal :=
  .next (if s.brd.pwrGood then s.modBrd fun b => { b with tap := f { b.tap with ir := ir } } else s)

def execTapExtest (pins : List Bool) (s : State) : Host.Outcome State Fault Refusal := s.tapIr 0x00 fun t => { t with captured := pins }
def execTapSample (pins : List Bool) (s : State) : Host.Outcome State Fault Refusal := s.tapIr 0x01 fun t => { t with captured := pins }
def execTapPreload (bits : List Bool) (s : State) : Host.Outcome State Fault Refusal := s.tapIr 0x02 fun t => { t with bound := bits }
def execTapClamp (s : State) : Host.Outcome State Fault Refusal := s.tapIr 0x03 id
def execTapHighz (s : State) : Host.Outcome State Fault Refusal := s.tapIr 0x04 id
def execTapExtestPulse (pins : List Bool) (s : State) : Host.Outcome State Fault Refusal :=
  s.tapIr 0x05 fun t => { t with captured := pins }
def execTapExtestTrain (pins : List Bool) (s : State) : Host.Outcome State Fault Refusal :=
  s.tapIr 0x06 fun t => { t with captured := pins }
def execTapBypass (s : State) : Host.Outcome State Fault Refusal := s.tapIr 0xff id

/-! Pins (R440, Table 23.6). -/

/-- The states of Table 23.6's columns. -/
inductive PinMode where
  | unpowered | reset | run | sleep | deep | held
  deriving DecidableEq, Repr

def pinMode (s : State) : PinMode :=
  if ¬ s.brd.pwrGood then .unpowered
  else if s.err.stopStep = 6 ∨ s.clk.stopped then .held
  else if s.get RST_STATUS_PHASE = 0 ∨ s.clk.pinLow then .reset
  else if pwrSt s = pwSleep then .sleep
  else if pwrSt s = pwDeep then .deep
  else .run

/-- What an output group does; the lands of an empty site are unconnected (R10, R432). -/
inductive Drive where
  | unconnected | highZ | idle | active | low | high | powerDown | selfRefresh
  deriving DecidableEq, Repr

/-- Whether the TAP has taken the pins. -/
def tapHolds (s : State) : Bool := s.brd.pwrGood && [0, 3, 4, 5, 6].contains s.brd.tap.ir

/-- An I/O die's lands: unconnected where its site is empty. -/
def onDie (s : State) (site : Nat) (d : Drive) : Drive := if bit s.dev.part.iodSites site then d else .unconnected

/-- TXP and TXN of a port. -/
def pinTx (s : State) (p : Nat) : Drive :=
  onDie s (p / 12) <|
  let st := lnkSt s p
  let on : Bool := st == lkTraining || st == lkUp || (st == lkSleep && (lnkOf s p).waking.isSome)
  match pinMode s with
  | .unpowered => .highZ
  | .run => if on then .active else .idle
  | .sleep => if on && !s.flag (LNK_CTL_SLEEP_EN p) && s.flag CLK_GATE_SWITCH_SLEEP then .active else .idle
  | _ => .idle

/-- MGT_TX. -/
def pinMgt (s : State) : Drive :=
  match pinMode s with
  | .unpowered => .highZ
  | .reset | .held => .idle
  | _ => .active

/-- DDc_RESET_N of channel c: low at reset, and while the channel is EVACUATED (R100 step 4). -/
def pinDdrReset (s : State) (c : Nat) : Drive :=
  onDie s (c / 4) <|
  match pinMode s with
  | .unpowered => .highZ
  | .reset => .low
  | _ => if s.get (MEMD_STATUS_STATE c) = 5 then .low else .high

/-- The other DDR5 host outputs of channel c: a channel powered down drives nothing (DESIGN CHOICE, log entry 182), and an
IDLE one keeps its DIMMs in self-refresh (R100 step 4). -/
def pinDdr (s : State) (c : Nat) : Drive :=
  onDie s (c / 4) <|
  if s.get (MEMD_STATUS_STATE c) = 5 then .highZ
  else match pinMode s with
  | .unpowered | .reset => .highZ
  | .run => if s.get (MEMD_STATUS_STATE c) = 4 then .selfRefresh else .active
  | .sleep => if s.get (MEMD_STATUS_STATE c) = 4 then .selfRefresh else .powerDown
  | .deep | .held => .selfRefresh

/-- DDc_SCL and DDc_SDA of channel c. -/
def pinDdrSide (s : State) (c : Nat) : Drive :=
  onDie s (c / 4) <|
  match pinMode s with
  | .unpowered | .reset | .held => .highZ
  | _ => .active

/-- SB_SCL and SB_SDA. -/
def pinSide (s : State) : Drive := if s.brd.pwrGood then .active else .highZ

/-- PWR_GOOD. -/
def pinPwrGood (s : State) : Drive := if s.brd.pwrGood then .high else .low

/-- THERM_ALERT_N: low while any step is in force. -/
def pinTherm (s : State) : Drive :=
  match pinMode s with
  | .unpowered | .reset => .highZ
  | _ => if s.brd.jStep ≠ 0 ∨ s.brd.hStep.any (fun (k : Nat × Nat) => k.2 ≠ 0) then .low else .highZ

/-- UART_TX. -/
def pinUart (s : State) : Drive :=
  match pinMode s with
  | .unpowered => .highZ
  | .reset | .held => .high
  | _ => .active

end Sys2Proof.Machine
end

