-- ==== Sys2Proof/Machine/Bus.lean ====
section
/-! DEFINITION. Control space (chapter 22): which register an offset names, who reaches it, what a read returns and what a
write does; and the commands that access it: register writes, the mailbox, CTL packets, and the end of a wake. -/

namespace Sys2Proof.Machine

open Reg

/-- The state that a meaning leaves. -/
def after (o : Host.Outcome State Fault Refusal) (s : State) : State :=
  match o with
  | .next t => t
  | _ => s

/-- Who makes an access (Table 22.3): a path of the mailbox or the management cores, or a fabric agent. -/
inductive Who where
  | path (p : Path)
  | agent (a : Nat)
  deriving DecidableEq, Repr

/-! The map (R412, R413, R414). -/

/-- The registers of which control space has one. -/
def soleRegs : List (List Fld) :=
  [GLB_ID, GLB_SERIAL, GLB_MAC, GLB_CAP0, GLB_CAP1, GLB_CAP2, GLB_CAP3, GLB_STRAP, GLB_WHOAMI, GLB_ADMIN_CTL, GLB_AUTH_CTL,
   CLK_CTL, CLK_STATUS, CLK_RACK, CLK_EVENT, CLK_CMD, CLK_GATE, PWR_STATE, PWR_CMD, PWR_WAKE_EN, PWR_WAKE_TIME, PWR_UNIT,
   PWR_EVENT, PWR_CFG, RST_STATUS, RST_CMD, RST_TIME, MEMH_TIER_CFG, MEMH_TIER_STATUS, MEMD_TIER_CFG, PLC_CFG, PLC_THRESH,
   PLC_LIMITS, PLC_PEERS, PLC_STATUS, PLC_COUNT, PLC_EVENT, PLC_CMD0, PLC_CMD1, PLC_CMD_CTL, PLC_VIEW] ++
  [DIR_CFG, DIR_STAT, DIR_EVENT, REG_CMD0, REG_CMD1, REG_CMD_CTL, DIR_PROBE_ADDR, DIR_PROBE_ST, XLT_CFG, XLT_STATUS,
   XLT_EVENT, XLT_CMD0, XLT_CMD1, XLT_CMD2, XLT_CMD3, XLT_CMD_CTL, XLT_VIEW0, XLT_VIEW1, XLT_HOT_HEAD0, XLT_HOT_HEAD1,
   XLT_HOT_POP, XLT_HOT_COUNT, EXT_CFG, EXT_CAP, EXT_CMD0, EXT_CMD1, EXT_CMD2, EXT_CMD_CTL, EXT_EVENT, EXT_FENCE, LEASE_SEL,
   LEASE_VIEW, CHN_CFG, CHN_STATUS, CHN_EVENT, CHN_CMD] ++
  [FAB_CFG, FAB_TIMERS, FAB_PUSH, FAB_SPARE0, FAB_SPARE1, FAB_EVENT, FAB_CNT0, FAB_CNT1, FAB_RT_SEL, FAB_RT_DATA, FAB_GRP_CMD,
   FAB_FLT_SEL, QOS_CFG, QOS_EVENT, QOS_CH_SEL, QOS_TP_SEL, QOS_PORT_SEL, QOS_HIST_SEL, SEC_CFG, SEC_STATUS, SEC_EVENT,
   SEC_CNT, SEC_CMD0, SEC_CMD1, SEC_CMD2, SEC_CMD_CTL, SEC_RT_SEL, SEC_RT_VIEW, SEC_AGENT_SEL, SEC_AGENT_DATA, SEC_SVN,
   MIR_CFG, MIR_TIMERS, MIR_STATUS, MIR_SEQ, MIR_LEASE, MIR_PROGRESS, MIR_EVENT, MIR_CNT, MIR_CMD, MIR_OWN_SEL, MIR_OWN0,
   MIR_OWN1, MIR_OWN2, MIR_OWN3] ++
  [ERR_CFG, ERR_STATUS, ERR_EVENT, ERR_SEQ, ERR_CNT0, ERR_CNT1, ERR_ATOM_CNT, ERR_VIEW_SEL, ERR_MOR_CTL, ERR_MOR_STATUS,
   DBG_TCFG, DBG_TBUF, DBG_TPOS, DBG_TSTAT, DBG_TWIN, DBG_TRIG_STATUS, DBG_SNAP_CTL, DBG_SNAP_STATUS, DBG_GAP, DBG_CNT_SEL,
   DBG_CNT_TIME, MGT_CFG, MGT_NOTIFY, MGT_STATUS, MGT_WDOG, MGT_FW, MGT_CMD, MGT_UPD0, MGT_UPD_CTL, MGT_UPD_STATUS,
   MGT_CAL_SEL, MGT_METER_SEL, MGT_REPORT, MGT_ETH, MGT_TELEM0, MGT_TELEM1, MGT_EVENT]

/-- Whether a register lies at an offset. -/
def isAt (fs : List Fld) (off : Nat) : Bool := fs.any fun f => f.off == off

/-- The register of a list that lies at an offset. -/
def atOff (l : List (List Fld)) (off : Nat) : Option (List Fld) := l.find? fun fs => isAt fs off

/-- The register at an offset of a row of `n`, `stride` bytes apart from `base`. -/
def rowAt (base stride n : Nat) (mk : Nat → List Fld) (off : Nat) : Option (List Fld) :=
  if base ≤ off ∧ off < base + stride * n ∧ (off - base) % stride = 0 then some (mk ((off - base) / stride)) else none

/-- The registers that stand in rows. -/
def rowRegs (off : Nat) : Option (List Fld) :=
  rowAt 0x48 8 4 GLB_ADMIN_HASH off <|> rowAt 0x70 8 4 GLB_AUTH_NONCE off <|> rowAt 0x90 8 8 GLB_AUTH_KEY off <|>
  rowAt 0xd0 8 8 GLB_AUTH_SIG off <|> rowAt 0x10018 8 2 CLK_TREF off <|> rowAt 0x220100 8 6 MEMD_SET off <|>
  rowAt 0x400040 8 4 DIR_PROBE_SH off <|> rowAt 0x400080 8 16 REG_VIEW off <|> rowAt 0x400100 8 64 DIR_AGENT_MAP off <|>
  rowAt 0x500800 8 256 XLT_GROUP off <|> rowAt 0x580050 8 8 EXT_VIEW off <|> rowAt 0x700080 8 16 CHN_ENTRY off <|>
  rowAt 0x800010 8 2 FAB_EPOCH off <|> rowAt 0x800068 8 8 FAB_GRP off <|> rowAt 0xa000b0 8 8 QOS_HIST_DATA off <|>
  rowAt 0xa00400 8 128 QOS_TMAP off <|> rowAt 0xb00060 8 4 SEC_IDHASH off <|> rowAt 0xd00040 8 8 ERR_VIEW off <|>
  rowAt 0xe00030 24 4 DBG_TRIG_CTL off <|> rowAt 0xe00038 24 4 DBG_TRIG_MASK off <|> rowAt 0xe00040 24 4 DBG_TRIG_VALUE off <|>
  rowAt 0xe00100 8 64 DBG_CNT off

/-- The registers behind a selector: the filter rule, the channel, policer and port of QOS, the calibrated quantity and
the meter (R292, R310, R408, R409). -/
def selRegs (s : State) (off : Nat) : Option (List Fld) :=
  let r := s.get FAB_FLT_SEL_RULE
  let c := chBank (s.get QOS_CH_SEL_CHANNEL)
  let t := tpBank (s.get QOS_TP_SEL_POLICER)
  let n := s.get QOS_PORT_SEL_PORT
  let m := s.get MGT_METER_SEL_SLOT
  NMap.find [(0x8000b0, FAB_FLT_CTL r), (0x8000b8, FAB_FLT_MASK r), (0x8000c0, FAB_FLT_VALUE r), (0x8000c8, FAB_FLT_HITS r),
    (0xa00018, QOS_SHAPE c), (0xa00020, QOS_SHSTATE c), (0xa00028, POLA c), (0xa00030, POLB c), (0xa00038, POLSTATE c),
    (0xa00040, POLCNT0 c), (0xa00048, POLCNT1 c), (0xa00058, POLA t), (0xa00060, POLB t), (0xa00068, POLSTATE t),
    (0xa00070, POLCNT0 t), (0xa00078, POLCNT1 t), (0xa00088, QOS_PORT_WT n), (0xa00090, QOS_SHAPE (portBank n)),
    (0xa00098, QOS_SHSTATE (portBank n)), (0xa000a0, QOS_PORT_DEFER n), (0xf00050, MGT_CAL_VIEW (s.get MGT_CAL_SEL_ID)),
    (0xf00060, MGT_METER_CFG m)] off <|> rowAt 0xf00068 8 5 (MGT_METER m) off

/-- The page of a unit at an offset: stacks, DDR5 channels, engines with their cirque, ports; none where the site, port or
channel does not exist (R11, R413). -/
def pageRegs (s : State) (off : Nat) : Option (List Fld) :=
  if 0x100000 ≤ off ∧ off < 0x110000 then
    let k := (off - 0x100000) / 0x1000
    if bit s.dev.part.hbmSites k then
      atOff [MEMH_CTL k, MEMH_STATUS k, MEMH_ECC_CNT k, MEMH_EVENT k, MEMH_CMD k] off <|>
      rowAt (0x100100 + 0x1000 * k) 8 64 (MEMH_PC k) off
    else none
  else if 0x200000 ≤ off ∧ off < 0x218000 then
    let c := (off - 0x200000) / 0x1000
    if bit s.dev.part.iodSites (c / 4) then
      atOff [MEMD_CTL c, MEMD_STATUS c, MEMD_ECC_CNT c, MEMD_EVENT c, MEMD_CMD c] off <|>
      rowAt (0x200100 + 0x1000 * c) 8 4 (MEMD_RANK c) off
    else none
  else if 0x600000 ≤ off ∧ off < 0x700000 then
    let e := (off - 0x600000) / 0x1000
    atOff [ENG_CTL e, ENG_STATUS e, ENG_FAULT e, ENG_FAULT_ADDR e, ENG_EXIT e, ENG_SEED e, ENG_CYCLES e, ENG_RETIRED e, ENG_ECC e] off <|>
    (let c := e / 16
     atOff [CIRQ_STATUS c, CIRQ_BAR0 c, CIRQ_BAR1 c, CIRQ_BARMASK0 c, CIRQ_BARMASK1 c] off <|>
     rowAt (0x600828 + 0x10000 * c) 8 8 (CIRQ_SEM c) off)
  else if 0x900000 ≤ off ∧ off < 0x912000 then
    let p := (off - 0x900000) / 0x400
    if hasPort s p then
      atOff [LNK_CTL p, LNK_STATUS p, LNK_TIMERS p, LNK_CREDIT p, LNK_TXSTATE p, LNK_RXSTATE p, LNK_TXCRED p, LNK_CNT0 p,
        LNK_CNT1 p, LNK_CNT2 p, LNK_EVENT p, LNK_CMD p] off
    else none
  else none

/-- The window that an offset lies in. -/
def windowOf (off : Nat) : Nat := (off - 0x8000000) / 0x10000

/-- The registers of tenant windows (Table 22.2). -/
def windowRegs (off : Nat) : Option (List Fld) :=
  let w := windowOf off
  atOff [TEN_ID w, TEN_CTL w, TEN_FAULT w, LEASE_RENEW w, LEASE_STATUS w, CHN_TCTL w, CHN_TSEL w, CHN_TVIEW w, TEN_CNT_CTL w,
    TEN_CNT_TIME w] off <|> rowAt (0x8000400 + 0x10000 * w) 8 64 (TEN_CNT w) off <|>
  rowAt (0x8008000 + 0x10000 * w) 8 4096 (DOORBELL w) off

/-- Whether an offset lies in a block or a window (Table 22.1). -/
def assigned (off : Nat) : Bool :=
  off < 0x40000 || (0x100000 ≤ off && off < 0x1000000) || (0x8000000 ≤ off && off < 0x8400000)

/-- The register at an offset; none where the offset is reserved or unassigned. -/
def fieldsAt (s : State) (off : Nat) : Option (List Fld) :=
  if ¬ assigned off then none
  else if 0x8000000 ≤ off then windowRegs off
  else pageRegs s off <|> atOff soleRegs off <|> rowRegs off <|> selRegs s off

/-! Privilege (R415, R416, R417). -/

/-- The session that a path stands in, once it is up. -/
def sessOf (s : State) : Who → Option (Nat × Session)
  | .path (.session n) => (NMap.find s.sec.sess n).bind fun c => if c.up then some (n, c) else none
  | _ => none

def isDevice (w : Who) : Bool := w = .path .device
def isDriver (s : State) (w : Who) : Bool := (sessOf s w).any fun x => x.2.admin

/-- Table 22.4 for the GLB block; its reserved offsets lie open to all (R413). -/
def reachesGlb (s : State) (w : Who) (off : Nat) (wr : Bool) : Bool :=
  let dd := isDevice w || isDriver s w
  if (fieldsAt s off).isNone then true
  else if isAt GLB_ID off || isAt GLB_SERIAL off || isAt GLB_MAC off || isAt GLB_WHOAMI off then !wr
  else if off < 0x48 then !wr && dd
  else if off < 0x70 then isDevice w || (!wr && dd)
  else (sessOf s w).isSome || !wr

/-- Whether an access is performed; otherwise it is refused with PERMISSION (R413, R416, R417, R419). A fabric agent's slot is
judged by R422 before. -/
def reaches (s : State) (w : Who) (off : Nat) (wr : Bool) : Bool :=
  off % 8 == 0 && assigned off &&
  match w with
  | .agent _ => 0x8000000 ≤ off
  | .path _ =>
    if off < 0x10000 then reachesGlb s w off wr
    else (isDevice w || isDriver s w) && !(wr && 0x8000000 ≤ off && isAt (LEASE_RENEW (windowOf off)) off)

/-! Reads (R424, R426). -/

/-- SEC_RT_VIEW (R311). -/
def rtView (s : State) (t : Nat) : Nat :=
  match NMap.find s.sec.tenants t with
  | none => 0
  | some r => r.floor * 2 ^ 48 + r.cur * 2 ^ 32 + (if r.st = .none then 0 else r.slot * 256) + r.st.code

/-- TEN_ID (Table 16.11). -/
def tenId (s : State) (w : Nat) : Nat :=
  match slotRec s w with
  | none => w * 2 ^ 32
  | some (t, r) => r.cur * 2 ^ 48 + w * 2 ^ 32 + r.st.code * 65536 + t

/-- LEASE_VIEW (R33). -/
def leaseView (s : State) (a : Nat) : Nat :=
  match NMap.find s.ext.leases a with
  | none => heldBy s a * 2 ^ 32
  | some l => heldBy s a * 2 ^ 32 + l.term * 65536 + (match l.st with | .held => 1 | .grace => 2 | .expired => 3)

/-- CHN_TVIEW of a window: zero for another tenant's channel (R169). -/
def chnView (s : State) (w : Nat) : Nat :=
  match chanOf' s (s.get (CHN_TSEL_CHANNEL w)) with
  | none => 0
  | some x =>
    if windowTenant s w = some x.tenant then
      x.sqHead * 2 ^ 48 + x.cqTail * 2 ^ 32 + x.fStatus * 2 ^ 24 + x.fDetail * 65536 + x.live.length * 256 + x.st
    else 0

/-- MIR_OWN3 of a slot: what was written, and the slot's GEN, HOLD and VALID (Table 17.7). -/
def ownView (s : State) (slot : Nat) : Nat :=
  let w := stagedReg s slot 3
  let w := bits w 31 20 * 2 ^ 20 + bits w 19 8 * 256
  match NMap.find s.mir.slots slot with
  | none => w
  | some o => o.gen * 2 ^ 32 + w + b2n o.hold * 2 + 1

/-- Pages of this node that lie on other nodes. -/
def lodgedOut (s : State) : Nat := (s.plc.map.filter fun (f : Nat × Frame) => f.2.tier = .remote).length

/-- What a register shows beside its stored fields: live hardware state. -/
def liveWord (s : State) (off : Nat) : Nat :=
  if isAt PLC_STATUS off then hbmFree s * 2 ^ 44 + s.plc.lodgedIn.length * 2 ^ 24 + lodgedOut s * 16
  else if isAt DIR_STAT off then s.dir.entries.length
  else if isAt XLT_STATUS off then entriesUsed s * 2 ^ 39 + slabUsed s * 2 ^ 18 + windowsUsed s
  else if isAt LEASE_VIEW off then leaseView s (s.get LEASE_SEL_AGENT)
  else if isAt CHN_STATUS off then
    (s.chn.chans.map fun (c : Nat × Chan) => c.2.live.length).sum * 2 ^ 32 + s.chn.cache.length * 65536 + s.chn.chans.length
  else if isAt (FAB_EPOCH 0) off then epochCount s 0
  else if isAt (FAB_EPOCH 1) off then epochCount s 1
  else if isAt FAB_PUSH off then pushCount s
  else if isAt FAB_RT_DATA off then NMap.getD s.fab.rt (4096 * s.get FAB_RT_SEL_TABLE + s.get FAB_RT_SEL_AGENT) 0
  else if isAt SEC_STATUS off then (s.sec.tenants.filter fun (t : Nat × TenRec) => t.2.st ≠ .none).length
  else if isAt SEC_RT_VIEW off then rtView s (s.get SEC_RT_SEL_RACK_TENANT)
  else if isAt SEC_AGENT_DATA off then
    match agentOf s (s.get SEC_AGENT_SEL_AGENT) with
    | some t => 1024 + t
    | none => NMap.getD s.sec.idleMap (s.get SEC_AGENT_SEL_AGENT) 0
  else if isAt MIR_OWN0 off then stagedReg s (s.get MIR_OWN_SEL_SLOT) 0
  else if isAt MIR_OWN1 off then stagedReg s (s.get MIR_OWN_SEL_SLOT) 1
  else if isAt MIR_OWN2 off then stagedReg s (s.get MIR_OWN_SEL_SLOT) 2
  else if isAt MIR_OWN3 off then ownView s (s.get MIR_OWN_SEL_SLOT)
  else match (List.range 6).find? fun n => isAt (MEMD_SET n) off with
    | some n => setFrames s n * 256
    | none => 0

/-- The session's own copies of the GLB_AUTH registers (Table 22.4). -/
def authWord (c : Session) (off : Nat) : Nat :=
  if isAt GLB_AUTH_CTL off then c.status * 2 ^ 48 + b2n c.admin * 2
  else if off < 0x90 then (c.nonce.getD []).getD ((off - 0x70) / 8) 0
  else if off < 0xd0 then NMap.getD c.key ((off - 0x90) / 8) 0
  else NMap.getD c.sig ((off - 0xd0) / 8) 0

/-- The word that a performed read returns. -/
def readWord (s : State) (w : Who) (off : Nat) (fs : List Fld) : Nat :=
  if isAt GLB_WHOAMI off then (if isDevice w then 0 else if isDriver s w then 1 else 2)
  else if 0x70 ≤ off ∧ off < 0x10000 then (sessOf s w).elim 0 fun x => authWord x.2 off
  else if off = 0xf00050 then calView s (s.get MGT_CAL_SEL_ID)
  else if 0xf00068 ≤ off ∧ off ≤ 0xf00088 then (meterCounts s (s.get MGT_METER_SEL_SLOT)).getD ((off - 0xf00068) / 8) 0 % 2 ^ 64
  else if 0x8000000 ≤ off then
    let win := windowOf off
    if isAt (TEN_ID win) off then tenId s win
    else if isAt (LEASE_STATUS win) off then
      match w with
      | .agent a => (NMap.find s.ext.leases a).elim 0 Lease.expiry
      | .path _ => 0
    else if isAt (CHN_TVIEW win) off then chnView s win
    else regVal s fs
  else regVal s fs + liveWord s off

/-- A read clears the RC fields it returns (R424). -/
def State.clearRc (s : State) (fs : List Fld) : State := fs.foldl (fun s f => if f.acc = .rc then s.put f 0 else s) s

/-- A read of control space: status, word, and what the read changes. -/
def busRead (s : State) (w : Who) (off : Nat) : Nat × Nat × State :=
  if ¬ reaches s w off false then (stPermission, 0, s)
  else match fieldsAt s off with
    | none => (stOK, 0, s)
    | some fs =>
      let s := match sessOf s w with
        | some (n, _) => if isAt (GLB_AUTH_NONCE 0) off then after (execAuthNonceRead n s) s else s
        | none => s
      (stOK, readWord s w off fs, s.clearRc fs)

/-! Writes, block by block (R424). -/

/-- A write that leaves its fields within a condition of the whole register; otherwise nothing of it is stored. -/
def State.wrIf (s : State) (fs : List Fld) (v : Nat) (ok : State → Bool) : State :=
  let t := s.wrFields fs v
  if ok t then t else s

/-- A write to a command register: ignored while BUSY, its operand fields stored, and the command of its OPCODE run. -/
def State.wrCmd (s : State) (fs : List Fld) (busy op : Fld) (v : Nat)
    (cmds : List (State → Host.Outcome State Fault Refusal)) (bad : State → State) : State :=
  if s.flag busy then s
  else
    let s := s.wrFields fs v
    let o := op.of v
    if o = 0 then s
    else match cmds[o - 1]? with
      | some f => after (f s) s
      | none => bad s

/-- The clock, power and reset blocks. -/
def State.wrClk (s : State) (off v : Nat) : Option State :=
  if isAt CLK_CMD off then some (s.wrCmd CLK_CMD CLK_CMD_BUSY CLK_CMD_OPCODE v [execApplyEng]
    fun s => s.endCmd CLK_CMD_STATUS CLK_CMD_DETAIL stPermission 1)
  else if isAt PWR_CMD off then some (s.wrCmd PWR_CMD PWR_CMD_BUSY PWR_CMD_OPCODE v [execPwrSleep, execPwrDeep, execPwrWake]
    fun s => s.pwrEnd stPermission 4)
  else if isAt RST_CMD off then some (if RST_CMD_WARM.of v = 1 then after (execRstWarm s) s else s)
  else none

/-- The memory controllers. -/
def State.wrMem (s : State) (off v : Nat) : Option State :=
  let k := (off - 0x100000) / 0x1000
  let c := (off - 0x200000) / 0x1000
  if off < 0x200000 ∧ isAt (MEMH_CMD k) off then some (s.wrCmd (MEMH_CMD k) (MEMH_CMD_BUSY k) (MEMH_CMD_OPCODE k) v
    [execMemhRetire k, execMemhRetrainFull k, execPowerDown k] fun s => s.memhEnd k stPermission 5)
  else if isAt (MEMD_CMD c) off then some (s.wrCmd (MEMD_CMD c) (MEMD_CMD_BUSY c) (MEMD_CMD_OPCODE c) v
    [execMemdRetire c, execMemdRetrainFull c, execMemdEvacuate c, execMemdRestore c] fun s => s.memdEnd c stPermission 5)
  else none

/-- A lowered lodging limit asks every owner for its frames (R113). -/
def State.lodgeLimit (s : State) : State :=
  if 64 * s.get PLC_LIMITS_LODGE_MAX_64 < s.plc.lodgedIn.length then s.askBack fun _ => true else s

/-- The placement engine (R121, R122). -/
def State.wrPlc (s : State) (off v : Nat) : Option State :=
  if isAt PLC_THRESH off then some (s.wrIf PLC_THRESH v fun t => t.get PLC_THRESH_DEMOTE < t.get PLC_THRESH_PROMOTE)
  else if isAt PLC_LIMITS off then
    some (s.wrIf PLC_LIMITS v fun t => t.get PLC_LIMITS_FREE_LOW < t.get PLC_LIMITS_FREE_HIGH).lodgeLimit
  else if isAt PLC_CMD_CTL off then some (s.wrCmd PLC_CMD_CTL PLC_CMD_CTL_BUSY PLC_CMD_CTL_OPCODE v
    [execPlcHint, execPlcMove, execPlcQuery, execPlcRecall, execPlcRelease] fun s => s.plcRefuse 7)
  else none

/-- The directory and the region commands. -/
def State.wrDir (s : State) (off : Nat) (w : Word64) : Option State :=
  if isAt REG_CMD_CTL off then some (s.wrCmd REG_CMD_CTL REG_CMD_CTL_BUSY REG_CMD_CTL_OPCODE w.toNat
    [execRegionCreate, execRegionDestroy, execSetHold, execRegionQuery, execAddVersion, execRemoveVersion, execClearReaders]
    fun s => s.regRefuse 7)
  else if isAt DIR_PROBE_ADDR off then some (after (execDirProbeAddrWrite w s) s)
  else if 0x400100 ≤ off ∧ off < 0x400300 then some (after (execDirAgentMapWrite ((off - 0x400100) / 8) w s) s)
  else none

/-- Translation and extents. -/
def State.wrXlt (s : State) (off v : Nat) : Option State :=
  if isAt XLT_CMD_CTL off then some (s.wrCmd XLT_CMD_CTL XLT_CMD_CTL_BUSY XLT_CMD_CTL_OPCODE v
    [execCtxCreate, execCtxDestroy, execXltMap, execUnmap, execProtect, execRemap, execWindowAdd, execWindowRemove,
     execXltQuery, execCntClear] fun s => s.xltEnd stPermission 9)
  else if isAt XLT_HOT_POP off then some (if XLT_HOT_POP_POP.of v = 1 then after (execXltHotPop s) s else s)
  else if isAt EXT_CFG off then
    let node := !s.flag EXT_CFG_ENABLE
    let s := s.wrFields [EXT_CFG_TERM_MAX_MS, EXT_CFG_GRACE_MS, EXT_CFG_ENABLE] v
    let s := if node then s.put EXT_CFG_NODE_ID (EXT_CFG_NODE_ID.of v) else s
    let d := EXT_CFG_DEFAULT_TERM_MS.of v
    some (if 100 ≤ d ∧ d ≤ s.get EXT_CFG_TERM_MAX_MS then s.put EXT_CFG_DEFAULT_TERM_MS d else s)
  else if isAt EXT_CMD_CTL off then some (s.wrCmd EXT_CMD_CTL EXT_CMD_CTL_BUSY EXT_CMD_CTL_OPCODE v
    [execExtCreate, execRevoke, execSetHolder, execSetRights, execExtQuery] fun s => s.extRefuse 6)
  else if isAt EXT_EVENT off then
    let s := s.wrFields EXT_EVENT v
    some (if overcommitted s then s.raise EXT_EVENT_OVERCOMMIT else s)
  else none

/-- Engines. -/
def State.wrEng (s : State) (off v : Nat) : Option State :=
  let e := (off - 0x600000) / 0x1000
  if isAt (ENG_CTL e) off then
    let s := (s.wrFields (ENG_CTL e) v).showOffline e
    some (if (ENG_CTL_STOP e).of v = 1 then after (execEngStop e s) s else s)
  else none

/-- Channels (R168). -/
def State.wrChn (s : State) (off v : Nat) : Option State :=
  if isAt CHN_CMD off then some (s.wrCmd CHN_CMD CHN_CMD_BUSY CHN_CMD_OPCODE v
    [execChnCreate, execChnDestroy, execChnQuery, execChnEnable, execChnReset, execChnResume, execSetSched]
    fun s => s.chnEnd stPermission 6)
  else none

/-- The switch enabled again: it counts its PSNs from 0 and holds no record of any source (R279, R281). -/
def State.fabEnabled (s : State) : State :=
  { s with fab := { s.fab with
    psn := []
    expect := []
    incs := []
    held := []
    skipped := []
    adopt := false
    enabledAt := s.now } }

/-- The switch (R293). -/
def State.wrFab (s : State) (off : Nat) (w : Word64) : Option State :=
  let v := w.toNat
  if isAt FAB_CFG off then
    let on := s.flag FAB_CFG_ENABLE
    let s := s.wrFields ([FAB_CFG_PUSH_HOLD, FAB_CFG_TX_EPOCH, FAB_CFG_ENABLE] ++
      (if on then [] else [FAB_CFG_INCARN, FAB_CFG_SELF_AGENT, FAB_CFG_HOP_LIMIT])) v
    some (if !on && s.flag FAB_CFG_ENABLE then s.fabEnabled else s)
  else if isAt FAB_TIMERS off then some (s.wrIf FAB_TIMERS v fun t =>
    t.get FAB_TIMERS_RETRY_US * (t.get FAB_TIMERS_RETRY_MAX + 1) < t.get FAB_TIMERS_REORDER_US)
  else if isAt FAB_RT_DATA off then some (after (execFabRtDataWrite w s) s)
  else if isAt FAB_GRP_CMD off then some (s.wrCmd FAB_GRP_CMD FAB_GRP_CMD_BUSY FAB_GRP_CMD_OPCODE v
    [execGrpCreate, execGrpDestroy, execGrpQuery] fun s => s.put FAB_GRP_CMD_STATUS stPermission)
  else none

/-- The links (R270). -/
def State.wrLnk (s : State) (off v : Nat) : Option State :=
  let p := (off - 0x900000) / 0x400
  if isAt (LNK_CTL p) off then
    let s := s.wrFields ((LNK_CTL p).filter fun f => f ≠ LNK_CTL_ENABLE p) v
    some (after (execLnkEnable p ((LNK_CTL_ENABLE p).of v == 1) s) s)
  else if isAt (LNK_TIMERS p) off then some (s.wrIf (LNK_TIMERS p) v fun t =>
    10 * t.get (LNK_TIMERS_ACK_TMO_10NS p) + 1000 ≤ 100 * t.get (LNK_TIMERS_REPLAY_TMO_100NS p))
  else if isAt (LNK_CREDIT p) off then some (s.wrIf (LNK_CREDIT p) v fun t =>
    let l := (LNK_CREDIT p).map t.get
    l.sum ≤ 1568 && l.all fun n => 5 ≤ n)
  else if isAt (LNK_CMD p) off then some (s.wrCmd (LNK_CMD p) (LNK_CMD_BUSY p) (LNK_CMD_OPCODE p) v [execLnkReset p, execLnkDown p]
    fun s => s.endCmd (LNK_CMD_STATUS p) (LNK_CMD_DETAIL p) stPermission 3)
  else none

/-- Whether a policer's parameters may stand (R305, R306). -/
def policerOk (u : Nat) (chan : Bool) (s : State) : Bool :=
  !(s.get (POLA_ALGO u) == 2 && decide (s.get (POLB_PIR u) < s.get (POLA_CIR u))) &&
  !(chan && s.get (POLA_RED_ACT u) == 1 && decide (s.get (POLA_CBS u) < 69632))

/-- What QOS_TMAP stores of eight bytes written: bit 6 of each is reserved and reads 0 (R7). -/
def tmapKept (v : Nat) : Nat := (List.range 8).foldl (fun n i => setBits n (8 * i + 6) (8 * i + 6) 0) v

/-- Scheduling (R305 to R310). -/
def State.wrQos (s : State) (off : Nat) (w : Word64) : Option State :=
  let v := w.toNat
  let c := chBank (s.get QOS_CH_SEL_CHANNEL)
  let t := tpBank (s.get QOS_TP_SEL_POLICER)
  let p := s.get QOS_PORT_SEL_PORT
  let legal := (POLA_ALGO c).of v ≤ 2 && (POLA_RED_ACT c).of v ≤ 1
  if off = 0xa00028 then some (if legal then s.wrIf (POLA c) v (policerOk c true) else s)
  else if off = 0xa00030 then some (s.wrIf (POLB c) v (policerOk c true))
  else if off = 0xa00058 then some (if legal then s.wrIf (POLA t) v (policerOk t false) else s)
  else if off = 0xa00060 then some (s.wrIf (POLB t) v (policerOk t false))
  else if off = 0xa00090 ∧ 72 ≤ p then some s
  else if off = 0xa000a0 then some (s.wrIf (QOS_PORT_DEFER p) v fun t =>
    t.get (QOS_PORT_DEFER_RED_DEFER p) ≤ t.get (QOS_PORT_DEFER_YELLOW_DEFER p) ||
    t.get (QOS_PORT_DEFER_RED_DEFER p) == 0 || t.get (QOS_PORT_DEFER_YELLOW_DEFER p) == 0)
  else if 0xa00400 ≤ off ∧ off < 0xa00800 then some (s.put (QOS_TMAP_MAP ((off - 0xa00400) / 8)) (tmapKept v))
  else if isAt QOS_HIST_SEL off then some (after (execQosHistSelWrite w s) s)
  else none

/-- Tenants (R331). -/
def State.wrSec (s : State) (off : Nat) (w : Word64) : Option State :=
  if isAt SEC_CMD_CTL off then some (s.wrCmd SEC_CMD_CTL SEC_CMD_CTL_BUSY SEC_CMD_CTL_OPCODE w.toNat
    [execTenantCreate, execLoadKey, execGenKey, execTenantReset, execTenantFence, execSecErase, execSecUnseal, execSvnCommit]
    fun s => s.secRefuse 7)
  else if isAt SEC_AGENT_DATA off then some (after (execSecAgentDataWrite w s) s)
  else none

/-- A FORM command that waits for the pair node and the witness, with BUSY 1 (R333). -/
def State.formWaits (op : Nat) (s : State) : Host.Outcome State Fault Refusal :=
  .next ((s.put MIR_CMD_BUSY 1).modMir fun m => { m with forming := op })

/-- MIR_OWNn of the selected slot written. -/
def State.wrOwn (s : State) (n : Nat) (fs : List Fld) (v : Nat) : State :=
  let x := fs.foldl (fun a f => if f.acc = .rw then a + f.of v * 2 ^ f.lo else a) 0
  let k := 4 * s.get MIR_OWN_SEL_SLOT + n
  s.modMir fun m => { m with staged := if x = 0 then NMap.erase m.staged k else NMap.insert m.staged k x }

/-- The mirror unit (R352). -/
def State.wrMir (s : State) (off v : Nat) : Option State :=
  if isAt MIR_CFG off then some (if mirSt s = mirNone then s.wrFields MIR_CFG v else s)
  else if isAt MIR_TIMERS off then some (if mirSt s ≠ mirNone then s else s.wrIf MIR_TIMERS v fun t =>
    t.get MIR_TIMERS_FENCE_MS + 2 ≤ t.get MIR_TIMERS_LEASE_MS && 2 * t.get MIR_TIMERS_RENEW_MS ≤ t.get MIR_TIMERS_FENCE_MS &&
    t.get MIR_TIMERS_RENEW_MS < t.get MIR_TIMERS_DETECT_MS)
  else if isAt MIR_CMD off then some (s.wrCmd MIR_CMD MIR_CMD_BUSY MIR_CMD_OPCODE v
    [State.formWaits 1, State.formWaits 2, execMirBreak, execRecoverDone, execOwnBind, execOwnRelease, execOwnClaim, execOwnUnbind]
    fun s => s.mirRefuse 4)
  else if isAt MIR_OWN0 off then some (s.wrOwn 0 MIR_OWN0 v)
  else if isAt MIR_OWN1 off then some (s.wrOwn 1 MIR_OWN1 v)
  else if isAt MIR_OWN2 off then some (s.wrOwn 2 MIR_OWN2 v)
  else if isAt MIR_OWN3 off then some (s.wrOwn 3 MIR_OWN3 v)
  else none

/-- Errors, trace and snapshot (R368, R381). -/
def State.wrErr (s : State) (off : Nat) (w : Word64) : Option State :=
  let v := w.toNat
  if isAt ERR_VIEW_SEL off then some (after (execErrViewSelWrite w s) s)
  else if isAt ERR_MOR_CTL off then some (s.morCtl v)
  else if isAt DBG_TCFG off then some (after (execDbgTcfgModeWrite w s) s)
  else if isAt DBG_TWIN off then some (s.wrIf DBG_TWIN v fun t => t.get DBG_TWIN_PRE + t.get DBG_TWIN_POST + 2 ≤ traceCap t)
  else if isAt DBG_SNAP_CTL off then
    let s := s.wrFields DBG_SNAP_CTL v
    some (if DBG_SNAP_CTL_TAKE.of v = 1 then after (execSnapshotTake s) s else s)
  else if isAt DBG_CNT_SEL off then
    let s := s.wrFields DBG_CNT_SEL v
    some (if DBG_CNT_SEL_SNAP.of v = 1 then after (execDbgCntSnap s) s else s)
  else none

/-- The management complex (R411); KICK and BOOT_OK are the firmware's own (Table 22.4). -/
def State.wrMgt (s : State) (w : Who) (off : Nat) (x : Word64) : Option State :=
  let v := x.toNat
  if isAt MGT_CFG off then
    let old := (s.flag MGT_CFG_REPORT_EN, s.get MGT_CFG_REPORT_S)
    let s := s.wrFields MGT_CFG v
    let fresh := s.flag MGT_CFG_REPORT_EN && (!old.1 || old.2 != s.get MGT_CFG_REPORT_S)
    some (if fresh then s.modMgt fun m => { m with reported := s.now } else s)
  else if isAt MGT_NOTIFY off then some (after (execMgtNotifyWrite x s) s)
  else if isAt MGT_WDOG off then
    let s := s.wrFields MGT_WDOG v
    some (if isDevice w ∧ MGT_WDOG_KICK.of v = 1 then after (execMgtKick s) s else s)
  else if isAt MGT_FW off then
    let s := s.wrFields MGT_FW v
    some (if isDevice w ∧ MGT_FW_BOOT_OK.of v = 1 then after (execBootOk s) s else s)
  else if isAt MGT_CMD off then some (if MGT_CMD_RESTART.of v = 1 then after (execMgtRestart s) s else s)
  else if isAt MGT_UPD_CTL off then
    let s := s.wrFields MGT_UPD_CTL v
    some (if MGT_UPD_CTL_APPLY.of v = 1 then after (execMgtApply s) s else s)
  else if off = 0xf00050 then some (after (execCalUserWrite x s) s)
  else if off = 0xf00060 then some (after (execMeterBind (s.get MGT_METER_SEL_SLOT) x s) s)
  else none

/-- The rack-admin registers (R418, R420): the hash and its lock, and a session's own copies. -/
def State.wrGlb (s : State) (w : Who) (off : Nat) (v : Nat) (fs : List Fld) : State :=
  if off < 0x70 then (if s.flag GLB_ADMIN_CTL_LOCK then s else s.wrFields fs v)
  else match sessOf s w with
    | none => s
    | some (n, c) =>
      if isAt GLB_AUTH_CTL off then (if GLB_AUTH_CTL_PROVE.of v = 1 then after (execAuthProve n s) s else s)
      else if off < 0x90 then s
      else
        let c := if off < 0xd0 then { c with key := NMap.insert c.key ((off - 0x90) / 8) v }
          else { c with sig := NMap.insert c.sig ((off - 0xd0) / 8) v }
        s.modSec fun x => { x with sess := NMap.insert x.sess n c }

/-- A tenant window (Table 22.2); a LEASE_RENEW of an agent is `busWrite`'s own. -/
def State.wrWindow (s : State) (who : Who) (off : Nat) (x : Word64) (fs : List Fld) : State :=
  let v := x.toNat
  let a := match who with
    | .agent a => a
    | .path _ => 0
  let w := windowOf off
  if isAt (TEN_CTL w) off then (if (TEN_CTL_RESET w).of v = 1 then after (execTenCtlReset w s) s else s)
  else if isAt (TEN_CNT_CTL w) off then (if (TEN_CNT_CTL_SNAP w).of v = 1 then after (execTenCntSnap w s) s else s)
  else if isAt (CHN_TCTL w) off then
    let c := (CHN_TCTL_CHANNEL w).of v
    match (CHN_TCTL_OP w).of v with
    | 1 => after (execTctlEnable w c a s) s
    | 2 => after (execTctlReset w c a s) s
    | 3 => after (execTctlResume w c a s) s
    | _ => s
  else if 0x8008000 + 0x10000 * w ≤ off then after (execDoorbell w ((off - 0x8008000 - 0x10000 * w) / 8) a x s) s
  else s.wrFields fs v

/-- The operand registers that a running command's BUSY holds. -/
def heldByCmd (s : State) (off : Nat) : Bool :=
  let on := fun (lo hi : Nat) (f : Fld) => lo ≤ off && off ≤ hi && s.flag f
  on 0x300038 0x300040 PLC_CMD_CTL_BUSY || on 0x400018 0x400020 REG_CMD_CTL_BUSY || on 0x500018 0x500030 XLT_CMD_CTL_BUSY ||
  on 0x580010 0x580020 EXT_CMD_CTL_BUSY || on 0x700080 0x7000f8 CHN_CMD_BUSY || on 0x800068 0x8000a0 FAB_GRP_CMD_BUSY ||
  on 0xb00020 0xb00030 SEC_CMD_CTL_BUSY || on 0xc00050 0xc00068 MIR_CMD_BUSY

/-- What a performed write does to the register at an offset. -/
def State.wrReg (s : State) (w : Who) (off : Nat) (x : Word64) (fs : List Fld) : State :=
  let v := x.toNat
  if off < 0x10000 then s.wrGlb w off v fs
  else if 0x8000000 ≤ off then s.wrWindow w off x fs
  else if heldByCmd s off then s
  else
    let o := if off < 0x100000 then s.wrClk off v
      else if off < 0x300000 then s.wrMem off v
      else if off < 0x400000 then s.wrPlc off v
      else if off < 0x500000 then s.wrDir off x
      else if off < 0x600000 then s.wrXlt off v
      else if off < 0x700000 then s.wrEng off v
      else if off < 0x800000 then s.wrChn off v
      else if off < 0x900000 then s.wrFab off x
      else if off < 0xa00000 then s.wrLnk off v
      else if off < 0xb00000 then s.wrQos off x
      else if off < 0xc00000 then s.wrSec off x
      else if off < 0xd00000 then s.wrMir off v
      else if off < 0xf00000 then s.wrErr off x
      else s.wrMgt w off x
    o.getD (s.wrFields fs v)

/-- A write of control space: its status, and what it changes. -/
def busWrite (s : State) (w : Who) (off : Nat) (x : Word64) : Nat × State :=
  if ¬ reaches s w off true then (stPermission, s)
  else match fieldsAt s off with
    | none => (stOK, s)
    | some fs =>
      match w with
      | .agent a =>
        if isAt (LEASE_RENEW (windowOf off)) off then s.renew a ((LEASE_RENEW_TERM_MS (windowOf off)).of x.toNat)
        else (stOK, s.wrReg w off x fs)
      | .path _ => (stOK, s.wrReg w off x fs)

/-! Register writes and the mailbox (R403, R419, R391). -/

/-- Whether the node is in Deep: the NoC and controllers' domain has stopped. -/
def deep (s : State) : Bool := (NMap.find s.dbg.stopped 1).isSome

/-- The blocks that stay reachable in Deep (R391). -/
def awakeBlock (off : Nat) : Bool := 0x10000 ≤ off && off < 0x40000

/-- An access that must wait for the node to wake: it is itself the wake event (R391). -/
def State.waitWake (s : State) (x : Waiting) : State := (s.wake 6).modMgt fun m => { m with waits := m.waits ++ [x] }

/-- REGISTER_WRITE: a write on a path of Table 22.3. Mailbox paths stand still while the complex restarts (R399). -/
def execRegisterWrite (p : Path) (off : Nat) (v : Word64) (s : State) : Host.Outcome State Fault Refusal :=
  if p ≠ .device ∧ ¬ mgtUp s then .next s
  else if deep s && !awakeBlock off then .next (s.waitWake (.write p off v))
  else .next (busWrite s (.path p) off v).2

/-- The path that a mailbox request arrives on. -/
def mboxPath (r : MboxReq) : Path := match r.sess with
  | some n => .session n
  | none => .plain

/-- One operation: what the response returns for it, and what it changes. -/
def mboxOp (p : Path) (s : State) (o : MboxOp) : List Byte × State :=
  let (st, d, t) := if o.write then
      let (st, t) := busWrite s (.path p) o.off o.data
      (st, o.data.toNat, t)
    else busRead s (.path p) o.off
  (natLe 4 o.off ++ natLe 4 (b2n o.write + 256 * st) ++ natLe 8 d, t)

/-- The operations in order. -/
def mboxOps (p : Path) : List MboxOp → State → List Byte × State
  | [], s => ([], s)
  | o :: l, s =>
    let (a, s) := mboxOp p s o
    let (b, s) := mboxOps p l s
    (a ++ b, s)

/-- Whether a stored response answers a request: same requester, session and TAG within 1 s. -/
def MboxKept.answers (s : State) (r : MboxReq) (k : MboxKept) : Bool :=
  k.agent == r.via.map Pkt.src && k.sess == r.sess && k.tag == r.tag && s.now < k.time + 1000000000

/-- The response sent where the request came from, sealed in its session. -/
def State.mboxAnswer (s : State) (r : MboxReq) (b : List Byte) : State :=
  match r.sess with
  | none => s.mgtAnswer r.via 0x02 b
  | some n => s.mgtAnswer r.via 0x06 (Config.sessionSeal n true b)

/-- A request performed and its response kept (R403). -/
def State.mboxRun (s : State) (r : MboxReq) : State :=
  let (b, s) := mboxOps (mboxPath r) r.ops s
  let b := natLe 4 r.tag ++ natLe 1 r.ops.length ++ natLe 3 0 ++ b
  let k : MboxKept := ⟨r.via.map Pkt.src, r.sess, r.tag, s.now, b⟩
  let s := s.modMgt fun m => { m with
    kept := k :: m.kept.filter fun y => !(y.agent == k.agent && y.sess == k.sess && y.tag == k.tag) && s.now < y.time + 1000000000 }
  let s := match r.sess with
    | some n => s.modSec fun x => { x with sess := NMap.adjust x.sess n fun c => { c with heard := s.now } }
    | none => s
  s.mboxAnswer r b

/-- MBOX_REQ (R403, R419). -/
def execMboxReq (r : MboxReq) (s : State) : Host.Outcome State Fault Refusal :=
  let up := r.sess.all fun n => (NMap.find s.sec.sess n).any Session.up
  if ¬ mgtUp s ∨ ¬ up ∨ r.ops.length = 0 ∨ 60 < r.ops.length then .next s
  else match s.mgt.kept.find? (MboxKept.answers s r) with
    | some k => .next (s.mboxAnswer r k.resp)
    | none =>
      if deep s && r.ops.any fun o => !awakeBlock o.off then .next (s.waitWake (.mbox r)) else .next (s.mboxRun r)

/-- An access that waited for the wake is made. -/
def State.runWaiting (s : State) (x : Waiting) : State :=
  match x with
  | .mbox r => after (execMboxReq r s) s
  | .write p off v => after (execRegisterWrite p off v s) s

/-- WAKE_DONE (R391, R393): the node is in Run again, and what waited for it goes on. -/
def execWakeDone (s : State) : Host.Outcome State Fault Refusal :=
  if pwrSt s ≠ pwWaking then .next s
  else
    let l := s.mgt.waits
    .next (l.foldl State.runWaiting (s.wakeDone.modMgt fun m => { m with waits := [] }))

/-! CTL packets (R313, R422). -/

/-- The control-space offset of a CTL packet, where R422's address check passes. -/
def ctlOff (s : State) (p : Pkt) : Option Nat :=
  let off := p.addr % 2 ^ 32
  if rpaNode p.addr = s.node ∧ bits p.addr 49 32 = 0 ∧ off % 8 = 0 ∧ 0x8000000 ≤ off ∧ off ≤ 0x83ffff8 then some off else none

/-- The checks of R422 in their order. -/
def ctlGate (s : State) (p : Pkt) : Gate :=
  if shut s then .drop
  else if headerBad p then .refuse stPermission
  else firstGate [serviceGate s p, if (ctlOff s p).isSome then .pass else .refuse stPermission, agentGate s p,
    if slotOfAgent s p.src = (ctlOff s p).map windowOf then .pass else .refuse stPermission]

/-- CTL_RD; a duplicate (`dup`) clears nothing. -/
def State.doCtlRd (p : Pkt) (dup : Bool) (s : State) : State :=
  match ctlGate s p, ctlOff s p with
  | .pass, some off =>
    let (st, v, t) := busRead s (.agent p.src) off
    (if dup then s else t).send { replyTo s p 0x32 st with
      len := 8
      payload := natLe 8 v }
  | .pass, none => s
  | g, _ => s.gateFail p g

def execCtlRd (_port : Nat) (p : Pkt) (s : State) : Host.Outcome State Fault Refusal := .next (s.doCtlRd p false)

/-- CTL_WR: the status of its first delivery is kept for duplicates (R282). -/
def execCtlWr (_port : Nat) (p : Pkt) (s : State) : Host.Outcome State Fault Refusal :=
  match ctlGate s p, ctlOff s p with
  | .pass, some off =>
    let (st, t) := busWrite s (.agent p.src) off (BitVec.ofNat 64 (leNat (slice p.payload 0 8)))
    .next (t.answerWrite p st)
  | .pass, none => .next s
  | .refuse st, _ => .next (s.gateFail p (.refuse st))
  | .drop, _ => .next (s.gateFail p .drop)

end Sys2Proof.Machine
end

