-- ==== Sys2Proof/Machine/Deliver.lean ====
section
/-! DEFINITION. The output side of the switch: selection at an output port (R297, R299), and what a packet meets at an internal
port: incarnations, reordering, duplicates and dispatch by opcode (R274, R280 to R283); atomics and management packets. -/

namespace Sys2Proof.Machine

open Reg

/-- ATOMIC (R361). The reorder state counts as young within 200 µs of the switch's enable. -/
def freshSwitch (s : State) : Bool := s.now < s.fab.enabledAt + 200000

def execAtomic (port : Nat) (p : Pkt) (s : State) : Host.Outcome State Fault Refusal :=
  if p.opcode = 0x08 then .next (s.doAtomic port p false (freshSwitch s)) else .next s

/-! Management packets (R322, R339, R401). -/

/-- The operations of a mailbox payload. -/
def mboxOpsOf : Nat → List Byte → List MboxOp
  | 0, _ => []
  | n + 1, l =>
    ⟨leNat (slice l 0 4), bit (leNat (slice l 4 4)) 0, BitVec.ofNat 64 (leNat (slice l 8 8))⟩ :: mboxOpsOf n (l.drop 16)

/-- The mailbox request that an MBOX_REQ payload spells (R403). -/
def mboxOf (via : Option Pkt) (sess : Option Nat) (l : List Byte) : Option MboxReq :=
  let n := leNat (slice l 4 1)
  if 1 ≤ n ∧ n ≤ 60 ∧ l.length = 8 + 16 * n then some ⟨via, sess, leNat (slice l 0 4), mboxOpsOf n (l.drop 8)⟩ else none

/-- An SPDM request by its code (Table 16.4); any other is answered by the responder alone. -/
def State.spdmIn (s : State) (m : SpdmIn) : State :=
  let c := spdmCode m
  let f : State → Host.Outcome State Fault Refusal :=
    if c = 0x84 then execGetVersion m else if c = 0xe1 then execGetCapabilities m
    else if c = 0xe3 then execNegotiateAlgorithms m else if c = 0x81 then execGetDigests m
    else if c = 0x82 then execGetCertificate m else if c = 0x83 then execSpdmChallenge m
    else if c = 0xe0 then execGetMeasurements m else if c = 0xe4 then execKeyExchange m
    else if c = 0xe5 then execSpdmFinish m else if c = 0xe8 then execSpdmHeartbeat m
    else if c = 0xe9 then execKeyUpdate m else if c = 0xec then execEndSession m
    else fun s => .next (s.spdmAnswer m)
  after (f s) s

/-- SPDM bytes, secured or plain (R322, R419): application data of a session is a mailbox request. -/
def State.spdmBytes (s : State) (p : Pkt) (b : List Byte) : State :=
  match Config.sessionOpen b with
  | some (n, true, plain) => match mboxOf (some p) (some n) plain with
    | some r => after (execMboxReq r s) s
    | none => s
  | some (n, false, plain) => s.spdmIn ⟨some p, some n, plain⟩
  | none => s.spdmIn ⟨some p, none, b⟩

/-- A management frame (Table 21.2); BOOT_DATA and OWNER come on the management port only. -/
def State.mgtFrameIn (s : State) (p : Pkt) : State :=
  let kind := leNat (slice p.payload 1 1)
  let b := slice p.payload 16 (leNat (slice p.payload 2 2))
  if kind = 1 then
    match mboxOf (some p) none b with
    | some r => after (execMboxReq r s) s
    | none => s
  else if kind = 6 then s.spdmBytes p b
  else s

/-- PURGE and its acknowledgement, in this model's form (log entry 25). -/
def State.purgeIn (s : State) (p : Pkt) : State :=
  if p.tenEpoch = 0 ∧ (NMap.find s.sec.purges p.tenant).any fun g => g.waits.contains (rpaNode p.addr) then after (execPurgeAck p s) s
  else after (execSecPurge p s) s

/-- A MGMT packet by its first byte. -/
def State.mgmtIn (s : State) (p : Pkt) : State :=
  if p.opcode ≠ 0x38 then s
  else if headerBad p then s.gateFail p (.refuse stPermission)
  else
    let b := leNat (p.payload.take 1)
    if b = 0xe7 then s.pairIn p p.payload
    else if b = 0xe2 then s.mgtFrameIn p
    else if p.payload = [0#8] then s.purgeIn p
    else s.spdmBytes p p.payload

/-- MGMT. -/
def execMgmtPkt (_port : Nat) (p : Pkt) (s : State) : Host.Outcome State Fault Refusal := .next (s.mgmtIn p)

/-! Delivery at an internal port. -/

/-- A request delivered in sequence (R274). `young` is step 4 of Table 18.5. -/
def State.dispatch (s : State) (port : Nat) (p : Pkt) (young : Bool) : State :=
  let op := p.opcode
  let f : State → Host.Outcome State Fault Refusal :=
    if headerBad p ∧ ¬ (0x50 ≤ op ∧ op ≤ 0x54) then fun s => .next (s.gateFail p (.refuse stPermission))
    else if op = 0x01 then execRd port p else if op = 0x02 then execWr port p
    else if op = 0x08 then fun s => .next (s.doAtomic port p false young)
    else if op = 0x10 then execRedContrib port p else if op = 0x12 then execGathContrib port p
    else if op = 0x20 then execPlRd port p else if op = 0x21 then execPlWr port p
    else if op = 0x28 then fun s => .next (match fabricGate s p with
      | .pass => s.answerWrite p stPermission
      | g => s.gateFail p g)
    else if op = 0x30 then execCtlRd port p else if op = 0x31 then execCtlWr port p
    else if op = 0x38 then execMgmtPkt port p
    else if op = 0x40 then execLoadCopy port p else if op = 0x41 then execLoadOwn port p
    else if op = 0x42 then execClaim port p else if op = 0x43 then execPeek port p
    else if op = 0x44 then execPutLine port p else if op = 0x45 then execPutMasked port p
    else if op = 0x46 then execDropClean port p else if op = 0x47 then execDropDirty port p
    else if 0x50 ≤ op ∧ op ≤ 0x54 then execInboundSnoop port p
    else if op = 0x70 then execWrposted port p else if op = 0x71 then execFlushreq port p
    else
      let v := Config.verName (pktHeader p)
      if op = 0x72 then execVeracquire port p v.1 else if op = 0x73 then execVerrelease port p v.1 v.2
      else fun s => .next (s.gateFail p (.refuse stPermission))
  after (f s) s

/-- A packet of the reply network (R274, R52): a reserved one, and one that this node asks nobody for, is discarded. -/
def State.replyIn (s : State) (p : Pkt) : State :=
  let op := p.opcode
  let f : State → Host.Outcome State Fault Refusal :=
    if headerBad p then fun s => .next (s.count FAB_CNT0_HDR_BAD 1)
    else if op = 0x03 then execRdData p else if op = 0x04 then execWrAck p else if op = 0x09 then execAtomicRsp p
    else if op = 0x0e then execFabDoubt p else if op = 0x11 then execRedResult p else if op = 0x13 then execGathAck p
    else if op = 0x22 then execPlData p else if op = 0x23 then execPlAck p else if op = 0x29 then execPushAck p
    else if op = 0x39 then fun s => .next (s.reply 0x39 p)
    else if op = 0x62 then execKillAck p else if op = 0x63 then execFwdAck p else if op = 0x64 then execFwdAckLine p
    else if op = 0x65 then execRetrieveLine p
    else fun s => .next s
  after (f s) s

/-- A duplicate of a delivered request (R282). -/
def State.duplicate (s : State) (port : Nat) (p : Pkt) : State :=
  let op := p.opcode
  let s := s.count FAB_CNT0_DUPLICATES 1
  if op = 0x01 then after (execRd port p s) s
  else if op = 0x20 then after (execPlRd port p s) s
  else if op = 0x30 then s.doCtlRd p true
  else if op = 0x08 then s.doAtomic port p true false
  else if op = 0x10 ∨ op = 0x12 then s.contribIn p
  else if op = 0x38 then
    if leNat (p.payload.take 1) = 0xe2 ∧ leNat (slice p.payload 1 1) = 1 then s.mgtFrameIn p else s
  else if requestRuns s p then { s with err := { s.err with waitDup := s.err.waitDup ++ [p] } }
  else s.replay p

/-- A packet of a skipped PSN (R283). -/
def State.skippedPkt (s : State) (p : Pkt) : State := s.answer p stAborted

/-- A source that has been enabled again (R281). -/
def State.srcRestart (s : State) (p : Pkt) : State :=
  let held := s.fab.held.filter fun q => q.pkt.src = p.src
  let s := held.foldl (fun (s : State) q => s.answer q.pkt stAborted) s
  let ks := range' (8 * p.src) 8
  { s with
    fab := { s.fab with
      held := s.fab.held.filter fun q => q.pkt.src ≠ p.src
      expect := ks.foldl (fun (m : NMap Nat) k => NMap.insert m k 0) s.fab.expect
      skipped := ks.foldl (fun (m : NMap (List Nat)) k => NMap.erase m k) s.fab.skipped
      first := NMap.erase s.fab.first p.src
      coh := NMap.erase s.fab.coh p.src
      incs := NMap.insert s.fab.incs p.src p.srcInc }
    dir := { s.dir with posted := ks.foldl (fun (m : NMap Posted) k => NMap.erase m k) s.dir.posted }
    err := { s.err with retention := NMap.erase s.err.retention p.src } }.raise FAB_EVENT_SRC_RESTART

/-- What a source expects next, or none where its first packet sets it (R344). -/
def expectOf (s : State) (p : Pkt) : Option Nat :=
  match NMap.find s.fab.expect (domKey p) with
  | some e => some e
  | none => if s.fab.adopt then none else some 0

def State.setExpect (s : State) (k e : Nat) : State :=
  { s with fab := { s.fab with
    expect := NMap.insert s.fab.expect k (e % 65536)
    skipped := NMap.adjust s.fab.skipped k fun (l : List Nat) => l.filter (· ≠ (e + 65535) % 65536) } }

/-- Held packets that follow in sequence are delivered (R280). -/
def State.drain : Nat → Nat → State → State
  | 0, _, s => s
  | n + 1, k, s =>
    let e := NMap.getD s.fab.expect k 0
    match s.fab.held.find? fun q => domKey q.pkt = k && q.pkt.psn = e with
    | none => s
    | some q =>
      let s := { s with fab := { s.fab with held := s.fab.held.erase q } }.setExpect k (e + 1)
      State.drain n k (s.dispatch q.port q.pkt (freshSwitch s))

/-- R280 for a packet of a recorded incarnation. -/
def State.reorder (s : State) (q : QPkt) : State :=
  let p := q.pkt
  let k := domKey p
  let e := (expectOf s p).getD p.psn
  let young := (expectOf s p).isNone || freshSwitch s
  let d := (p.psn + 65536 - e % 65536) % 65536
  if d = 0 then
    let n := s.fab.held.length
    State.drain n k ((s.setExpect k (e + 1)).dispatch q.port p young)
  else if d < 32768 then
    if s.fab.held.any fun h => domKey h.pkt = k && h.pkt.psn = p.psn then s.count FAB_CNT0_DUPLICATES 1
    else { s with fab := { s.fab with held := s.fab.held ++ [{ q with at_ := s.now }] } }
  else if (NMap.getD s.fab.skipped k []).contains p.psn then s.skippedPkt p
  else s.duplicate q.port p

/-- A packet delivered to an internal port (R281, R280; the reply network goes straight to its unit). -/
def State.arrive (s : State) (q : QPkt) : State :=
  let p := q.pkt
  if ¬ reqClass (pktClass p) then s.replyIn p
  else match NMap.find s.fab.incs p.src with
    | none => { s with fab := { s.fab with incs := NMap.insert s.fab.incs p.src p.srcInc } }.reorder q
    | some r =>
      let d := (p.srcInc + 65536 - r % 65536) % 65536
      if d = 0 then s.reorder q
      else if d < 32768 then (s.srcRestart p).reorder q
      else s.count FAB_CNT0_HDR_BAD 1

/-- Graupels in the reorder buffer. -/
def heldGraupels (s : State) : Nat := s.fab.held.foldl (fun n q => n + graupels q.pkt) 0

/-- Whether a packet is a request that a home slice of this node takes (R60). -/
def forSlice (s : State) (p : Pkt) : Bool :=
  rpaNode p.addr == s.node && ([0x01, 0x02, 0x08, 0x70].contains p.opcode || (0x40 ≤ p.opcode && p.opcode ≤ 0x47))

/-- Whether the internal ports have room for a packet (R280), and its home slice a tracker (R60). -/
def roomFor (s : State) (p : Pkt) : Bool :=
  !reqClass (pktClass p) || (!forSlice s p || inSlice s (homeTile s (rpaOff p.addr)) < 2048) && (heldGraupels s + 256 ≤ 8192 || (expectOf s p).all fun e => e % 65536 == p.psn)

/-- REORDER_SKIP (R283). -/
def execReorderSkip (src dom : Nat) (s : State) : Host.Outcome State Fault Refusal :=
  let k := 8 * src + dom
  let mine := s.fab.held.filter fun q => domKey q.pkt = k
  let e := NMap.getD s.fab.expect k 0
  let ahead := fun (q : QPkt) => (q.pkt.psn + 65536 - e) % 65536
  let late := mine.any fun q => q.at_ + 1000 * s.get FAB_TIMERS_REORDER_US ≤ s.now
  match mine with
  | [] => .next s
  | q :: l =>
    if 8 ≤ dom ∨ ¬ late then .next s
    else
      let gap := l.foldl (fun n x => min n (ahead x)) (ahead q)
      let lost := (List.range gap).map fun i => (e + i) % 65536
      let s := { s with fab := { s.fab with
        skipped := NMap.insert s.fab.skipped k (NMap.getD s.fab.skipped k [] ++ lost)
        expect := NMap.insert s.fab.expect k ((e + gap) % 65536) } }
      let s := (s.raise FAB_EVENT_REORDER_SKIP).notePosted k stAborted
      .next (State.drain mine.length k s)

/-! Selection (R297, R299). -/

/-- Whether a port may take a packet of a class now. -/
def portTakes (s : State) (port cls : Nat) (p : Pkt) : Bool :=
  movesNow s p &&
  if port < 72 then windowOk s port (graupels p) && creditsOk s port cls (graupels p) && !replaying s port else roomFor s p

/-- The packet that a class of a port would send: the first that is not deferred (R307) and, at an internal port, that
has room. -/
def headOf (s : State) (port cls : Nat) : Option QPkt :=
  (NMap.getD s.fab.outq (8 * port + cls) []).find? fun q => !deferredNow s port cls q.pkt && (port < 72 || roomFor s q.pkt)

/-- Whether a data class is backlogged (R299). -/
def clsBacklogged (s : State) (port cls : Nat) : Bool :=
  (headOf s port cls).any (fun q => portTakes s port cls q.pkt) && (72 ≤ port || eligible s (4096 + port))

/-- The weight of a class at a port. -/
def portWeight (s : State) (port cls : Nat) : Nat :=
  s.get (if cls = 0 then QOS_PORT_WT_VC0 port else if cls = 1 then QOS_PORT_WT_VC1 port
    else if cls = 2 then QOS_PORT_WT_VC2 port else QOS_PORT_WT_VC3 port)

/-- A packet leaves its queue: to the link, or to its tile. -/
def State.sendOut (s : State) (port cls : Nat) (q : QPkt) : State :=
  let k := 8 * port + cls
  let rest := (NMap.getD s.fab.outq k []).erase q
  let s := { s with fab := { s.fab with outq := if rest = [] then NMap.erase s.fab.outq k else NMap.insert s.fab.outq k rest } }
  if port < 72 then { s with fab := { s.fab with sel := NMap.insert s.fab.sel port q } } else (s.freeSlots q).arrive { q with slots := 0 }

/-- The queue key of a data class in the tag table. -/
def clsKey (port cls : Nat) : Nat := 4096 + 8 * port + cls

/-- LNK_EVENT.WINDOW_FULL where the replay window is what holds a class's packet back (R262). -/
def State.windowNote (s : State) (port cls : Nat) : State :=
  match headOf s port cls with
  | some q => if port < 72 ∧ ¬ windowOk s port (graupels q.pkt) then s.raise (LNK_EVENT_WINDOW_FULL port) else s
  | none => s

/-- The data classes by R297. -/
def State.selectData (s : State) (port : Nat) : State :=
  let s := (List.range 4).foldl (fun (s : State) c => s.backlog (4 + port) (clsKey port c) (clsBacklogged s port c)) s
  match smallest s (((List.range 4).filter fun c => clsBacklogged s port c).map (clsKey port)) with
  | none => s
  | some k =>
    let c := k - clsKey port 0
    match headOf s port c with
    | none => s
    | some q =>
      let cost := 256 * graupels q.pkt
      let s := s.serve (4 + port) k (cost * 4096) (portWeight s port c)
      (if port < 72 then s.spendTokens (4096 + port) cost else s).sendOut port c q

/-- Whether an internal port must wait for the node to wake (R390). -/
def asleep (s : State) : Bool := (NMap.find s.dbg.stopped 0).isSome

/-- PORT_SCHED_SELECT (R299): management first, MRSP before MREQ, then the data classes. A packet for this node's units is a
wake event in Sleep and waits (R390). -/
def execPortSchedSelect (port : Nat) (s : State) : Host.Outcome State Fault Refusal :=
  if shut s || (NMap.find s.dbg.stopped 2).isSome || 88 ≤ port ||
      (port < 72 && (!portUp s port || (NMap.find s.fab.sel port).isSome)) then .next s
  else
    let s := (List.range 6).foldl (fun (s : State) c => s.windowNote port c) s
    let mgmt := [5, 4].find? fun c => (headOf s port c).any fun q => portTakes s port c q.pkt
    match mgmt with
    | some c => match headOf s port c with
      | some q => .next (s.sendOut port c q)
      | none => .next s
    | none =>
      if 72 ≤ port ∧ asleep s then
        .next (if ((List.range 4).any fun c => clsBacklogged s port c) && wakeOn s 3 then s.wake 3 else s)
      else .next (s.selectData port)

end Sys2Proof.Machine
end

