-- ==== Sys2Proof/Machine/EngTensor.lean ====
section
/-! DEFINITION. Engine instructions on tiles and numbers: the dot unit (R176 to R178, R206, R207, R236, R237), accumulator
tiles (R238), special functions and softmax support (R239 to R241), format conversion (R242, R243). -/

namespace Sys2Proof.Machine

open Reg

/-! Sums in an order that the spec leaves open (R210; log entry 2). -/

/-- Values added two at a time, each sum rounded to FP32 (R202); the digits of `k` choose the pairs. -/
def sumFree : Nat → Nat → List FV → FV
  | 0, _, l => l.headD (.fin false 0 0)
  | n + 1, k, l =>
    match l with
    | [] => .fin false 0 0
    | [a] => a
    | _ =>
      let i := k % l.length
      let a := l.getD i .nan
      let l := l.eraseIdx i
      let k := k / (l.length + 1)
      let j := k % l.length
      let b := l.getD j .nan
      sumFree n (k / l.length) ((a.add b).r32 :: l.eraseIdx j)

/-- An exact sum. -/
def sumExact : List FV → FV
  | [] => .fin false 0 0
  | a :: l => l.foldl FV.add a

/-! Tiles (Table 8.1, R178). -/

def tileOf (x : Eng) (t : Nat) : ATile := NMap.getD x.t t ⟨false, []⟩

/-- The bits of element (r, c). -/
def ATile.get (t : ATile) (r c : Nat) : Nat := NMap.getD t.el (16 * r + c) 0
def ATile.set (t : ATile) (r c v : Nat) : ATile := { t with el := putReg t.el (16 * r + c) (v % 2 ^ 32) }

def Eng.setT (x : Eng) (n : Nat) (t : ATile) : Eng := { x with t := NMap.insert x.t n t }

/-- The accumulator index of R235. -/
def accIdx (x : Eng) (r acc : Nat) : Nat := (sreg x r + acc) % 128

/-! The dot unit. -/

/-- Elements of a dot-unit row or operand of a format (Table 8.2). -/
def rowLen (c : Nat) : Nat := if fmtBits c = 6 then 128 else 1024 / fmtBits c

/-- The products of a row and an operand, in order. -/
def products (fa fb row v : Nat) : List FV :=
  (List.range (rowLen fa)).map fun i =>
    (decodeAny fa (elemAt (fmtBits fa) row i)).mul (decodeAny fb (elemAt (fmtBits fb) v i))

/-- The power of two of a pair of block scales; none where one of them is NaN (R198, Table 9.3). -/
def scaleExp (fa fb sa sb : Nat) : Option Int :=
  if sa = 255 ∨ sb = 255 then none
  else some ((sa : Int) - 127 + ((sb : Int) - 127) + implicitExp fa + implicitExp fb)

/-- What one row adds to its tile element in an FP step: its block sums, scaled, or its rounded FP32 products (R206). -/
def dotTerms (fa fb row v : Nat) (scales : Option (List Nat × List Nat)) : List FV :=
  let ps := products fa fb row v
  if fa = 0 then ps.map FV.r32
  else (List.range (rowLen fa / 32)).map fun b =>
    let e := sumExact (slice ps (32 * b) 32)
    match scales with
    | none => e
    | some (ra, rb) => match scaleExp fa fb (ra.getD b 0) (rb.getD b 0) with
      | some k => e.scale k
      | none => .nan

/-- The integer dot product of a row (R207). -/
def dotInt (f row v : Nat) : Int :=
  ((List.range (rowLen f)).map fun i =>
    toInt (fmtBits f) (elemAt (fmtBits f) row i) * toInt (fmtBits f) (elemAt (fmtBits f) v i)).sum

/-- Table 8.3's MACs of a step. -/
def dotMacs (f : Nat) : Nat := 16 * rowLen f

/-- Fields of DOT and DOTS (Table 11.2). -/
def dotVs (w : Ins) : Nat := bits w.x 26 22
def dotVf (w : Ins) : Nat := bits w.x 21 18
def dotStride (w : Ins) : Nat := 128 * bits w.x 17 7
def dotAcc (w : Ins) : Nat := bits w.x 6 0

/-- Encodings R237 allows. -/
def dotLegal (scaled : Bool) (w : Ins) : Bool :=
  fmtOk w.f && fmtOk (dotVf w) && fmtBits w.f == fmtBits (dotVf w) && fmtInt w.f == fmtInt (dotVf w) && dotStride w != 0 &&
  (if scaled then fmtScalable w.f && fmtScalable (dotVf w) else w.d == 0 && dotVs w == 0)

/-- Addresses of the 16 rows. -/
def dotRows (x : Eng) (w : Ins) : List Nat := (List.range 16).map fun r => (sreg x w.a + r * dotStride w) % 2 ^ 64

/-- The fault of a step, with the store address it records (R232, R237). -/
def dotFault (x : Eng) (scaled : Bool) (w : Ins) : Option (Nat × Nat) :=
  let t := tileOf x (accIdx x w.b (dotAcc w) / 16)
  let int := fmtInt w.f && !scaled
  let rows := dotRows x w
  let sc := sreg x w.d
  let lines := if scaled then rows ++ [sc] else rows
  if t.int != int then some (ecIllegal, 0)
  else match lines.find? fun a => !inLocal a 128 with
  | some a => some (ecNeveRange, a)
  | none => match lines.find? fun a => a % 128 ≠ 0 with
    | some a => some (ecAlign, a)
    | none => match lines.find? fun a => bytesPoisoned x a 128 with
      | some a => some (ecPoison, a)
      | none => none

/-- One row of a step: the new value of tile element (r, c). -/
def State.dotRow (s : State) (e : Nat) (scaled : Bool) (w : Ins) (r : Nat) : State :=
  let x := engOf s e
  let idx := accIdx x w.b (dotAcc w)
  let t := tileOf x (idx / 16)
  let c := idx % 16
  let (row, s) := coreRead s e ((dotRows x w).getD r 0) 128
  let row := leNat row
  let v := vreg x w.rc
  let fb := dotVf w
  if t.int then s.setEng e (x.setT (idx / 16) (t.set r c ((toInt 32 (t.get r c) + dotInt w.f row v) % (2 ^ 32 : Int)).toNat))
  else
    let nb := rowLen w.f / 32
    let (line, s) := if scaled then coreRead s e (sreg x w.d + r * nb) nb else ([], s)
    let scales := if scaled then some (line.map BitVec.toNat, (natLe nb (sreg x (dotVs w))).map BitVec.toNat) else none
    let terms := decodeF 0 (t.get r c) :: dotTerms w.f fb row v scales
    let (k, s) := s.take
    let y := sumFree terms.length (Config.freeOrder k) terms
    s.setEng e (x.setT (idx / 16) (t.set r c (encodeF .rne 0 y)))

/-- DOT and DOTS. -/
def runDot (e op : Nat) (scaled : Bool) (w : Ins) (s : State) : Host.Outcome State Fault Refusal :=
  runI e 0x10 op w (dotLegal scaled w)
    (fun x s => match dotFault x scaled w with
      | some (c, a) => s.preciseFault e c a
      | none =>
        let s := (List.range 16).foldl (fun s r => s.dotRow e scaled w r) s
        (s.engCount e w.f (dotMacs w.f)).retireI e (x.pc + 1)) s

def execIDot (e : Nat) (w : Ins) (s : State) : Host.Outcome State Fault Refusal := runDot e 0 false w s
def execIDots (e : Nat) (w : Ins) (s : State) : Host.Outcome State Fault Refusal := runDot e 1 true w s

/-! Tile instructions (Table 11.3). -/

/-- TZERO. -/
def execITzero (e : Nat) (w : Ins) (s : State) : Host.Outcome State Fault Refusal :=
  runI e 0x11 0 w (w.f == 0 && w.d == 0 && w.a == 0 && w.b == 0 && w.rc == 0 && w.x < 512 && w.x % 256 != 0)
    (fun x s => s.retireWith e
      ((List.range 8).foldl (fun x t => if bit w.x t then x.setT t ⟨bit w.x 8, []⟩ else x) x)) s

/-- The tile elements that TRD and TWR move, in lane order: a column or a row, with PAIR the next one too. -/
def tileLanes (idx : Nat) (row pair : Bool) : List (Nat × Nat) :=
  let c := idx % 16
  (List.range (if pair then 32 else 16)).map fun i =>
    let k := c + i / 16
    if row then (k, i % 16) else (i % 16, k)

/-- TRD. -/
def execITrd (e : Nat) (w : Ins) (s : State) : Host.Outcome State Fault Refusal :=
  runI e 0x11 1 w (w.f == 0 && w.b == 0 && w.rc == 0 && w.x < 512)
    (fun x s =>
      let idx := accIdx x w.a (w.x % 128)
      let pair := bit w.x 7
      if pair && idx % 2 == 1 then s.preciseFault e ecIllegal 0
      else
        let t := tileOf x (idx / 16)
        s.retireWith e (x.setV w.d (packElems 32 ((tileLanes idx (bit w.x 8) pair).map fun p => t.get p.1 p.2)))) s

/-- TWR. -/
def execITwr (e : Nat) (w : Ins) (s : State) : Host.Outcome State Fault Refusal :=
  runI e 0x11 2 w (w.f == 0 && w.d == 0 && w.rc == 0 && w.x < 512)
    (fun x s =>
      let idx := accIdx x w.a (w.x % 128)
      let pair := bit w.x 7
      if pair && idx % 2 == 1 then s.preciseFault e ecIllegal 0
      else
        let ps := tileLanes idx (bit w.x 8) pair
        let t := (ps.zip (List.range ps.length)).foldl
          (fun (t : ATile) p => t.set p.1.1 p.1.2 (elemAt 32 (vreg x w.b) p.2)) (tileOf x (idx / 16))
        s.retireWith e (x.setT (idx / 16) t)) s

/-- TSCALE. -/
def execITscale (e : Nat) (w : Ins) (s : State) : Host.Outcome State Fault Refusal :=
  runI e 0x11 3 w (w.f == 0 && w.d == 0 && w.b == 0 && w.rc == 0 && w.x < 16)
    (fun x s =>
      let n := w.x % 8
      let t := tileOf x n
      if t.int then s.preciseFault e ecIllegal 0
      else
        let f := fun (t : ATile) (k : Nat) =>
          let r := k / 16
          let j := k % 16
          let m := elemAt 32 (vreg x w.a) (if bit w.x 3 then r else j)
          t.set r j (encodeF .rne 0 ((decodeF 0 (t.get r j)).mul (decodeF 0 m)))
        s.retireWith e (x.setT n ((List.range 256).foldl f t))) s

/-! Special functions and softmax support (Tables 11.4 and 11.5). -/

/-- An instruction whose 32 FP32 lanes come from `f`; `n` special-function results are counted. -/
def runLanes32 (e cls op : Nat) (w : Ins) (legal : Bool) (f : Eng → Nat → Nat) (s : State) :
    Host.Outcome State Fault Refusal :=
  runI e cls op w legal
    (fun x s => (s.engCount e 15 32).retireWith e (x.setV w.d (packElems 32 ((List.range 32).map (f x))))) s

/-- An SFU instruction. -/
def runSfu (e op : Nat) (f : Nat → Nat) (w : Ins) (s : State) : Host.Outcome State Fault Refusal :=
  runLanes32 e 0x12 op w (w.f == 0 && w.b == 0 && w.imm == 0) (fun x i => f (elemAt 32 (vreg x w.a) i)) s

def execIVexp (e : Nat) (w : Ins) (s : State) : Host.Outcome State Fault Refusal := runSfu e 0 expOf w s
def execIVexp2 (e : Nat) (w : Ins) (s : State) : Host.Outcome State Fault Refusal := runSfu e 1 exp2Of w s
def execIVrcp (e : Nat) (w : Ins) (s : State) : Host.Outcome State Fault Refusal := runSfu e 2 rcpOf w s

/-- A scalar operand taken as FP32 (R235). -/
def sfp (x : Eng) (n : Nat) : FV := decodeF 0 (sreg x n % 2 ^ 32)

/-- A reduction of lanes 0 to LAST with a scalar (R240). -/
def runReduce (e op : Nat) (w : Ins) (f : Nat → List FV → FV) (s : State) : Host.Outcome State Fault Refusal :=
  runI e 0x13 op w (w.f < 5 && w.rc == 0 && w.x < 256 && w.x < 1024 / fmtBits w.f)
    (fun x s =>
      let vs := (List.range (w.x + 1)).map fun i => decodeF w.f (laneA w x i)
      let (k, s) := s.take
      (s.engCount e (10 + w.f) (w.x + 1)).retireWith e
        (x.setS w.d (encodeF .rne 0 (f (Config.freeOrder k) (sfp x w.b :: vs))))) s

/-- Values folded from the first. -/
def fold1 (f : FV → FV → FV) : List FV → FV
  | [] => .nan
  | a :: l => l.foldl f a

def execIVrmax (e : Nat) (w : Ins) (s : State) : Host.Outcome State Fault Refusal :=
  runReduce e 0 w (fun _ l => fold1 FV.max l) s
def execIVrmin (e : Nat) (w : Ins) (s : State) : Host.Outcome State Fault Refusal :=
  runReduce e 1 w (fun _ l => fold1 FV.min l) s
def execIVrsum (e : Nat) (w : Ins) (s : State) : Host.Outcome State Fault Refusal :=
  runReduce e 2 w (fun k l => sumFree l.length k l) s

/-- exp(a − b) of R241 on FP32 encodings: the difference rounded first; 0 where b is −infinity. -/
def expDiff (a b : Nat) : Nat :=
  if decodeF 0 b = .inf true then 0
  else expOf (encodeF .rne 0 ((decodeF 0 a).add (decodeF 0 b).neg))

def execIVexps (e : Nat) (w : Ins) (s : State) : Host.Outcome State Fault Refusal :=
  runLanes32 e 0x13 3 w (w.f == 0 && w.imm == 0)
    (fun x i => expDiff (elemAt 32 (vreg x w.a) i) (sreg x w.b % 2 ^ 32)) s

def execISexps (e : Nat) (w : Ins) (s : State) : Host.Outcome State Fault Refusal :=
  runI e 0x13 4 w (w.f == 0 && w.imm == 0)
    (fun x s => (s.engCount e 15 1).retireWith e
      (x.setS w.d (expDiff (sreg x w.a % 2 ^ 32) (sreg x w.b % 2 ^ 32)))) s

def execISfma (e : Nat) (w : Ins) (s : State) : Host.Outcome State Fault Refusal :=
  runI e 0x13 5 w (w.f == 0 && w.x == 0)
    (fun x s => (s.engCount e 10 1).retireWith e
      (x.setS w.d (encodeF .rne 0 (((sfp x w.a).mul (sfp x w.b)).add (sfp x w.rc))))) s

/-! Format conversion (Table 11.6, R242, R243). -/

/-- Fields of CVT. -/
def cvtTo (w : Ins) : Nat := bits w.imm.toNat 26 23
def cvtPart (w : Ins) : Nat := bits w.imm.toNat 22 20
def cvtStoch (w : Ins) : Bool := bit w.imm.toNat 19
def cvtSscale (w : Ins) : Bool := bit w.imm.toNat 18
def cvtDscale (w : Ins) : Bool := bit w.imm.toNat 17
def cvtI32 (w : Ins) : Bool := bit w.imm.toNat 16

/-- Encodings R243 allows. -/
def cvtLegal (w : Ins) : Bool :=
  let t := cvtTo w
  let ns := rowLen w.f
  let nd := rowLen t
  let six := fun (c : Nat) => c = 5 ∨ c = 6
  fmtOk w.f && fmtOk t && w.imm.toNat % 65536 == 0 &&
  (if ns < nd then cvtPart w < nd / ns else cvtPart w < ns / nd) &&
  !(six w.f ∧ ns ≤ nd : Bool) && !(six t ∧ nd ≤ ns : Bool) &&
  (!cvtSscale w || (!cvtI32 w && fmtScalable w.f)) && (!cvtDscale w || fmtScalable t) &&
  (!cvtI32 w || (t == 0 && w.f == 0)) && !(cvtStoch w && t == 0) &&
  (cvtSscale w || w.b == 0) && (cvtDscale w || w.rc == 0)

/-- The source elements taken and the destination element where the first goes (R242). -/
def cvtRange (w : Ins) : Nat × Nat × Nat :=
  let ns := rowLen w.f
  let nd := rowLen (cvtTo w)
  if ns < nd then (0, ns, cvtPart w * ns) else (cvtPart w * nd, nd, 0)

/-- The source values (R243). -/
def cvtVals (x : Eng) (w : Ins) : List FV :=
  let (i0, n, _) := cvtRange w
  (range' i0 n).map fun j =>
    let el := elemAt (fmtBits w.f) (vreg x w.a) j
    if cvtI32 w then FV.ofInt (toInt 32 el)
    else if cvtSscale w then decodeScaled w.f el (sreg x w.b / 2 ^ (8 * (j / 32)) % 256)
    else decodeAny w.f el

/-- The scales of the destination blocks written, from their source values (R201). -/
def cvtScales (w : Ins) (vs : List FV) : List Nat :=
  (List.range (vs.length / 32)).map fun b => blockScale (cvtTo w) ((slice vs (32 * b) 32).map FV.r32)

/-- Encodings of a conversion's elements and the generator after it. -/
def cvtElems (x : Eng) (w : Ins) : List Nat × Nat :=
  let vs := cvtVals x w
  let sc := cvtScales w vs
  let enc := fun (r : Rnd) (p : FV) => encodeAny r (cvtTo w) p
  if cvtDscale w then
    let scaled := (vs.zip (List.range vs.length)).map fun p =>
      let k := sc.getD (p.2 / 32) 0
      if k = 255 then FV.fin false 0 0 else p.1.scale (127 - (k : Int) - implicitExp (cvtTo w))
    convertAll (cvtStoch w) enc x.rnd scaled
  else convertAll (cvtStoch w) enc x.rnd vs

/-- CVT. -/
def execICvt (e : Nat) (w : Ins) (s : State) : Host.Outcome State Fault Refusal :=
  runI e 0x14 0 w (cvtLegal w)
    (fun x s =>
      let t := cvtTo w
      let b := fmtBits t
      let (_, n, d0) := cvtRange w
      let plain := w.f = t ∧ ¬ cvtStoch w ∧ ¬ cvtSscale w ∧ ¬ cvtDscale w ∧ ¬ cvtI32 w
      let (els, g) := cvtElems x w
      let old := (List.range (rowLen t)).map (elemAt b (vreg x w.d))
      let all := old.take d0 ++ els ++ old.drop (d0 + n)
      let y := { x with rnd := g }.setV w.d (if plain then vreg x w.a else packElems b all)
      let sc := cvtScales w (cvtVals x w)
      let y := if cvtDscale w then
          y.setS w.rc ((sc.zip (List.range sc.length)).foldl
            (fun v p => setBits v (8 * (d0 / 32 + p.2) + 7) (8 * (d0 / 32 + p.2)) p.1) (sreg x w.rc))
        else y
      (s.engCount e 16 n).retireWith e y) s

end Sys2Proof.Machine
end

