-- ==== Sys2Proof/Machine/Dispatch.lean ====
section
/-! DEFINITION. What each command does: one arm per command, in the table's order. -/

namespace Sys2Proof.Machine

def exec (i : Instr) (s : State) : Host.Outcome State Fault Refusal :=
  match i with
  | .extCreate => Sys2Proof.Machine.execExtCreate s
  | .extRevoke => Sys2Proof.Machine.execRevoke s
  | .setHolder => Sys2Proof.Machine.execSetHolder s
  | .setRights => Sys2Proof.Machine.execSetRights s
  | .extQuery => Sys2Proof.Machine.execExtQuery s
  | .leaseRenew w src term => Sys2Proof.Machine.execLeaseRenew w src term s
  | .leaseLapsed agent => Sys2Proof.Machine.execLeaseLapsed agent s
  | .leaseExpired agent => Sys2Proof.Machine.execLeaseExpired agent s
  | .fenceGenerationBegin => Sys2Proof.Machine.execFenceGenerationBegin s
  | .fenceDone => Sys2Proof.Machine.execFenceDone s
  | .reclaimDone => Sys2Proof.Machine.execReclaimDone s
  | .rd port p => Sys2Proof.Machine.execRd port p s
  | .wr port p => Sys2Proof.Machine.execWr port p s
  | .wrposted port p => Sys2Proof.Machine.execWrposted port p s
  | .flushreq port p => Sys2Proof.Machine.execFlushreq port p s
  | .flushdone src dom => Sys2Proof.Machine.execFlushdone src dom s
  | .veracquire port p region => Sys2Proof.Machine.execVeracquire port p region s
  | .verrelease port p region version => Sys2Proof.Machine.execVerrelease port p region version s
  | .loadCopy port p => Sys2Proof.Machine.execLoadCopy port p s
  | .loadOwn port p => Sys2Proof.Machine.execLoadOwn port p s
  | .claim port p => Sys2Proof.Machine.execClaim port p s
  | .peek port p => Sys2Proof.Machine.execPeek port p s
  | .putLine port p => Sys2Proof.Machine.execPutLine port p s
  | .putMasked port p => Sys2Proof.Machine.execPutMasked port p s
  | .dropClean port p => Sys2Proof.Machine.execDropClean port p s
  | .dropDirty port p => Sys2Proof.Machine.execDropDirty port p s
  | .killAck p => Sys2Proof.Machine.execKillAck p s
  | .fwdAck p => Sys2Proof.Machine.execFwdAck p s
  | .fwdAckLine p => Sys2Proof.Machine.execFwdAckLine p s
  | .retrieveLine p => Sys2Proof.Machine.execRetrieveLine p s
  | .inboundSnoop port p => Sys2Proof.Machine.execInboundSnoop port p s
  | .homeTransactionStart line => Sys2Proof.Machine.execHomeTransactionStart line s
  | .holdWindowEnd line => Sys2Proof.Machine.execHoldWindowEnd line s
  | .directoryEviction line => Sys2Proof.Machine.execDirectoryEviction line s
  | .snoopTimeout line agent => Sys2Proof.Machine.execSnoopTimeout line agent s
  | .entryLost line => Sys2Proof.Machine.execEntryLost line s
  | .dirAgentMapWrite n v => Sys2Proof.Machine.execDirAgentMapWrite n v s
  | .mapSweepDone => Sys2Proof.Machine.execMapSweepDone s
  | .publishAccept region => Sys2Proof.Machine.execPublishAccept region s
  | .publishComplete region => Sys2Proof.Machine.execPublishComplete region s
  | .regionCreate => Sys2Proof.Machine.execRegionCreate s
  | .regionDestroy => Sys2Proof.Machine.execRegionDestroy s
  | .setHold => Sys2Proof.Machine.execSetHold s
  | .regionQuery => Sys2Proof.Machine.execRegionQuery s
  | .addVersion => Sys2Proof.Machine.execAddVersion s
  | .removeVersion => Sys2Proof.Machine.execRemoveVersion s
  | .clearReaders => Sys2Proof.Machine.execClearReaders s
  | .dirProbeAddrWrite v => Sys2Proof.Machine.execDirProbeAddrWrite v s
  | .memRefresh ctl unit => Sys2Proof.Machine.execMemRefresh ctl unit s
  | .retrainPause ctl ch marginLow => Sys2Proof.Machine.execRetrainPause ctl ch marginLow s
  | .fullRetrainEnd ctl ch ok => Sys2Proof.Machine.execFullRetrainEnd ctl ch ok s
  | .memSchedIssue cmd => Sys2Proof.Machine.execMemSchedIssue cmd s
  | .patrolScrub ctl unit corrected onDie bad => Sys2Proof.Machine.execPatrolScrub ctl unit corrected onDie bad s
  | .dimmTempSample ch temp => Sys2Proof.Machine.execDimmTempSample ch temp s
  | .uncorrectableError ctl unit chunks => Sys2Proof.Machine.execUncorrectableError ctl unit chunks s
  | .caParityError ctl hit => Sys2Proof.Machine.execCaParityError ctl hit s
  | .caReissue ctl unit => Sys2Proof.Machine.execCaReissue ctl unit s
  | .phyLockLoss hit => Sys2Proof.Machine.execPhyLockLoss hit s
  | .memhRetire site => Sys2Proof.Machine.execMemhRetire site s
  | .memhRetrainFull site => Sys2Proof.Machine.execMemhRetrainFull site s
  | .powerDown site => Sys2Proof.Machine.execPowerDown site s
  | .memdRetire ch => Sys2Proof.Machine.execMemdRetire ch s
  | .memdRetrainFull ch => Sys2Proof.Machine.execMemdRetrainFull ch s
  | .memdEvacuate ch => Sys2Proof.Machine.execMemdEvacuate ch s
  | .evacuated set => Sys2Proof.Machine.execEvacuated set s
  | .memdRestore ch => Sys2Proof.Machine.execMemdRestore ch s
  | .restored ch ds => Sys2Proof.Machine.execRestored ch ds s
  | .retireStart q => Sys2Proof.Machine.execRetireStart q s
  | .retireGranuleCopy q bad => Sys2Proof.Machine.execRetireGranuleCopy q bad s
  | .retireDone q => Sys2Proof.Machine.execRetireDone q s
  | .setReform set => Sys2Proof.Machine.execSetReform set s
  | .heatSample page => Sys2Proof.Machine.execHeatSample page s
  | .heatDecay => Sys2Proof.Machine.execHeatDecay s
  | .pageMoveStart page node frame => Sys2Proof.Machine.execPageMoveStart page node frame s
  | .pageLineHandover page bad => Sys2Proof.Machine.execPageLineHandover page bad s
  | .pageMoveDone page => Sys2Proof.Machine.execPageMoveDone page s
  | .frameScrubDone tier set frame => Sys2Proof.Machine.execFrameScrubDone tier set frame s
  | .zeroFillDone page => Sys2Proof.Machine.execZeroFillDone page s
  | .returnRequest node => Sys2Proof.Machine.execReturnRequest node s
  | .lodgeLost node => Sys2Proof.Machine.execLodgeLost node s
  | .plcHint => Sys2Proof.Machine.execPlcHint s
  | .plcMove => Sys2Proof.Machine.execPlcMove s
  | .plcQuery => Sys2Proof.Machine.execPlcQuery s
  | .plcRecall => Sys2Proof.Machine.execPlcRecall s
  | .plcRelease => Sys2Proof.Machine.execPlcRelease s
  | .ctxCreate => Sys2Proof.Machine.execCtxCreate s
  | .ctxDestroy => Sys2Proof.Machine.execCtxDestroy s
  | .xltMap => Sys2Proof.Machine.execXltMap s
  | .unmap => Sys2Proof.Machine.execUnmap s
  | .protect => Sys2Proof.Machine.execProtect s
  | .remap => Sys2Proof.Machine.execRemap s
  | .windowAdd => Sys2Proof.Machine.execWindowAdd s
  | .windowRemove => Sys2Proof.Machine.execWindowRemove s
  | .xltQuery => Sys2Proof.Machine.execXltQuery s
  | .cntClear => Sys2Proof.Machine.execCntClear s
  | .invalDone => Sys2Proof.Machine.execInvalDone s
  | .xltMissFill cirq ctx va => Sys2Proof.Machine.execXltMissFill cirq ctx va s
  | .cntEpoch => Sys2Proof.Machine.execCntEpoch s
  | .xltHotPop => Sys2Proof.Machine.execXltHotPop s
  | .doorbell w c a v => Sys2Proof.Machine.execDoorbell w c a v s
  | .cdtLoad c => Sys2Proof.Machine.execCdtLoad c s
  | .descriptorAccept c => Sys2Proof.Machine.execDescriptorAccept c s
  | .descriptorStart c slot => Sys2Proof.Machine.execDescriptorStart c slot s
  | .channelSchedSelect => Sys2Proof.Machine.execChannelSchedSelect s
  | .tileStart c slot => Sys2Proof.Machine.execTileStart c slot s
  | .tileDelivered c slot tile => Sys2Proof.Machine.execTileDelivered c slot tile s
  | .pushAckTimeout c slot => Sys2Proof.Machine.execPushAckTimeout c slot s
  | .completionRecord c slot => Sys2Proof.Machine.execCompletionRecord c slot s
  | .dFill c slot => Sys2Proof.Machine.execDFill c slot s
  | .dCopy c slot => Sys2Proof.Machine.execDCopy c slot s
  | .dCompare c slot => Sys2Proof.Machine.execDCompare c slot s
  | .dReduce c slot => Sys2Proof.Machine.execDReduce c slot s
  | .dGather c slot => Sys2Proof.Machine.execDGather c slot s
  | .dScatter c slot => Sys2Proof.Machine.execDScatter c slot s
  | .dFilter c slot => Sys2Proof.Machine.execDFilter c slot s
  | .dConvert c slot => Sys2Proof.Machine.execDConvert c slot s
  | .dLaunch c slot => Sys2Proof.Machine.execDLaunch c slot s
  | .dPushStream c slot => Sys2Proof.Machine.execDPushStream c slot s
  | .dPublish c slot => Sys2Proof.Machine.execDPublish c slot s
  | .dFlush c slot => Sys2Proof.Machine.execDFlush c slot s
  | .dMark c slot => Sys2Proof.Machine.execDMark c slot s
  | .dFence c slot => Sys2Proof.Machine.execDFence c slot s
  | .chnCreate => Sys2Proof.Machine.execChnCreate s
  | .chnDestroy => Sys2Proof.Machine.execChnDestroy s
  | .chnQuery => Sys2Proof.Machine.execChnQuery s
  | .chnEnable => Sys2Proof.Machine.execChnEnable s
  | .chnReset => Sys2Proof.Machine.execChnReset s
  | .chnResume => Sys2Proof.Machine.execChnResume s
  | .setSched => Sys2Proof.Machine.execSetSched s
  | .tctlEnable w c a => Sys2Proof.Machine.execTctlEnable w c a s
  | .tctlReset w c a => Sys2Proof.Machine.execTctlReset w c a s
  | .tctlResume w c a => Sys2Proof.Machine.execTctlResume w c a s
  | .channelResetDone c => Sys2Proof.Machine.execChannelResetDone c s
  | .launchStart c slot => Sys2Proof.Machine.execLaunchStart c slot s
  | .engineStart cirq => Sys2Proof.Machine.execEngineStart cirq s
  | .launchComplete c slot => Sys2Proof.Machine.execLaunchComplete c slot s
  | .tagComplete e t => Sys2Proof.Machine.execTagComplete e t s
  | .engineFault e unit => Sys2Proof.Machine.execEngineFault e unit s
  | .engineFaultDrained e => Sys2Proof.Machine.execEngineFaultDrained e s
  | .watchdog e => Sys2Proof.Machine.execWatchdog e s
  | .engStop e => Sys2Proof.Machine.execEngStop e s
  | .neveEccError e addr corrected => Sys2Proof.Machine.execNeveEccError e addr corrected s
  | .idleEngineUnitFault e => Sys2Proof.Machine.execIdleEngineUnitFault e s
  | .barrierRelease cirq b => Sys2Proof.Machine.execBarrierRelease cirq b s
  | .semwaitGrant cirq b => Sys2Proof.Machine.execSemwaitGrant cirq b s
  | .waitSatisfied e => Sys2Proof.Machine.execWaitSatisfied e s
  | .tagHoldRelease e => Sys2Proof.Machine.execTagHoldRelease e s
  | .iNop e w => Sys2Proof.Machine.execINop e w s
  | .iBr e w => Sys2Proof.Machine.execIBr e w s
  | .iCb e w => Sys2Proof.Machine.execICb e w s
  | .iJal e w => Sys2Proof.Machine.execIJal e w s
  | .iJr e w => Sys2Proof.Machine.execIJr e w s
  | .iHalt e w => Sys2Proof.Machine.execIHalt e w s
  | .iAdd e w => Sys2Proof.Machine.execIAdd e w s
  | .iSub e w => Sys2Proof.Machine.execISub e w s
  | .iAnd e w => Sys2Proof.Machine.execIAnd e w s
  | .iOr e w => Sys2Proof.Machine.execIOr e w s
  | .iXor e w => Sys2Proof.Machine.execIXor e w s
  | .iShl e w => Sys2Proof.Machine.execIShl e w s
  | .iShr e w => Sys2Proof.Machine.execIShr e w s
  | .iSra e w => Sys2Proof.Machine.execISra e w s
  | .iMin e w => Sys2Proof.Machine.execIMin e w s
  | .iMax e w => Sys2Proof.Machine.execIMax e w s
  | .iMinu e w => Sys2Proof.Machine.execIMinu e w s
  | .iMaxu e w => Sys2Proof.Machine.execIMaxu e w s
  | .iSel e w => Sys2Proof.Machine.execISel e w s
  | .iAddi e w => Sys2Proof.Machine.execIAddi e w s
  | .iSubi e w => Sys2Proof.Machine.execISubi e w s
  | .iAndi e w => Sys2Proof.Machine.execIAndi e w s
  | .iOri e w => Sys2Proof.Machine.execIOri e w s
  | .iXori e w => Sys2Proof.Machine.execIXori e w s
  | .iShli e w => Sys2Proof.Machine.execIShli e w s
  | .iShri e w => Sys2Proof.Machine.execIShri e w s
  | .iSrai e w => Sys2Proof.Machine.execISrai e w s
  | .iMini e w => Sys2Proof.Machine.execIMini e w s
  | .iMaxi e w => Sys2Proof.Machine.execIMaxi e w s
  | .iMinui e w => Sys2Proof.Machine.execIMinui e w s
  | .iMaxui e w => Sys2Proof.Machine.execIMaxui e w s
  | .iLi e w => Sys2Proof.Machine.execILi e w s
  | .iLih e w => Sys2Proof.Machine.execILih e w s
  | .iMul e w => Sys2Proof.Machine.execIMul e w s
  | .iMulh e w => Sys2Proof.Machine.execIMulh e w s
  | .iMulhu e w => Sys2Proof.Machine.execIMulhu e w s
  | .iDiv e w => Sys2Proof.Machine.execIDiv e w s
  | .iDivu e w => Sys2Proof.Machine.execIDivu e w s
  | .iRem e w => Sys2Proof.Machine.execIRem e w s
  | .iRemu e w => Sys2Proof.Machine.execIRemu e w s
  | .iPcmp e w => Sys2Proof.Machine.execIPcmp e w s
  | .iPcmpi e w => Sys2Proof.Machine.execIPcmpi e w s
  | .iPand e w => Sys2Proof.Machine.execIPand e w s
  | .iPor e w => Sys2Proof.Machine.execIPor e w s
  | .iPxor e w => Sys2Proof.Machine.execIPxor e w s
  | .iPandn e w => Sys2Proof.Machine.execIPandn e w s
  | .iPtos e w => Sys2Proof.Machine.execIPtos e w s
  | .iStop e w => Sys2Proof.Machine.execIStop e w s
  | .iVadd e w => Sys2Proof.Machine.execIVadd e w s
  | .iVsub e w => Sys2Proof.Machine.execIVsub e w s
  | .iVmul e w => Sys2Proof.Machine.execIVmul e w s
  | .iVfma e w => Sys2Proof.Machine.execIVfma e w s
  | .iVmin e w => Sys2Proof.Machine.execIVmin e w s
  | .iVmax e w => Sys2Proof.Machine.execIVmax e w s
  | .iVadds e w => Sys2Proof.Machine.execIVadds e w s
  | .iVmuls e w => Sys2Proof.Machine.execIVmuls e w s
  | .iVfmas e w => Sys2Proof.Machine.execIVfmas e w s
  | .iVcmp e w => Sys2Proof.Machine.execIVcmp e w s
  | .iVand e w => Sys2Proof.Machine.execIVand e w s
  | .iVor e w => Sys2Proof.Machine.execIVor e w s
  | .iVxor e w => Sys2Proof.Machine.execIVxor e w s
  | .iVsel e w => Sys2Proof.Machine.execIVsel e w s
  | .iVmov e w => Sys2Proof.Machine.execIVmov e w s
  | .iVzero e w => Sys2Proof.Machine.execIVzero e w s
  | .iVbcast e w => Sys2Proof.Machine.execIVbcast e w s
  | .iVext e w => Sys2Proof.Machine.execIVext e w s
  | .iVins e w => Sys2Proof.Machine.execIVins e w s
  | .iVrot e w => Sys2Proof.Machine.execIVrot e w s
  | .iLdb e w => Sys2Proof.Machine.execILdb e w s
  | .iLdbu e w => Sys2Proof.Machine.execILdbu e w s
  | .iLdh e w => Sys2Proof.Machine.execILdh e w s
  | .iLdhu e w => Sys2Proof.Machine.execILdhu e w s
  | .iLdw e w => Sys2Proof.Machine.execILdw e w s
  | .iLdwu e w => Sys2Proof.Machine.execILdwu e w s
  | .iLdd e w => Sys2Proof.Machine.execILdd e w s
  | .iStb e w => Sys2Proof.Machine.execIStb e w s
  | .iSth e w => Sys2Proof.Machine.execISth e w s
  | .iStw e w => Sys2Proof.Machine.execIStw e w s
  | .iStd e w => Sys2Proof.Machine.execIStd e w s
  | .iVld e w => Sys2Proof.Machine.execIVld e w s
  | .iVst e w => Sys2Proof.Machine.execIVst e w s
  | .iAget e w => Sys2Proof.Machine.execIAget e w s
  | .iAput e w => Sys2Proof.Machine.execIAput e w s
  | .iTwait e w => Sys2Proof.Machine.execITwait e w s
  | .iTwaitall e w => Sys2Proof.Machine.execITwaitall e w s
  | .iTwaitn e w => Sys2Proof.Machine.execITwaitn e w s
  | .iTstat e w => Sys2Proof.Machine.execITstat e w s
  | .iBar e w => Sys2Proof.Machine.execIBar e w s
  | .iBarmask e w => Sys2Proof.Machine.execIBarmask e w s
  | .iSemsig e w => Sys2Proof.Machine.execISemsig e w s
  | .iSemwait e w => Sys2Proof.Machine.execISemwait e w s
  | .iSemtry e w => Sys2Proof.Machine.execISemtry e w s
  | .iNfence e w => Sys2Proof.Machine.execINfence e w s
  | .iDot e w => Sys2Proof.Machine.execIDot e w s
  | .iDots e w => Sys2Proof.Machine.execIDots e w s
  | .iTzero e w => Sys2Proof.Machine.execITzero e w s
  | .iTrd e w => Sys2Proof.Machine.execITrd e w s
  | .iTwr e w => Sys2Proof.Machine.execITwr e w s
  | .iTscale e w => Sys2Proof.Machine.execITscale e w s
  | .iVexp e w => Sys2Proof.Machine.execIVexp e w s
  | .iVexp2 e w => Sys2Proof.Machine.execIVexp2 e w s
  | .iVrcp e w => Sys2Proof.Machine.execIVrcp e w s
  | .iVrmax e w => Sys2Proof.Machine.execIVrmax e w s
  | .iVrmin e w => Sys2Proof.Machine.execIVrmin e w s
  | .iVrsum e w => Sys2Proof.Machine.execIVrsum e w s
  | .iVexps e w => Sys2Proof.Machine.execIVexps e w s
  | .iSexps e w => Sys2Proof.Machine.execISexps e w s
  | .iSfma e w => Sys2Proof.Machine.execISfma e w s
  | .iCvt e w => Sys2Proof.Machine.execICvt e w s
  | .iPtor e w => Sys2Proof.Machine.execIPtor e w s
  | .iPtov e w => Sys2Proof.Machine.execIPtov e w s
  | .iAadd e w => Sys2Proof.Machine.execIAadd e w s
  | .iAand e w => Sys2Proof.Machine.execIAand e w s
  | .iAor e w => Sys2Proof.Machine.execIAor e w s
  | .iAxor e w => Sys2Proof.Machine.execIAxor e w s
  | .iAmin e w => Sys2Proof.Machine.execIAmin e w s
  | .iAmax e w => Sys2Proof.Machine.execIAmax e w s
  | .iAminu e w => Sys2Proof.Machine.execIAminu e w s
  | .iAmaxu e w => Sys2Proof.Machine.execIAmaxu e w s
  | .iAswap e w => Sys2Proof.Machine.execIAswap e w s
  | .iAcas e w => Sys2Proof.Machine.execIAcas e w s
  | .iAfadd e w => Sys2Proof.Machine.execIAfadd e w s
  | .iAfmin e w => Sys2Proof.Machine.execIAfmin e w s
  | .iAfmax e w => Sys2Proof.Machine.execIAfmax e w s
  | .iCred e w => Sys2Proof.Machine.execICred e w s
  | .iCgath e w => Sys2Proof.Machine.execICgath e w s
  | .iMark e w => Sys2Proof.Machine.execIMark e w s
  | .iRdcyc e w => Sys2Proof.Machine.execIRdcyc e w s
  | .iRdret e w => Sys2Proof.Machine.execIRdret e w s
  | .iRdtime e w => Sys2Proof.Machine.execIRdtime e w s
  | .idleGraupel port r => Sys2Proof.Machine.execIdleGraupel port r s
  | .dataGraupel port r => Sys2Proof.Machine.execDataGraupel port r s
  | .lnkParam port r => Sys2Proof.Machine.execLnkParam port r s
  | .lnkInit port r => Sys2Proof.Machine.execLnkInit port r s
  | .initAck port r => Sys2Proof.Machine.execInitAck port r s
  | .sleepReq port r => Sys2Proof.Machine.execSleepReq port r s
  | .sleepAck port r => Sys2Proof.Machine.execSleepAck port r s
  | .goingDown port r => Sys2Proof.Machine.execGoingDown port r s
  | .initResend port => Sys2Proof.Machine.execInitResend port s
  | .ackTimer port => Sys2Proof.Machine.execAckTimer port s
  | .sendPacket port => Sys2Proof.Machine.execSendPacket port s
  | .replayTimeout port => Sys2Proof.Machine.execReplayTimeout port s
  | .lockLost port => Sys2Proof.Machine.execLockLost port s
  | .rxSilent port => Sys2Proof.Machine.execRxSilent port s
  | .autoRetrain port => Sys2Proof.Machine.execAutoRetrain port s
  | .trainingStepDone port lanes => Sys2Proof.Machine.execTrainingStepDone port lanes s
  | .trainFail port => Sys2Proof.Machine.execTrainFail port s
  | .framingRelock port => Sys2Proof.Machine.execFramingRelock port s
  | .lnkReset port => Sys2Proof.Machine.execLnkReset port s
  | .lnkDown port => Sys2Proof.Machine.execLnkDown port s
  | .lnkEnable port v => Sys2Proof.Machine.execLnkEnable port v s
  | .packetForward tx n => Sys2Proof.Machine.execPacketForward tx n s
  | .portSchedSelect port => Sys2Proof.Machine.execPortSchedSelect port s
  | .routeWaitExpiry n => Sys2Proof.Machine.execRouteWaitExpiry n s
  | .reorderSkip src dom => Sys2Proof.Machine.execReorderSkip src dom s
  | .retryTimer dst tag => Sys2Proof.Machine.execRetryTimer dst tag s
  | .fabDoubt p => Sys2Proof.Machine.execFabDoubt p s
  | .rdData p => Sys2Proof.Machine.execRdData p s
  | .wrAck p => Sys2Proof.Machine.execWrAck p s
  | .atomicRsp p => Sys2Proof.Machine.execAtomicRsp p s
  | .atomic port p => Sys2Proof.Machine.execAtomic port p s
  | .redContrib port p => Sys2Proof.Machine.execRedContrib port p s
  | .redResult p => Sys2Proof.Machine.execRedResult p s
  | .gathContrib port p => Sys2Proof.Machine.execGathContrib port p s
  | .gathAck p => Sys2Proof.Machine.execGathAck p s
  | .chunkTimeout group slot => Sys2Proof.Machine.execChunkTimeout group slot s
  | .plRd port p => Sys2Proof.Machine.execPlRd port p s
  | .plWr port p => Sys2Proof.Machine.execPlWr port p s
  | .plData p => Sys2Proof.Machine.execPlData p s
  | .plAck p => Sys2Proof.Machine.execPlAck p s
  | .pushAck p => Sys2Proof.Machine.execPushAck p s
  | .ctlRd port p => Sys2Proof.Machine.execCtlRd port p s
  | .ctlWr port p => Sys2Proof.Machine.execCtlWr port p s
  | .mgmtPkt port p => Sys2Proof.Machine.execMgmtPkt port p s
  | .fabRtDataWrite v => Sys2Proof.Machine.execFabRtDataWrite v s
  | .grpCreate => Sys2Proof.Machine.execGrpCreate s
  | .grpDestroy => Sys2Proof.Machine.execGrpDestroy s
  | .grpQuery => Sys2Proof.Machine.execGrpQuery s
  | .shaperRefill => Sys2Proof.Machine.execShaperRefill s
  | .policerRefill => Sys2Proof.Machine.execPolicerRefill s
  | .histSample => Sys2Proof.Machine.execHistSample s
  | .qosHistSelWrite v => Sys2Proof.Machine.execQosHistSelWrite v s
  | .tenantCreate => Sys2Proof.Machine.execTenantCreate s
  | .loadKey => Sys2Proof.Machine.execLoadKey s
  | .genKey => Sys2Proof.Machine.execGenKey s
  | .tenantReset => Sys2Proof.Machine.execTenantReset s
  | .tenCtlReset w => Sys2Proof.Machine.execTenCtlReset w s
  | .tenantResetDone tenant => Sys2Proof.Machine.execTenantResetDone tenant s
  | .tenantFence => Sys2Proof.Machine.execTenantFence s
  | .secPurge p => Sys2Proof.Machine.execSecPurge p s
  | .purgeResend tenant => Sys2Proof.Machine.execPurgeResend tenant s
  | .tenantDrained tenant => Sys2Proof.Machine.execTenantDrained tenant s
  | .secErase => Sys2Proof.Machine.execSecErase s
  | .tenantRemoved tenant => Sys2Proof.Machine.execTenantRemoved tenant s
  | .secUnseal => Sys2Proof.Machine.execSecUnseal s
  | .svnCommit => Sys2Proof.Machine.execSvnCommit s
  | .secAgentDataWrite v => Sys2Proof.Machine.execSecAgentDataWrite v s
  | .getVersion m => Sys2Proof.Machine.execGetVersion m s
  | .getCapabilities m => Sys2Proof.Machine.execGetCapabilities m s
  | .negotiateAlgorithms m => Sys2Proof.Machine.execNegotiateAlgorithms m s
  | .getDigests m => Sys2Proof.Machine.execGetDigests m s
  | .getCertificate m => Sys2Proof.Machine.execGetCertificate m s
  | .spdmChallenge m => Sys2Proof.Machine.execSpdmChallenge m s
  | .getMeasurements m => Sys2Proof.Machine.execGetMeasurements m s
  | .keyExchange m => Sys2Proof.Machine.execKeyExchange m s
  | .spdmFinish m => Sys2Proof.Machine.execSpdmFinish m s
  | .spdmHeartbeat m => Sys2Proof.Machine.execSpdmHeartbeat m s
  | .keyUpdate m => Sys2Proof.Machine.execKeyUpdate m s
  | .endSession m => Sys2Proof.Machine.execEndSession m s
  | .sessionHeartbeatTimeout n => Sys2Proof.Machine.execSessionHeartbeatTimeout n s
  | .formActive cap granted => Sys2Proof.Machine.execFormActive cap granted s
  | .formStandby peer => Sys2Proof.Machine.execFormStandby peer s
  | .mirBreak => Sys2Proof.Machine.execMirBreak s
  | .recoverDone => Sys2Proof.Machine.execRecoverDone s
  | .ownBind => Sys2Proof.Machine.execOwnBind s
  | .ownRelease => Sys2Proof.Machine.execOwnRelease s
  | .ownClaim => Sys2Proof.Machine.execOwnClaim s
  | .ownUnbind => Sys2Proof.Machine.execOwnUnbind s
  | .ownQuery p => Sys2Proof.Machine.execOwnQuery p s
  | .ownTransfer p => Sys2Proof.Machine.execOwnTransfer p s
  | .ownClaimMsg p => Sys2Proof.Machine.execOwnClaimMsg p s
  | .ownReply p => Sys2Proof.Machine.execOwnReply p s
  | .ownReturn p => Sys2Proof.Machine.execOwnReturn p s
  | .ownMsgResend slot => Sys2Proof.Machine.execOwnMsgResend slot s
  | .handoffDeadline stateId => Sys2Proof.Machine.execHandoffDeadline stateId s
  | .renewTimer => Sys2Proof.Machine.execRenewTimer s
  | .renewGrant p => Sys2Proof.Machine.execRenewGrant p s
  | .selfFence => Sys2Proof.Machine.execSelfFence s
  | .selfFenceDrainEnd => Sys2Proof.Machine.execSelfFenceDrainEnd s
  | .mirrorTimeout => Sys2Proof.Machine.execMirrorTimeout s
  | .soloGrant p => Sys2Proof.Machine.execSoloGrant p s
  | .mirDeny p => Sys2Proof.Machine.execDeny p s
  | .mirHeartbeat p => Sys2Proof.Machine.execHeartbeat p s
  | .heartbeatTimer => Sys2Proof.Machine.execHeartbeatTimer s
  | .detectTimer => Sys2Proof.Machine.execDetectTimer s
  | .takeoverGrant p => Sys2Proof.Machine.execTakeoverGrant p s
  | .resyncDone => Sys2Proof.Machine.execResyncDone s
  | .mirrorCompareBlock sum raced bad => Sys2Proof.Machine.execMirrorCompareBlock sum raced bad s
  | .retentionExpiry src => Sys2Proof.Machine.execRetentionExpiry src s
  | .recoveryClose ut ui => Sys2Proof.Machine.execRecoveryClose ut ui s
  | .deviceFatalStop => Sys2Proof.Machine.execDeviceFatalStop s
  | .autoReset => Sys2Proof.Machine.execAutoReset s
  | .errViewSelWrite v => Sys2Proof.Machine.execErrViewSelWrite v s
  | .moraineFreeze => Sys2Proof.Machine.execMoraineFreeze s
  | .moraineUnfreeze => Sys2Proof.Machine.execMoraineUnfreeze s
  | .morPostReached => Sys2Proof.Machine.execMorPostReached s
  | .traceWrite ut ui => Sys2Proof.Machine.execTraceWrite ut ui s
  | .triggerArmed => Sys2Proof.Machine.execTriggerArmed s
  | .traceFrozen => Sys2Proof.Machine.execTraceFrozen s
  | .sourceDropRecord ut ui => Sys2Proof.Machine.execSourceDropRecord ut ui s
  | .dbgTcfgModeWrite v => Sys2Proof.Machine.execDbgTcfgModeWrite v s
  | .snapshotTake => Sys2Proof.Machine.execSnapshotTake s
  | .snapshotDone => Sys2Proof.Machine.execSnapshotDone s
  | .dbgCntSnap => Sys2Proof.Machine.execDbgCntSnap s
  | .tenCntSnap w => Sys2Proof.Machine.execTenCntSnap w s
  | .timeCode c => Sys2Proof.Machine.execTimeCode c s
  | .trefLoss input => Sys2Proof.Machine.execTrefLoss input s
  | .trefRecover input => Sys2Proof.Machine.execTrefRecover input s
  | .trefRevert input => Sys2Proof.Machine.execTrefRevert input s
  | .frostStop => Sys2Proof.Machine.execFrostStop s
  | .clockRestart => Sys2Proof.Machine.execClockRestart s
  | .pllLock kind unit => Sys2Proof.Machine.execPllLock kind unit s
  | .pllUnlock kind unit => Sys2Proof.Machine.execPllUnlock kind unit s
  | .applyEng => Sys2Proof.Machine.execApplyEng s
  | .pwrSleep => Sys2Proof.Machine.execPwrSleep s
  | .pwrDeep => Sys2Proof.Machine.execPwrDeep s
  | .pwrWake => Sys2Proof.Machine.execPwrWake s
  | .powerStateEntry => Sys2Proof.Machine.execPowerStateEntry s
  | .wakeEvent source => Sys2Proof.Machine.execWakeEvent source s
  | .wakeDone => Sys2Proof.Machine.execWakeDone s
  | .coldReset addr pos => Sys2Proof.Machine.execColdReset addr pos s
  | .rstInNLow => Sys2Proof.Machine.execRstInNLow s
  | .rstWarm => Sys2Proof.Machine.execRstWarm s
  | .startupPhaseDone x => Sys2Proof.Machine.execStartupPhaseDone x s
  | .mgmtWatchdog => Sys2Proof.Machine.execMgmtWatchdog s
  | .mgtKick => Sys2Proof.Machine.execMgtKick s
  | .mgtRestart => Sys2Proof.Machine.execMgtRestart s
  | .bootOk => Sys2Proof.Machine.execBootOk s
  | .bootLimit => Sys2Proof.Machine.execBootLimit s
  | .mboxReq r => Sys2Proof.Machine.execMboxReq r s
  | .bootData off total data => Sys2Proof.Machine.execBootData off total data s
  | .bootFetchRetry => Sys2Proof.Machine.execBootFetchRetry s
  | .mgtOwner data => Sys2Proof.Machine.execMgtOwner data s
  | .ownerPoll => Sys2Proof.Machine.execOwnerPoll s
  | .mgtNotify => Sys2Proof.Machine.execMgtNotify s
  | .notifyResend => Sys2Proof.Machine.execNotifyResend s
  | .mgtNotifyWrite v => Sys2Proof.Machine.execMgtNotifyWrite v s
  | .mgtApply => Sys2Proof.Machine.execMgtApply s
  | .unitImageApply unit => Sys2Proof.Machine.execUnitImageApply unit s
  | .sbRead off => Sys2Proof.Machine.execSbRead off s
  | .sbWrite off v => Sys2Proof.Machine.execSbWrite off v s
  | .sbWarmReset => Sys2Proof.Machine.execSbWarmReset s
  | .sbWake => Sys2Proof.Machine.execSbWake s
  | .smbusFallback => Sys2Proof.Machine.execSmbusFallback s
  | .ethDown => Sys2Proof.Machine.execEthDown s
  | .usageReport => Sys2Proof.Machine.execUsageReport s
  | .meterBind slot v => Sys2Proof.Machine.execMeterBind slot v s
  | .calUserWrite v => Sys2Proof.Machine.execCalUserWrite v s
  | .authNonceRead n => Sys2Proof.Machine.execAuthNonceRead n s
  | .authProve n => Sys2Proof.Machine.execAuthProve n s
  | .vinShutdown => Sys2Proof.Machine.execVinShutdown s
  | .powerGovernor vin iin => Sys2Proof.Machine.execPowerGovernor vin iin s
  | .thermalSample temps => Sys2Proof.Machine.execThermalSample temps s
  | .thermalTrip => Sys2Proof.Machine.execThermalTrip s
  | .tapExtest pins => Sys2Proof.Machine.execTapExtest pins s
  | .tapSample pins => Sys2Proof.Machine.execTapSample pins s
  | .tapPreload bits => Sys2Proof.Machine.execTapPreload bits s
  | .tapClamp => Sys2Proof.Machine.execTapClamp s
  | .tapHighz => Sys2Proof.Machine.execTapHighz s
  | .tapExtestPulse pins => Sys2Proof.Machine.execTapExtestPulse pins s
  | .tapExtestTrain pins => Sys2Proof.Machine.execTapExtestTrain pins s
  | .tapBypass => Sys2Proof.Machine.execTapBypass s
  | .registerWrite path off v => Sys2Proof.Machine.execRegisterWrite path off v s
  | .purgeAck p => Sys2Proof.Machine.execPurgeAck p s
  | .resyncLineCopy start => Sys2Proof.Machine.execResyncLineCopy start s
  | .traceStreamSend => Sys2Proof.Machine.execTraceStreamSend s
  | .rstInNRelease => Sys2Proof.Machine.execRstInNRelease s
  | .ethLinkUp => Sys2Proof.Machine.execEthLinkUp s
  | .dynamicAddressAssigned addr => Sys2Proof.Machine.execDynamicAddressAssigned addr s
  | .firstDeliveryStatusExpiry src => Sys2Proof.Machine.execFirstDeliveryStatusExpiry src s

end Sys2Proof.Machine
end

