-- ==== Sys2Proof/Machine/Step.lean ====
section
/-! DEFINITION. One step of the block: the command at the front of the queue, or, with no command waiting, one
tick of rack time. -/

namespace Sys2Proof.Machine

/-- Takes the command at the front of the queue and runs it on the state whose queue holds the rest. With no command
waiting, rack time advances by one unit of 10 ns where it runs and everything that is due by time happens (R384;
DESIGN CHOICE, notes/assumptions). -/
def step (s : State) : Host.Outcome State Fault Refusal :=
  match s.pending with
  | [] => .next s.tick
  | c :: rest => exec c { s with pending := rest }

/-- The state with the command that a table word spells put at the front of the queue. No row of
spec/opcode_table.json gives bits, so no word spells a command. -/
def State.withFetchWord (s : State) (nbits w : Nat) : State :=
  match Sys2Proof.decodeTableWord nbits w with
  | none => s
  | some c => { s with pending := c :: s.pending }

end Sys2Proof.Machine
end

