-- ==== Sys2Proof/Safety.lean ====
section
/-! DEFINITION. The terms in which claims speak of a step: that a command answers a next state and what holds of it, which
registers and which bytes it leaves alone, and the forms that a state keeps. -/

namespace Sys2Proof.Machine

/-- The command answers a next state of which `P` holds: no fault, no refusal. -/
def Does (c : Instr) (s : State) (P : State → Prop) : Prop := ∃ t, exec c s = .next t ∧ P t

/-- Every register field but the listed ones reads as before. -/
def RegsKept (s t : State) (l : List Fld) : Prop := ∀ f : Fld, f.key ∉ l.map Fld.key → t.get f = s.get f

/-- Every byte of pool memory outside `n` bytes from `a` reads as before. -/
def MemKept (s t : State) (a n : Nat) : Prop := ∀ x, x < a ∨ a + n ≤ x → rdByte t.mem x = rdByte s.mem x

/-- Every entry of a map but the one at `q` is as before. -/
def OthersKept {α : Type} (m m' : NMap α) (q : Nat) : Prop := ∀ r, r ≠ q → NMap.find m' r = NMap.find m r

/-- The canonical forms of the state's memory: addresses strictly rising and no byte listed that reads as an unlisted one
does, the poisoned chunks and the register bank in rising order. -/
def Canonical (s : State) : Prop := memWf s.mem = true ∧ NMap.wf s.regs = true

/-- A register command of a block has ended with OK and DETAIL 0 (R424); beside those fields only the listed ones changed. -/
def Ended (s t : State) (stF deF : Fld) (l : List Fld) : Prop :=
  t.get stF = stOK ∧ t.get deF = 0 ∧ RegsKept s t (stF :: deF :: l)

/-- A register command has ended with PERMISSION and a DETAIL code, and with no other effect at all. -/
def EndedRefused (s t : State) (stF deF : Fld) (de : Nat) : Prop :=
  t.get stF = stPermission ∧ t.get deF = de ∧ RegsKept s t [stF, deF] ∧ t = { s with regs := t.regs }

/-- An event bit is set, and its block's PENDING bit with it where the event was not set before (R402). -/
def Raised (s t : State) (f : Fld) : Prop :=
  t.get f ≠ 0 ∧ (s.get f = 0 → bit (t.get Reg.MGT_NOTIFY_PENDING) (notifyBit f.off) = true)

/-- A counting field has gone up by `d`, and stays at its largest value once it is there (R7). -/
def Counts (s t : State) (f : Fld) (d : Nat) : Prop := t.get f = min (s.get f + d) f.top

/-- A packet has been handed to the switch, behind those that were there. -/
def Sends (s t : State) (p : Pkt) : Prop := t.fab.tx = s.fab.tx ++ [p]

/-- A record of the error has been written with the next SEQ (R354, R355): it stands in the ring, and heads its unit's log. -/
def Reports (s t : State) (e : ErrIn) : Prop := ∃ r : ErrRec,
  NMap.find t.err.ring (r.seq % 4096) = some r ∧ (NMap.getD t.err.logs (unitKey e.unitType e.unitIndex) []).head? = some r ∧
  r.seq = s.get Reg.ERR_SEQ_NEWEST + 1 ∧ r.time = s.now ∧ r.cls = e.cls ∧ r.unitType = e.unitType ∧
  r.unitIndex = e.unitIndex ∧ r.cause = e.cause ∧ r.status = e.status ∧ r.tenant = e.tenant ∧ r.agent = e.agent ∧
  r.addr = e.addr ∧ r.info = e.info ∧ r.kind = 0 ∧ r.count = 1

/-- The registers that a report may change (R354 to R357, R316): the error unit's own, and the fault state of the tenant named. -/
def reportRegs (s : State) (tenant : Option Nat) : List Fld :=
  [Reg.ERR_SEQ_NEWEST, Reg.ERR_EVENT_DEPTH_SAT, Reg.ERR_EVENT_RING_OVERWRITE, Reg.ERR_STATUS_RING_COUNT, Reg.ERR_MOR_STATUS_NEWEST,
   Reg.ERR_MOR_STATUS_WRAPPED, Reg.ERR_CNT0_CORRECTED, Reg.ERR_CNT0_UNCORR, Reg.ERR_EVENT_UNCORR, Reg.ERR_CNT1_UNIT_FATAL,
   Reg.ERR_EVENT_UNIT_FATAL, Reg.ERR_STATUS_OPEN, Reg.MGT_NOTIFY_PENDING, Reg.SEC_EVENT_TENANT_FAULT, Reg.SEC_EVENT_LAST_SLOT,
   Reg.DBG_TSTAT_SOURCE_DROPS] ++
  match tenant.bind (NMap.find s.sec.tenants) with
  | some r => [Reg.TEN_FAULT_FAULT r.slot, Reg.TEN_FAULT_COUNT r.slot]
  | none => []

/-- Whether an error will be written as it is detected: it neither merges into an earlier one nor escalates (R355, R357). -/
def Plain (s : State) (e : ErrIn) : Prop :=
  (e.cls = 0 ∧ mergesWith s e = none) ∨ (e.cls ≠ 0 ∧ e.cls < 3 ∧ (inRecovery s e.unitType e.unitIndex = false ∨ secondExempt e.unitType = true))

/-! Engines. -/

/-- Engine `e` runs at this instruction, and its predicate lets it execute (R217). -/
def Issues (s : State) (e cls op : Nat) (w : Ins) : Prop :=
  e < 256 ∧ atWord s e cls op w = true ∧ predOn (engOf s e) w = true

/-- All that a program reads and writes of an engine's core, and where it stands, is as it was: only its store may differ. -/
def SameCore (x y : Eng) : Prop :=
  y.s = x.s ∧ y.p = x.p ∧ y.v = x.v ∧ y.t = x.t ∧ y.imem = x.imem ∧ y.prog = x.prog ∧ y.rnd = x.rnd ∧ y.tags = x.tags ∧
  y.wait = x.wait ∧ y.pc = x.pc ∧ y.from_ = x.from_

/-- Scalar register `d` takes `v`, s0 discards, and every other scalar register reads as before. -/
def GetsS (x y : Eng) (d v : Nat) : Prop := ∀ r, sreg y r = if r = d ∧ r ≠ 0 then v % 2 ^ 64 else sreg x r

/-- Predicate `d` takes `b`, p0 discards, and every other predicate reads as before. -/
def GetsP (x y : Eng) (d : Nat) (b : Bool) : Prop := ∀ r < 8, preg y r = if r = d ∧ r ≠ 0 then b else preg x r

/-- Vector register `d` takes `v`, and every other vector register reads as before. -/
def GetsV (x y : Eng) (d v : Nat) : Prop := ∀ r, vreg y r = if r = d then v % 2 ^ 1024 else vreg x r

/-- A scalar register as a 64-bit word, and IMM sign-extended (R220). -/
def sword (x : Eng) (n : Nat) : Word64 := BitVec.ofNat 64 (sreg x n)
def iword (w : Ins) : Word64 := w.imm.signExtend 64

def KeepsS (x y : Eng) : Prop := ∀ r, sreg y r = sreg x r
def KeepsP (x y : Eng) : Prop := ∀ r, preg y r = preg x r
def KeepsV (x y : Eng) : Prop := ∀ r, vreg y r = vreg x r
def KeepsT (x y : Eng) : Prop := y.t = x.t

/-- Engine `e` has retired its instruction and stands at index `pc`: ENG_RETIRED has counted it, no register field but the
engine's own count, cycles, tag count and PC has changed, every other engine's core is as it was, and no state of the node
but the engines, their registers and counters, and the model's count of free values has changed. -/
def Retires (s t : State) (e pc : Nat) : Prop :=
  (engOf t e).pc = pc % 2 ^ 64 ∧ (engOf t e).wait = none ∧ (engOf t e).imem = (engOf s e).imem ∧
  (engOf t e).prog = (engOf s e).prog ∧
  t.get (Reg.ENG_RETIRED_RETIRED e) = (s.get (Reg.ENG_RETIRED_RETIRED e) + 1) % 2 ^ 64 ∧
  RegsKept s t [Reg.ENG_RETIRED_RETIRED e, Reg.ENG_CYCLES_CYCLES e, Reg.ENG_STATUS_TAGS_OUT e, Reg.ENG_STATUS_PC e] ∧
  (∀ o, o ≠ e → SameCore (engOf s o) (engOf t o)) ∧
  t = { s with
    eng := t.eng
    regs := t.regs
    dbg := t.dbg
    fresh := t.fresh }

/-- Engine `e` has faulted at its instruction (R191, R192 step 1): it drains, ENG_FAULT holds the cause, the status and the
index, and no register, predicate or tile of it and no byte of pool memory has changed. -/
def Faults (s t : State) (e cause status : Nat) : Prop :=
  engSt t e = 4 ∧ t.get (Reg.ENG_FAULT_CAUSE e) = cause ∧ t.get (Reg.ENG_FAULT_STATUS e) = status ∧
  t.get (Reg.ENG_FAULT_PC e) = (engOf s e).pc % 2 ^ 13 ∧ (engOf t e).pc = (engOf s e).pc ∧ KeepsS (engOf s e) (engOf t e) ∧
  KeepsP (engOf s e) (engOf t e) ∧ KeepsV (engOf s e) (engOf t e) ∧ KeepsT (engOf s e) (engOf t e) ∧ t.mem = s.mem

/-- What an engine address reaches (R172, R187): a byte of the engine's own store, or, by the cirque window, of the store of an
engine of its launch. -/
def storeAt (s : State) (e a : Nat) : Option (Nat × Nat) :=
  if a < 0x100000 then some (e, a)
  else if 0x1000000 ≤ a ∧ a < 0x2000000 ∧ (launchOf s e).any fun l => l.engines.contains (e / 16 * 16 + (a - 0x1000000) / 0x100000) then
    some (e / 16 * 16 + (a - 0x1000000) / 0x100000, a % 0x100000)
  else none

end Sys2Proof.Machine
end

