-- ==== Sys2Proof/Certificates/Slice0/Obligations.lean ====
section
/-! DEFINITION. The statements put to the provers, from the numbered rules of spec/. -/

section
open Sys2Proof Sys2Proof.Machine Sys2Proof.Machine.Reg

/-! Engine instructions: scalar registers, control flow and predicates (chapter 10). -/

/-- SALU and SALUI (R221, Tables 10.4 and 10.6): each of the twelve operations on 64-bit words, of two registers or of a
register and IMM; MIN and MAX signed, MINU and MAXU unsigned, a shift by the low six bits of its count. Only the
destination register changes; s0 discards. -/
def Sys2Proof.Claims.scalarOperationsComputeTheirWord : Prop :=
  ∀ (mk mki : Nat → Ins → Instr) (op : Nat) (f : Word64 → Word64 → Word64),
    (mk, mki, op, f) ∈ ([
      (.iAdd, .iAddi, 0, fun a b => a + b), (.iSub, .iSubi, 1, fun a b => a - b), (.iAnd, .iAndi, 2, fun a b => a &&& b),
      (.iOr, .iOri, 3, fun a b => a ||| b), (.iXor, .iXori, 4, fun a b => a ^^^ b),
      (.iShl, .iShli, 5, fun a b => a <<< (b.toNat % 64)), (.iShr, .iShri, 6, fun a b => a >>> (b.toNat % 64)),
      (.iSra, .iSrai, 7, fun a b => a.sshiftRight (b.toNat % 64)),
      (.iMin, .iMini, 8, fun a b => if b.slt a then b else a), (.iMax, .iMaxi, 9, fun a b => if a.slt b then b else a),
      (.iMinu, .iMinui, 10, fun a b => if b.ult a then b else a), (.iMaxu, .iMaxui, 11, fun a b => if a.ult b then b else a)] :
      List ((Nat → Ins → Instr) × (Nat → Ins → Instr) × Nat × (Word64 → Word64 → Word64))) →
    ∀ (e : Nat) (w : Ins) (s : State),
      (Issues s e 1 op w → w.f = 0 → w.imm = 0 → Does (mk e w) s fun t =>
        Retires s t e ((engOf s e).pc + 1) ∧
        GetsS (engOf s e) (engOf t e) w.d (f (sword (engOf s e) w.a) (sword (engOf s e) w.b)).toNat ∧
        KeepsP (engOf s e) (engOf t e) ∧ KeepsV (engOf s e) (engOf t e) ∧ KeepsT (engOf s e) (engOf t e)) ∧
      (Issues s e 2 op w → w.f = 0 → w.b = 0 → Does (mki e w) s fun t =>
        Retires s t e ((engOf s e).pc + 1) ∧ GetsS (engOf s e) (engOf t e) w.d (f (sword (engOf s e) w.a) (iword w)).toNat ∧
        KeepsP (engOf s e) (engOf t e) ∧ KeepsV (engOf s e) (engOf t e) ∧ KeepsT (engOf s e) (engOf t e))

/-- SMUL (R222): the low and the high halves of a product, signed and unsigned, and division and remainder, which truncate
toward zero; by zero the quotient is all ones and the remainder the dividend. -/
def Sys2Proof.Claims.multiplyAndDivideComputeTheirWord : Prop :=
  ∀ (mk : Nat → Ins → Instr) (op : Nat) (f : Word64 → Word64 → Word64),
    (mk, op, f) ∈ ([
      (.iMul, 0, fun a b => a * b),
      (.iMulh, 1, fun a b => ((a.signExtend 128 * b.signExtend 128) >>> 64).setWidth 64),
      (.iMulhu, 2, fun a b => ((a.setWidth 128 * b.setWidth 128) >>> 64).setWidth 64),
      (.iDiv, 3, fun a b => if b = 0 then BitVec.allOnes 64 else a.sdiv b),
      (.iDivu, 4, fun a b => if b = 0 then BitVec.allOnes 64 else a.udiv b),
      (.iRem, 5, fun a b => if b = 0 then a else a.srem b), (.iRemu, 6, fun a b => if b = 0 then a else a.umod b)] :
      List ((Nat → Ins → Instr) × Nat × (Word64 → Word64 → Word64))) →
    ∀ (e : Nat) (w : Ins) (s : State), Issues s e 3 op w → w.f = 0 → w.imm = 0 → Does (mk e w) s fun t =>
      Retires s t e ((engOf s e).pc + 1) ∧
      GetsS (engOf s e) (engOf t e) w.d (f (sword (engOf s e) w.a) (sword (engOf s e) w.b)).toNat ∧
      KeepsP (engOf s e) (engOf t e) ∧ KeepsV (engOf s e) (engOf t e) ∧ KeepsT (engOf s e) (engOf t e)

/-- SEL, LI and LIH (R221): a register chosen by a predicate, IMM sign-extended, IMM over the low half of a register. -/
def Sys2Proof.Claims.selectAndLoadImmediate : Prop :=
  ∀ (e : Nat) (w : Ins) (s : State), let x := engOf s e
    (Issues s e 1 12 w → w.f = 0 → w.x = 0 → w.rc < 8 → Does (.iSel e w) s fun t =>
      Retires s t e (x.pc + 1) ∧ GetsS x (engOf t e) w.d (if preg x w.rc then sreg x w.a else sreg x w.b) ∧
      KeepsP x (engOf t e) ∧ KeepsV x (engOf t e) ∧ KeepsT x (engOf t e)) ∧
    (Issues s e 2 12 w → w.f = 0 → w.a = 0 → w.b = 0 → Does (.iLi e w) s fun t =>
      Retires s t e (x.pc + 1) ∧ GetsS x (engOf t e) w.d (iword w).toNat ∧
      KeepsP x (engOf t e) ∧ KeepsV x (engOf t e) ∧ KeepsT x (engOf t e)) ∧
    (Issues s e 2 13 w → w.f = 0 → w.b = 0 → Does (.iLih e w) s fun t =>
      Retires s t e (x.pc + 1) ∧ GetsS x (engOf t e) w.d (w.imm.toNat * 2 ^ 32 + sreg x w.a % 2 ^ 32) ∧
      KeepsP x (engOf t e) ∧ KeepsV x (engOf t e) ∧ KeepsT x (engOf t e))

/-- The conditions of Table 10.5 on two words. -/
def Sys2Proof.Claims.cond (c : Nat) (a b : Word64) : Bool :=
  [a == b, a != b, a.slt b, !a.slt b, a.ult b, !a.ult b].getD c false

/-- Control flow (R219, Table 10.3): NOP goes on; BR, CB and JAL go to PC plus IMM, JR to a register plus IMM; JAL keeps the
index after it; HALT with no tag outstanding keeps its exit value and leaves the engine IDLE, or OFFLINE where ENG_CTL takes it offline, and
with one it waits. -/
def Sys2Proof.Claims.controlFlowSetsThePc : Prop :=
  ∀ (e : Nat) (w : Ins) (s : State), let x := engOf s e
    let keeps := fun (t : State) => KeepsP x (engOf t e) ∧ KeepsV x (engOf t e) ∧ KeepsT x (engOf t e)
    (Issues s e 0 0 w → w.f = 0 → w.d = 0 → w.a = 0 → w.b = 0 → w.imm = 0 → Does (.iNop e w) s fun t =>
      Retires s t e (x.pc + 1) ∧ KeepsS x (engOf t e) ∧ keeps t) ∧
    (Issues s e 0 1 w → w.f = 0 → w.d = 0 → w.a = 0 → w.b = 0 → Does (.iBr e w) s fun t =>
      Retires s t e (x.pc + (iword w).toNat) ∧ KeepsS x (engOf t e) ∧ keeps t) ∧
    (Issues s e 0 2 w → w.f < 6 → w.d = 0 → Does (.iCb e w) s fun t =>
      Retires s t e (if Sys2Proof.Claims.cond w.f (sword x w.a) (sword x w.b) then x.pc + (iword w).toNat else x.pc + 1) ∧
      KeepsS x (engOf t e) ∧ keeps t) ∧
    (Issues s e 0 3 w → w.f = 0 → w.a = 0 → w.b = 0 → Does (.iJal e w) s fun t =>
      Retires s t e (x.pc + (iword w).toNat) ∧ GetsS x (engOf t e) w.d (x.pc + 1) ∧ keeps t) ∧
    (Issues s e 0 4 w → w.f = 0 → w.d = 0 → w.b = 0 → Does (.iJr e w) s fun t =>
      Retires s t e (sreg x w.a + (iword w).toNat) ∧ KeepsS x (engOf t e) ∧ keeps t) ∧
    (Issues s e 0 5 w → w.f = 0 → w.d = 0 → w.b = 0 → w.imm = 0 → Does (.iHalt e w) s fun t =>
      KeepsS x (engOf t e) ∧ keeps t ∧
      (tagsOut x = 0 → engSt t e = (if s.get (ENG_CTL_OFFLINE e) = 0 then 0 else 5) ∧ t.get (ENG_EXIT_EXIT e) = sreg x w.a ∧ (engOf t e).nst = []) ∧
      (tagsOut x ≠ 0 → engSt t e = 3 ∧ (engOf t e).wait = some .halt ∧ (engOf t e).pc = x.pc))

/-- Predicates (R223, Table 10.7): comparisons of registers and of a register with IMM set a predicate, the logical
operations combine two, PTOS and STOP move one to and from a scalar register. p0 discards. -/
def Sys2Proof.Claims.predicateInstructionsSetTheirPredicate : Prop :=
  ∀ (e : Nat) (w : Ins) (s : State), let x := engOf s e
    let keeps := fun (t : State) => KeepsV x (engOf t e) ∧ KeepsT x (engOf t e)
    (Issues s e 4 0 w → w.f < 6 → w.d < 8 → w.imm = 0 → Does (.iPcmp e w) s fun t =>
      Retires s t e (x.pc + 1) ∧ GetsP x (engOf t e) w.d (Sys2Proof.Claims.cond w.f (sword x w.a) (sword x w.b)) ∧
      KeepsS x (engOf t e) ∧ keeps t) ∧
    (Issues s e 4 1 w → w.f < 6 → w.d < 8 → w.b = 0 → Does (.iPcmpi e w) s fun t =>
      Retires s t e (x.pc + 1) ∧ GetsP x (engOf t e) w.d (Sys2Proof.Claims.cond w.f (sword x w.a) (iword w)) ∧
      KeepsS x (engOf t e) ∧ keeps t) ∧
    (∀ mk op f, (mk, op, f) ∈ ([(.iPand, 2, fun a b => a && b), (.iPor, 3, fun a b => a || b), (.iPxor, 4, fun a b => a ^^ b),
        (.iPandn, 5, fun a b => a && !b)] : List ((Nat → Ins → Instr) × Nat × (Bool → Bool → Bool))) →
      Issues s e 4 op w → w.f = 0 → w.d < 8 → w.a < 8 → w.b < 8 → w.imm = 0 → Does (mk e w) s fun t =>
      Retires s t e (x.pc + 1) ∧ GetsP x (engOf t e) w.d (f (preg x w.a) (preg x w.b)) ∧ KeepsS x (engOf t e) ∧ keeps t) ∧
    (Issues s e 4 6 w → w.f = 0 → w.a < 8 → w.b = 0 → w.imm = 0 → Does (.iPtos e w) s fun t =>
      Retires s t e (x.pc + 1) ∧ GetsS x (engOf t e) w.d (if preg x w.a then 1 else 0) ∧ KeepsP x (engOf t e) ∧ keeps t) ∧
    (Issues s e 4 7 w → w.f = 0 → w.d < 8 → w.b = 0 → w.imm = 0 → Does (.iStop e w) s fun t =>
      Retires s t e (x.pc + 1) ∧ GetsP x (engOf t e) w.d (sreg x w.a != 0) ∧ KeepsS x (engOf t e) ∧ keeps t)

/-- The statements above: scalar operations compute their word, multiply and divide compute their word, select and load immediate. -/
def Obligations.ScalarInstructionsWriteTheirRegister : Prop :=
  Sys2Proof.Claims.scalarOperationsComputeTheirWord ∧
  Sys2Proof.Claims.multiplyAndDivideComputeTheirWord ∧
  Sys2Proof.Claims.selectAndLoadImmediate

/-- The statements above: control flow sets the pc, predicate instructions set their predicate. -/
def Obligations.ControlFlowAndPredicates : Prop :=
  Sys2Proof.Claims.controlFlowSetsThePc ∧
  Sys2Proof.Claims.predicateInstructionsSetTheirPredicate
/-! Engine instructions: vector registers (chapter 10). -/

/-- Lane `i` of a vector register as a number of the instruction's format (R208), and the lane a scalar register gives. -/
def Sys2Proof.Claims.laneOf (w : Ins) (x : Eng) (r i : Nat) : FV := decodeF w.f (elemAt (fmtBits w.f) (vreg x r) i)
def Sys2Proof.Claims.slane (w : Ins) (x : Eng) (r : Nat) : FV := decodeF w.f (sreg x r % 2 ^ fmtBits w.f)

/-- A vector of the instruction's lanes, each an exact value rounded once to nearest-even (R208). -/
def Sys2Proof.Claims.rounded (w : Ins) (f : Nat → FV) : Nat :=
  packElems (fmtBits w.f) ((List.range (1024 / fmtBits w.f)).map fun i => encodeF .rne w.f (f i))

/-- VARITH (R224, R225, Table 10.8): every lane is the operation's exact result rounded once, for two vectors, for a vector
and a scalar, and for the fused products; VCMP sets a lane to ones or zeros. Only vD changes. -/
def Sys2Proof.Claims.vectorArithmeticRoundsEachLane : Prop :=
  ∀ (e : Nat) (w : Ins) (s : State), let x := engOf s e
    let L := Sys2Proof.Claims.laneOf w x
    let S := Sys2Proof.Claims.slane w x w.b
    let does := fun (c : Instr) (v : Nat) => Does c s fun t =>
      Retires s t e (x.pc + 1) ∧ GetsV x (engOf t e) w.d v ∧ KeepsS x (engOf t e) ∧ KeepsP x (engOf t e) ∧ KeepsT x (engOf t e)
    (∀ mk op f, (mk, op, f) ∈ ([(.iVadd, 0, FV.add), (.iVsub, 1, fun a b => a.add b.neg), (.iVmul, 2, FV.mul),
        (.iVmin, 4, FV.min), (.iVmax, 5, FV.max)] : List ((Nat → Ins → Instr) × Nat × (FV → FV → FV))) →
      Issues s e 8 op w → w.f < 5 → w.imm = 0 →
      does (mk e w) (Sys2Proof.Claims.rounded w fun i => f (L w.a i) (L w.b i))) ∧
    (∀ mk op f, (mk, op, f) ∈ ([(.iVadds, 6, FV.add), (.iVmuls, 7, FV.mul)] : List ((Nat → Ins → Instr) × Nat × (FV → FV → FV))) →
      Issues s e 8 op w → w.f < 5 → w.imm = 0 → does (mk e w) (Sys2Proof.Claims.rounded w fun i => f (L w.a i) S)) ∧
    (Issues s e 8 3 w → w.f < 5 → w.x = 0 →
      does (.iVfma e w) (Sys2Proof.Claims.rounded w fun i => ((L w.a i).mul (L w.b i)).add (L w.rc i))) ∧
    (Issues s e 8 8 w → w.f < 5 → w.x = 0 →
      does (.iVfmas e w) (Sys2Proof.Claims.rounded w fun i => ((L w.a i).mul S).add (L w.rc i))) ∧
    (Issues s e 8 9 w → w.f < 5 → w.rc = 0 → w.x < 6 →
      does (.iVcmp e w) (packElems (fmtBits w.f) ((List.range (1024 / fmtBits w.f)).map fun i =>
        if cmpHolds w.x (L w.a i) (L w.b i) then 2 ^ fmtBits w.f - 1 else 0)))

/-- VBIT (R226, Table 10.9): the bitwise operations on whole registers, VMOV and VZERO, and the lane moves: VBCAST to every
lane, VEXT of one lane to a scalar register, VINS of one lane, VROT of all. -/
def Sys2Proof.Claims.vectorLogicAndLaneMoves : Prop :=
  ∀ (e : Nat) (w : Ins) (s : State), let x := engOf s e
    let V := fun r => BitVec.ofNat 1024 (vreg x r)
    let b := fmtBits w.f
    let lane := fun r i => elemAt b (vreg x r) i
    let fmt := w.f < 10 ∧ w.f ≠ 5 ∧ w.f ≠ 6
    let index := w.x < 256 ∧ w.x < 1024 / b
    let does := fun (c : Instr) (v : Nat) => Does c s fun t =>
      Retires s t e (x.pc + 1) ∧ GetsV x (engOf t e) w.d v ∧ KeepsS x (engOf t e) ∧ KeepsP x (engOf t e) ∧ KeepsT x (engOf t e)
    (∀ mk op f, (mk, op, f) ∈ ([(.iVand, 0, fun a b => a &&& b), (.iVor, 1, fun a b => a ||| b), (.iVxor, 2, fun a b => a ^^^ b)] :
        List ((Nat → Ins → Instr) × Nat × (Vec → Vec → Vec))) →
      Issues s e 9 op w → w.f = 0 → w.imm = 0 → does (mk e w) (f (V w.a) (V w.b)).toNat) ∧
    (Issues s e 9 3 w → w.f = 0 → w.x = 0 → does (.iVsel e w) ((V w.a &&& V w.rc) ||| (V w.b &&& ~~~(V w.rc))).toNat) ∧
    (Issues s e 9 4 w → w.f = 0 → w.b = 0 → w.imm = 0 → does (.iVmov e w) (vreg x w.a)) ∧
    (Issues s e 9 5 w → w.f = 0 → w.a = 0 → w.b = 0 → w.imm = 0 → does (.iVzero e w) 0) ∧
    (Issues s e 9 6 w → fmt → w.b = 0 → w.imm = 0 → does (.iVbcast e w) (packElems b (List.replicate (1024 / b) (sreg x w.a)))) ∧
    (Issues s e 9 7 w → fmt → w.b = 0 → w.rc = 0 → index → Does (.iVext e w) s fun t =>
      Retires s t e (x.pc + 1) ∧ GetsS x (engOf t e) w.d (lane w.a w.x) ∧ KeepsP x (engOf t e) ∧ KeepsV x (engOf t e) ∧
      KeepsT x (engOf t e)) ∧
    (Issues s e 9 8 w → fmt → w.b = 0 → w.rc = 0 → index →
      does (.iVins e w) (packElems b (((List.range (1024 / b)).map (lane w.d)).set w.x (sreg x w.a % 2 ^ b)))) ∧
    (Issues s e 9 9 w → fmt → w.b = 0 → w.rc = 0 → index →
      does (.iVrot e w) (packElems b ((List.range (1024 / b)).map fun i => lane w.a ((i + w.x) % (1024 / b)))))

/-- Elements packed into a register are read back, each cut to its width (R208: element 0 lowest). -/
def Sys2Proof.Claims.packedElementsReadBack : Prop :=
  ∀ (b : Nat) (l : List Nat) (i : Nat), elemAt b (packElems b l) i = l.getD i 0 % 2 ^ b

/-- The statements above: vector arithmetic rounds each lane, vector logic and lane moves, packed elements read back. -/
def Obligations.VectorInstructionsWriteTheirRegister : Prop :=
  Sys2Proof.Claims.vectorArithmeticRoundsEachLane ∧
  Sys2Proof.Claims.vectorLogicAndLaneMoves ∧
  Sys2Proof.Claims.packedElementsReadBack
/-! Engine instructions: neve stores, tags, barriers and semaphores (chapters 08 and 10). -/

/-- The engine address of a load or store instruction: rA plus IMM (R227). -/
def Sys2Proof.Claims.address (w : Ins) (x : Eng) : Nat := (sword x w.a + iword w).toNat

/-- A core access that reaches byte `b` of engine `o`'s store: the address is aligned, no neighbour store of the engine is on
its way when it goes through the window (R187), no chunk is poisoned (R175), and no outstanding request fills a byte (R182). -/
def Sys2Proof.Claims.reads (s : State) (e : Nat) (w : Ins) (n o b : Nat) : Prop :=
  storeAt s e (Sys2Proof.Claims.address w (engOf s e)) = some (o, b) ∧ Sys2Proof.Claims.address w (engOf s e) % n = 0 ∧
  (Sys2Proof.Claims.address w (engOf s e) < 0x100000 ∨ (engOf s e).nst = []) ∧
  bytesPoisoned (engOf s o) b n = false ∧ ∀ i, i < n → filling (engOf s o) (b + i) = false

/-- LDS and VLD (R227, Table 10.10): the little-endian bytes at rA plus IMM, of the own store or through the window, go to the
destination, sign-extended or not; the own store keeps every byte while no neighbour store waits. -/
def Sys2Proof.Claims.loadsReadTheStore : Prop :=
  ∀ (e : Nat) (w : Ins) (s : State) (o b : Nat), let x := engOf s e
    let v := fun n => leNat (rdBytes (engOf s o).neve b n)
    (∀ mk op n sgn, (mk, op, n, sgn) ∈ ([(.iLdb, 0, 1, true), (.iLdbu, 1, 1, false), (.iLdh, 2, 2, true), (.iLdhu, 3, 2, false),
        (.iLdw, 4, 4, true), (.iLdwu, 5, 4, false), (.iLdd, 6, 8, false)] : List ((Nat → Ins → Instr) × Nat × Nat × Bool)) →
      Issues s e 0x0c op w → w.f = 0 → w.b = 0 → Sys2Proof.Claims.reads s e w n o b → Does (mk e w) s fun t =>
      Retires s t e (x.pc + 1) ∧
      GetsS x (engOf t e) w.d (if sgn then ((BitVec.ofNat (8 * n) (v n)).signExtend 64).toNat else v n) ∧
      KeepsP x (engOf t e) ∧ KeepsV x (engOf t e) ∧ KeepsT x (engOf t e) ∧ (x.nst = [] → (engOf t e).neve = x.neve)) ∧
    (Issues s e 0x0d 0 w → w.f = 0 → w.b = 0 → Sys2Proof.Claims.reads s e w 128 o b → Does (.iVld e w) s fun t =>
      Retires s t e (x.pc + 1) ∧ GetsV x (engOf t e) w.d (v 128) ∧
      KeepsS x (engOf t e) ∧ KeepsP x (engOf t e) ∧ KeepsT x (engOf t e) ∧ (x.nst = [] → (engOf t e).neve = x.neve))

/-- STS and VST (R227, R187, Table 10.10): the low bytes of the register go, little-endian, to rA plus IMM. In the own store
they are there at once and every other byte keeps; through the window they are in the owner's store or wait as a neighbour
store of the engine. Every register keeps. While older neighbour stores wait, the rest of a store is left open. -/
def Sys2Proof.Claims.storesWriteTheStore : Prop :=
  ∀ (e : Nat) (w : Ins) (s : State) (o b : Nat), let x := engOf s e
    let a := Sys2Proof.Claims.address w x
    let does := fun (c : Instr) (n v : Nat) => storeAt s e a = some (o, b) → a % n = 0 → Does c s fun t =>
      KeepsS x (engOf t e) ∧ KeepsP x (engOf t e) ∧ KeepsV x (engOf t e) ∧ KeepsT x (engOf t e) ∧
      (engOf t e).pc = (x.pc + 1) % 2 ^ 64 ∧ t.mem = s.mem ∧
      (a < 0x100000 → x.nst = [] → ∀ q, rdByte (engOf t e).neve q =
        if b ≤ q ∧ q < b + n then BitVec.ofNat 8 (v / 256 ^ (q - b)) else rdByte x.neve q) ∧
      (0x100000 ≤ a → x.nst = [] → ((engOf t e).nst = [] ∧ ∀ q, rdByte (engOf t o).neve q =
          if b ≤ q ∧ q < b + n then BitVec.ofNat 8 (v / 256 ^ (q - b)) else rdByte (engOf s o).neve q) ∨
        ((engOf t e).nst = [⟨o, b, natLe n v⟩] ∧ (engOf t o).neve = (engOf s o).neve))
    (∀ mk op n, (mk, op, n) ∈ ([(.iStb, 8, 1), (.iSth, 9, 2), (.iStw, 10, 4), (.iStd, 11, 8)] : List ((Nat → Ins → Instr) × Nat × Nat)) →
      Issues s e 0x0c op w → w.f = 0 → w.d = 0 → does (mk e w) n (sreg x w.b)) ∧
    (Issues s e 0x0d 1 w → w.f = 0 → w.d = 0 → does (.iVst e w) 128 (vreg x w.b))

/-- Faults of store accesses (R227, R232, Table 8.6): an address that reaches no store faults with NEVE_RANGE, one that is not a
multiple of the width with ALIGN, a load of a poisoned chunk with POISON; nothing is loaded or stored. -/
def Sys2Proof.Claims.storeAccessFaults : Prop :=
  ∀ (e : Nat) (w : Ins) (s : State) (mk : Nat → Ins → Instr) (cls op n : Nat) (load : Bool),
    (mk, cls, op, n, load) ∈ ([(.iLdb, 0x0c, 0, 1, true), (.iLdbu, 0x0c, 1, 1, true), (.iLdh, 0x0c, 2, 2, true), (.iLdhu, 0x0c, 3, 2, true),
        (.iLdw, 0x0c, 4, 4, true), (.iLdwu, 0x0c, 5, 4, true), (.iLdd, 0x0c, 6, 8, true), (.iVld, 0x0d, 0, 128, true),
        (.iStb, 0x0c, 8, 1, false), (.iSth, 0x0c, 9, 2, false), (.iStw, 0x0c, 10, 4, false), (.iStd, 0x0c, 11, 8, false),
        (.iVst, 0x0d, 1, 128, false)] : List ((Nat → Ins → Instr) × Nat × Nat × Nat × Bool)) →
    Issues s e cls op w → w.f = 0 → (if load then w.b = 0 else w.d = 0) →
    let x := engOf s e
    let a := Sys2Proof.Claims.address w x
    (storeAt s e a = none → Does (mk e w) s fun t => Faults s t e 3 stPermission ∧ t.get (ENG_FAULT_ADDR_ADDR e) = a) ∧
    (storeAt s e a ≠ none → a % n ≠ 0 → Does (mk e w) s fun t => Faults s t e 4 stPermission ∧ t.get (ENG_FAULT_ADDR_ADDR e) = a) ∧
    (a < 0x100000 → a % n = 0 → load = true → bytesPoisoned x a n = true → Does (mk e w) s fun t =>
      Faults s t e 6 stPoisoned ∧ t.get (ENG_FAULT_ADDR_ADDR e) = a)

/-- SYNC instructions (R230, R231, Table 10.12): a tag wait whose tags are done and TSTAT go on, an unfinished wait makes the
engine WAITING; BAR arrives and waits; BARMASK sets the members; SEMSIG adds to its semaphore, SEMWAIT and SEMTRY take from
one that holds enough when nobody waits; NFENCE completes the neighbour stores. -/
def Obligations.SynchronisationInstructions : Prop :=
  ∀ (e : Nat) (w : Ins) (s : State), let x := engOf s e
    let c := e / 16
    let keeps := fun (t : State) => KeepsP x (engOf t e) ∧ KeepsV x (engOf t e) ∧ KeepsT x (engOf t e)
    let goes := fun (t : State) => (engOf t e).pc = (x.pc + 1) % 2 ^ 64 ∧ engSt t e = 2 ∧ KeepsS x (engOf t e) ∧ keeps t ∧ t.mem = s.mem
    let waits := fun (t : State) (k : EWait) => (engOf t e).pc = x.pc ∧ (engOf t e).wait = some k ∧ engSt t e = 3 ∧
      KeepsS x (engOf t e) ∧ keeps t ∧ t.mem = s.mem
    let tag := (sreg x w.rc + w.x) % 512
    let n := w.x / 32
    let m := w.x % 32
    (Issues s e 0x0f 0 w → w.f = 0 → w.d = 0 → w.a = 0 → w.b = 0 → w.x < 512 → Does (.iTwait e w) s fun t =>
      (tagOut x tag = false → goes t) ∧ (tagOut x tag = true → waits t (.tag tag))) ∧
    (Issues s e 0x0f 1 w → w.f = 0 → w.d = 0 → w.a = 0 → w.b = 0 → w.imm = 0 → Does (.iTwaitall e w) s fun t =>
      (tagsOut x = 0 → goes t) ∧ (tagsOut x ≠ 0 → waits t .all)) ∧
    (Issues s e 0x0f 2 w → w.f = 0 → w.d = 0 → w.a = 0 → w.b = 0 → w.rc = 0 → w.x < 512 → Does (.iTwaitn e w) s fun t =>
      (tagsOut x ≤ w.x → goes t) ∧ (w.x < tagsOut x → waits t (.most w.x))) ∧
    (Issues s e 0x0f 3 w → w.f = 0 → w.a = 0 → w.b = 0 → w.x < 512 → Does (.iTstat e w) s fun t =>
      Retires s t e (x.pc + 1) ∧ GetsS x (engOf t e) w.d (tagWord x tag) ∧ keeps t) ∧
    (Issues s e 0x0f 4 w → w.f = 0 → w.d = 0 → w.a = 0 → w.b = 0 → w.rc = 0 → w.x < 8 →
      bit (members s c w.x) (e % 16) = true → brokenBar s c w.x = false → Does (.iBar e w) s fun t =>
      (engOf t e).wait = some (.bar w.x) ∧ engSt t e = 3 ∧ bit (arrived t c w.x) (e % 16) = true ∧ (engOf t e).pc = x.pc ∧
      KeepsS x (engOf t e) ∧ keeps t) ∧
    (Issues s e 0x0f 5 w → w.f = 0 → w.d = 0 → w.b = 0 → w.rc = 0 → w.x < 8 →
      (let k := sreg x w.a % 65536; Nat.land k (members s c w.x) = k ∧ Nat.land (arrived s c w.x) k = arrived s c w.x) →
      Does (.iBarmask e w) s fun t => goes t ∧ members t c w.x = sreg x w.a % 65536) ∧
    (Issues s e 0x0f 6 w → w.f = 0 → w.d = 0 → w.a = 0 → w.b = 0 → w.rc = 0 → 1 ≤ n → n < 65536 → semCount s c m + n ≤ 65535 →
      Does (.iSemsig e w) s fun t => goes t ∧ semCount t c m = semCount s c m + n) ∧
    (Issues s e 0x0f 7 w → w.f = 0 → w.d = 0 → w.a = 0 → w.b = 0 → w.rc = 0 → 1 ≤ n → n < 65536 →
      Does (.iSemwait e w) s fun t =>
      (semWaiters s c m = [] ∧ n ≤ semCount s c m → goes t ∧ semCount t c m = semCount s c m - n) ∧
      (¬ (semWaiters s c m = [] ∧ n ≤ semCount s c m) → waits t (.sem m n) ∧ semWaiters t c m = semWaiters s c m ++ [(e, n)])) ∧
    (Issues s e 0x0f 8 w → w.f = 0 → w.a = 0 → w.b = 0 → w.rc = 0 → 1 ≤ n → n < 65536 →
      Does (.iSemtry e w) s fun t => (engOf t e).pc = (x.pc + 1) % 2 ^ 64 ∧ keeps t ∧
      (semWaiters s c m = [] ∧ n ≤ semCount s c m → semCount t c m = semCount s c m - n ∧ GetsS x (engOf t e) w.d 1) ∧
      (¬ (semWaiters s c m = [] ∧ n ≤ semCount s c m) → semCount t c m = semCount s c m ∧ GetsS x (engOf t e) w.d 0)) ∧
    (Issues s e 0x0f 9 w → w.f = 0 → w.d = 0 → w.a = 0 → w.b = 0 → w.imm = 0 → Does (.iNfence e w) s fun t =>
      goes t ∧ (engOf t e).nst = [])

/-- The statements above: loads read the store, stores write the store, store access faults. -/
def Obligations.StoreAccessesMoveTheirBytes : Prop :=
  Sys2Proof.Claims.loadsReadTheStore ∧
  Sys2Proof.Claims.storesWriteTheStore ∧
  Sys2Proof.Claims.storeAccessFaults

/-! Extents, leases and fences (chapter 02). -/

/-- The lease that CREATE and SET_HOLDER leave the new holder (R33): a fresh HELD one where it had none or an EXPIRED one. -/
def Sys2Proof.Claims.joined (s : State) (a : Nat) : Option Lease :=
  match NMap.find s.ext.leases a with
  | some ⟨.held, x, t, g⟩ => some ⟨.held, x, t, g⟩
  | some ⟨.grace, x, t, g⟩ => some ⟨.grace, x, t, g⟩
  | _ => some ⟨.held, s.now + 1000000 * s.get EXT_CFG_DEFAULT_TERM_MS, s.get EXT_CFG_DEFAULT_TERM_MS, 0⟩

/-- The state an extent takes under its holder's lease (R33): GRACE where that lease is in its grace period, else ACTIVE. -/
def Sys2Proof.Claims.under (s : State) (a : Nat) : ExtState :=
  if (NMap.find s.ext.leases a).any (fun l => l.st = .grace) then .grace else .active

/-- CREATE (R27, R29, R33, Table 2.13): a granule-aligned free range under NODE_CAP, with a new ID of this node, for an agent
of a configured tenant and a region of that tenant, whose pages placement can place, becomes an extent with the fields of the
command; its page counters start at zero. The checks before placement refuse in Table 2.13's order and change nothing else. -/
def Sys2Proof.Claims.createMakesAnExtent : Prop :=
  ∀ s : State, s.get EXT_CMD_CTL_BUSY = 0 →
    let id := s.get EXT_CMD0_EXTENT_ID
    let base := s.get EXT_CMD1_BASE
    let len := s.get EXT_CMD2_LENGTH
    let a := s.get EXT_CMD0_HOLDER
    let ten := s.get EXT_CMD0_TENANT
    let shape := base % 0x200000 = 0 ∧ 1 ≤ len ∧ len ≤ 262144
    let range := base + 0x200000 * len ≤ s.get EXT_CAP_NODE_CAP * 0x200000 ∧
      ∀ x ∈ NMap.vals s.ext.table, base + 0x200000 * len ≤ x.base ∨ x.base + 0x200000 * x.length ≤ base
    let room := s.ext.table.length < s.get EXT_CAP_MAX_EXTENTS
    let name := NMap.find s.ext.table id = none ∧ id / 2 ^ 26 = s.node ∧ id % 2 ^ 26 ≠ 0
    let refused := fun (d : Nat) => Does .extCreate s fun t => EndedRefused s t EXT_CMD_CTL_STATUS EXT_CMD_CTL_DETAIL d
    (∀ u : State, shape → range → room → name → s.get MIR_STATUS_STATE ≠ 3 → s.get MIR_STATUS_STATE ≠ 4 →
      configured s ten = true → agentOf s a = some ten → s.get EXT_EVENT_OVERCOMMIT = 0 →
      (∃ r, NMap.find s.dir.regions (s.get EXT_CMD2_REGION_ID) = some r ∧ r.tenant = ten) →
      s.placePages (base / 0x200000) len = some u → Does .extCreate s fun t =>
      NMap.find t.ext.table id = some
        { tenant := ten, st := Sys2Proof.Claims.under s a, mode := RMode.ofCode (s.get EXT_CMD2_MODE),
          mirrored := s.get EXT_CMD2_MIRRORED != 0, rights := s.get EXT_CMD2_RIGHTS, base := base, length := len, holder := a,
          createTime := s.now, fenceTime := 0, fenceGen := 0, regionId := s.get EXT_CMD2_REGION_ID, cause := 0 } ∧
      OthersKept s.ext.table t.ext.table id ∧
      NMap.find t.ext.leases a = Sys2Proof.Claims.joined s a ∧ OthersKept s.ext.leases t.ext.leases a ∧
      (∀ p, NMap.find t.xlt.counters p =
        if base / 0x200000 ≤ p ∧ p < base / 0x200000 + len then none else NMap.find s.xlt.counters p) ∧
      Ended s t EXT_CMD_CTL_STATUS EXT_CMD_CTL_DETAIL [] ∧
      t = { s with
        plc := u.plc
        fresh := u.fresh
        regs := t.regs
        ext := { s.ext with table := t.ext.table, leases := t.ext.leases }
        xlt := { s.xlt with counters := t.xlt.counters } }) ∧
    (¬ shape → refused 0x2) ∧ (shape → ¬ range → refused 0x1) ∧ (shape → range → ¬ room → refused 0x3) ∧
    (shape → range → room → ¬ name → refused 0x4)

/-- A fence returns the slot that is being published of an extent it reaches to STAGING (R70); the regions are otherwise as
they were. -/
def Sys2Proof.Claims.unpublished (s t : State) (reached : Nat → Bool) : Prop :=
  ∀ q, NMap.find t.dir.regions q = (NMap.find s.dir.regions q).map fun r =>
    { r with slots := r.slots.map fun v => if reached v.extent ∧ v.role = .publishing then { v with role := .staging } else v }

/-- REVOKE, SET_HOLDER, SET_RIGHTS and QUERY (R30, R33, R39, R42, Table 2.12): an ACTIVE or GRACE extent enters FENCING with the
next generation, one of the same tenant's agents becomes the holder, the rights are replaced, the entry is shown. An unknown
ID is refused with DETAIL 0x9, an extent that is being fenced with 0x5. -/
def Sys2Proof.Claims.extentCommandsChangeTheirEntry : Prop :=
  ∀ (s : State) (x : Extent), s.get EXT_CMD_CTL_BUSY = 0 →
    let id := s.get EXT_CMD0_EXTENT_ID
    let a := s.get EXT_CMD0_HOLDER
    let fenced := x.st = .fencing ∨ x.st = .scrubbing
    let waits := fun (y : Extent) => y.st = .fencing ∧ y.fenceGen = 0
    let g := s.get EXT_FENCE_CUR_GEN + 1
    let refused := fun (c : Instr) (d : Nat) => Does c s fun t => EndedRefused s t EXT_CMD_CTL_STATUS EXT_CMD_CTL_DETAIL d
    (NMap.find s.ext.table id = some x → ¬ fenced → g ≤ s.get EXT_FENCE_DONE_GEN + 3 → Does .extRevoke s fun t =>
      NMap.find t.ext.table id = some { x with st := .fencing, fenceTime := s.now, fenceGen := g, cause := 1 } ∧
      (∀ i, i ≠ id → NMap.find t.ext.table i =
        (NMap.find s.ext.table i).map fun y => if waits y then { y with fenceGen := g } else y) ∧
      t.get EXT_FENCE_CUR_GEN = g % 2 ^ 32 ∧ t.get EXT_CMD_CTL_STATUS = stOK ∧ t.get EXT_CMD_CTL_DETAIL = 0 ∧
      Sys2Proof.Claims.unpublished s t (· == id) ∧
      ((∀ l ∈ NMap.keys s.dir.entries, ∀ p ∈ s.ext.table, (p.1 = id ∨ waits p.2) → p.2.has (128 * l) = false) →
        RegsKept s t [EXT_CMD_CTL_STATUS, EXT_CMD_CTL_DETAIL, EXT_FENCE_CUR_GEN, DBG_TCFG_MODE, DBG_TSTAT_BUF_LOST,
          MGT_NOTIFY_PENDING] ∧
        t = { s with
          regs := t.regs
          ext := { s.ext with table := t.ext.table }
          dir := { s.dir with regions := t.dir.regions } })) ∧
    (NMap.find s.ext.table id = some x → ¬ fenced → s.get EXT_FENCE_DONE_GEN + 3 < g → Does .extRevoke s fun t =>
      t.get EXT_CMD_CTL_BUSY = 1 ∧ RegsKept s t [EXT_CMD_CTL_BUSY] ∧
      t = { s with regs := t.regs, ext := { s.ext with revokeWait := some id } }) ∧
    (NMap.find s.ext.table id = some x → x.st = .active → agentOf s a = some x.tenant → Does .setHolder s fun t =>
      NMap.find t.ext.table id = some { x with holder := a, st := Sys2Proof.Claims.under s a } ∧
      OthersKept s.ext.table t.ext.table id ∧
      (∀ r, NMap.find t.ext.leases r =
        if r = x.holder ∧ (∀ p ∈ t.ext.table, p.2.holder ≠ r) then none
        else if r = a then Sys2Proof.Claims.joined s a else NMap.find s.ext.leases r) ∧
      Ended s t EXT_CMD_CTL_STATUS EXT_CMD_CTL_DETAIL [] ∧
      t = { s with regs := t.regs, ext := { s.ext with table := t.ext.table, leases := t.ext.leases } }) ∧
    (NMap.find s.ext.table id = some x → ¬ fenced → Does .setRights s fun t =>
      NMap.find t.ext.table id = some { x with rights := s.get EXT_CMD2_RIGHTS } ∧ OthersKept s.ext.table t.ext.table id ∧
      Ended s t EXT_CMD_CTL_STATUS EXT_CMD_CTL_DETAIL [] ∧
      t = { s with regs := t.regs, ext := { s.ext with table := t.ext.table } }) ∧
    (NMap.find s.ext.table id = some x → Does .extQuery s fun t =>
      t.get EXT_CMD0_HOLDER = x.holder % 2 ^ 12 ∧ t.get EXT_CMD0_TENANT = x.tenant % 2 ^ 10 ∧
      t.get EXT_CMD1_BASE = x.base % 2 ^ 44 ∧ t.get EXT_CMD2_LENGTH = x.length % 2 ^ 19 ∧
      t.get EXT_CMD2_RIGHTS = x.rights % 2 ^ 4 ∧ t.get EXT_CMD2_MODE = x.mode.code ∧
      t.get EXT_CMD2_REGION_ID = x.regionId % 2 ^ 32 ∧ t.get EXT_CMD2_MIRRORED = b2n x.mirrored ∧
      (∀ i < 8, t.get (EXT_VIEW_DATA i) = leNat (slice (extentBytes id x) (8 * i) 8) % 2 ^ 64) ∧
      Ended s t EXT_CMD_CTL_STATUS EXT_CMD_CTL_DETAIL ([EXT_CMD0_HOLDER, EXT_CMD0_TENANT, EXT_CMD1_BASE, EXT_CMD2_LENGTH,
        EXT_CMD2_RIGHTS, EXT_CMD2_MODE, EXT_CMD2_REGION_ID, EXT_CMD2_MIRRORED] ++ (List.range 8).map EXT_VIEW_DATA) ∧
      t = { s with regs := t.regs }) ∧
    (∀ c ∈ ([.extRevoke, .setHolder, .setRights, .extQuery] : List Instr), NMap.find s.ext.table id = none → refused c 0x9) ∧
    (∀ c ∈ ([.extRevoke, .setHolder, .setRights] : List Instr), NMap.find s.ext.table id = some x → fenced → refused c 0x5) ∧
    (NMap.find s.ext.table id = some x → x.st = .active → agentOf s a ≠ some x.tenant → refused .setHolder 0x7)

/-- LEASE_RENEW, LEASE_LAPSED, LEASE_EXPIRED (R34, R35): a renewal moves the expiry, never back, and a late one lifts GRACE; a
lease that runs out enters its grace period, its holder's ACTIVE extents with it; at its end the holder's GRACE extents are
fenced with CAUSE 0x02. The three events do nothing else, and nothing at all before their time. -/
def Sys2Proof.Claims.leasesLapseAndRenew : Prop :=
  ∀ (s : State) (l : Lease) (a : Nat), NMap.find s.ext.leases a = some l →
    let serves := s.get MIR_STATUS_STATE ≠ 3 ∧ s.get MIR_STATUS_STATE ≠ 4
    let moved := fun (t : State) (old new : ExtState) => ∀ i, NMap.find t.ext.table i =
      (NMap.find s.ext.table i).map fun x => if x.holder = a ∧ x.st = old then { x with st := new } else x
    let only := fun (t : State) => t = { s with regs := t.regs, ext := { s.ext with table := t.ext.table, leases := t.ext.leases } }
    let ends := s.get EXT_CFG_GRACE_MS * 1000000 + l.graceFrom ≤ s.now
    let g := s.get EXT_FENCE_CUR_GEN + 1
    (∀ w term, slotOfAgent s a = some w → term < 65536 → l.st ≠ .expired →
      (term = 0 ∨ (100 ≤ term ∧ term ≤ s.get EXT_CFG_TERM_MAX_MS)) → Does (.leaseRenew w a term) s fun t =>
      let ms := if term = 0 then s.get EXT_CFG_DEFAULT_TERM_MS else term
      NMap.find t.ext.leases a = some ⟨.held, max l.expiry (s.now + 1000000 * ms), ms, 0⟩ ∧
      OthersKept s.ext.leases t.ext.leases a ∧ only t ∧
      (l.st = .held → t.regs = s.regs ∧ t.ext.table = s.ext.table) ∧
      (l.st = .grace → moved t .grace .active ∧ Raised s t EXT_EVENT_LATE_RENEW ∧
        RegsKept s t [EXT_EVENT_LATE_RENEW, MGT_NOTIFY_PENDING])) ∧
    (∀ w term, slotOfAgent s a = some w → term < 65536 →
      (l.st = .expired ∨ (term ≠ 0 ∧ (term < 100 ∨ s.get EXT_CFG_TERM_MAX_MS < term))) →
      Does (.leaseRenew w a term) s fun t => t = s) ∧
    (l.st = .held → l.expiry ≤ s.now → serves → Does (.leaseLapsed a) s fun t =>
      NMap.find t.ext.leases a = some { l with st := .grace, graceFrom := l.expiry } ∧
      OthersKept s.ext.leases t.ext.leases a ∧ moved t .active .grace ∧ Raised s t EXT_EVENT_LEASE_LAPSED ∧
      RegsKept s t [EXT_EVENT_LEASE_LAPSED, MGT_NOTIFY_PENDING] ∧ only t) ∧
    (s.now < l.expiry → Does (.leaseLapsed a) s fun t => t = s) ∧
    (NMap.wf s.ext.table = true → l.st = .grace → ends → serves → Does (.leaseExpired a) s fun t =>
      NMap.find t.ext.leases a = some { l with st := .expired } ∧ OthersKept s.ext.leases t.ext.leases a ∧
      Raised s t EXT_EVENT_LEASE_EXPIRED ∧
      (∀ i x, NMap.find s.ext.table i = some x → x.holder = a → x.st = .grace → NMap.find t.ext.table i = some
        { x with st := .fencing, fenceTime := s.now, cause := 2, fenceGen := if g ≤ s.get EXT_FENCE_DONE_GEN + 3 then g else 0 }) ∧
      (∀ i x, NMap.find s.ext.table i = some x → ¬ (x.holder = a ∧ x.st = .grace) → ¬ (x.st = .fencing ∧ x.fenceGen = 0) →
        NMap.find t.ext.table i = some x) ∧
      Sys2Proof.Claims.unpublished s t (fun i => (NMap.find s.ext.table i).any fun x => x.holder == a && x.st == .grace) ∧
      (s.dir.entries = [] → RegsKept s t [EXT_EVENT_LEASE_EXPIRED, EXT_FENCE_CUR_GEN, DBG_TCFG_MODE, DBG_TSTAT_BUF_LOST,
          MGT_NOTIFY_PENDING] ∧ t = { s with
        regs := t.regs
        ext := { s.ext with table := t.ext.table, leases := t.ext.leases }
        dir := { s.dir with regions := t.dir.regions } })) ∧
    (¬ ends → Does (.leaseExpired a) s fun t => t = s)

/-- FENCE_GENERATION_BEGIN, FENCE_DONE and RECLAIM_DONE (R32, R39, R42): a generation takes every fence that waits; once its
requests, their replies, its entries and transactions are gone DONE_GEN advances by one and its extents enter SCRUBBING; the
scrub of the first leaves no byte, no frame, no counter and no entry of it. -/
def Sys2Proof.Claims.fencesDrainAndReclaim : Prop :=
  ∀ s : State,
    let cur := s.get EXT_FENCE_CUR_GEN
    let d := s.get EXT_FENCE_DONE_GEN
    let waits := fun (x : Extent) => x.st = .fencing ∧ x.fenceGen = 0
    let joins := fun (x : Extent) => x.st = .fencing ∧ x.fenceGen = d + 1
    (s.dir.entries = [] → cur < d + 3 → (∃ x ∈ NMap.vals s.ext.table, waits x) → Does .fenceGenerationBegin s fun t =>
      t.get EXT_FENCE_CUR_GEN = (cur + 1) % 2 ^ 32 ∧
      (∀ i, NMap.find t.ext.table i =
        (NMap.find s.ext.table i).map fun x => if waits x then { x with fenceGen := cur + 1 } else x) ∧
      RegsKept s t [EXT_FENCE_CUR_GEN] ∧ t = { s with regs := t.regs, ext := { s.ext with table := t.ext.table } }) ∧
    (d + 3 ≤ cur → Does .fenceGenerationBegin s fun t => t = s) ∧
    (d + 1 ≤ cur → (∀ k ∈ NMap.keys s.ext.inflight, d + 1 ≤ k) → (∀ r ∈ s.ext.leaving, d + 1 ≤ r.1 ∨ stillHere s r.2 = false) →
      (∀ x ∈ NMap.vals s.ext.table, joins x → entryLines s x = [] ∧ ∀ u ∈ s.dir.txns, x.has (128 * u.line) = false) →
      s.ext.revokeWait = none → Does .fenceDone s fun t =>
      t.get EXT_FENCE_DONE_GEN = (d + 1) % 2 ^ 32 ∧ Raised s t EXT_EVENT_FENCE_DONE ∧
      (∀ i, NMap.find t.ext.table i =
        (NMap.find s.ext.table i).map fun x => if joins x then { x with st := .scrubbing } else x) ∧
      (∃ ids, t.ext.scrubQ = s.ext.scrubQ ++ ids ∧ ∀ i, i ∈ ids ↔ ∃ x, (i, x) ∈ s.ext.table ∧ joins x) ∧
      RegsKept s t [EXT_FENCE_DONE_GEN, EXT_EVENT_FENCE_DONE, MGT_NOTIFY_PENDING] ∧
      t = { s with regs := t.regs, ext := { s.ext with table := t.ext.table, scrubQ := t.ext.scrubQ } }) ∧
    ((cur < d + 1 ∨ (∃ k ∈ NMap.keys s.ext.inflight, k < d + 1) ∨ ∃ r ∈ s.ext.leaving, r.1 < d + 1 ∧ stillHere s r.2 = true) →
      Does .fenceDone s fun t => t = s) ∧
    (∀ id rest x, s.ext.scrubQ = id :: rest → NMap.find s.ext.table id = some x →
      (∀ m ∈ NMap.keys s.plc.moves, x.has (0x200000 * m) = false) → (∀ p ∈ s.plc.fills, x.has (0x200000 * p) = false) →
      Does .reclaimDone s fun t =>
      NMap.find t.ext.table id = none ∧ OthersKept s.ext.table t.ext.table id ∧ t.ext.scrubQ = rest.filter (· ≠ id) ∧
      Raised s t EXT_EVENT_RECLAIM_DONE ∧
      (∀ q, rdByte t.mem q = if x.has q then 0#8 else rdByte s.mem q) ∧ t.poison = s.poison.filter (fun c => !x.has (64 * c)) ∧
      (∀ p, NMap.find t.plc.map p = if x.has (0x200000 * p) then none else NMap.find s.plc.map p) ∧
      (∀ r, NMap.find t.ext.leases r =
        if r = x.holder ∧ (∀ p ∈ t.ext.table, p.2.holder ≠ r) then none else NMap.find s.ext.leases r) ∧
      RegsKept s t [EXT_EVENT_RECLAIM_DONE, MGT_NOTIFY_PENDING, PLC_CMD_CTL_BUSY, PLC_CMD_CTL_STATUS, PLC_CMD_CTL_DETAIL,
        PLC_EVENT_MOVE_DONE, MIR_SEQ_WRITE_SEQ] ∧ (mirrors s x = false → t.mir = s.mir ∧ t.fab = s.fab) ∧
      t = { s with
        regs := t.regs
        ext := { s.ext with table := t.ext.table, scrubQ := t.ext.scrubQ, leases := t.ext.leases }
        mem := t.mem
        poison := t.poison
        plc := t.plc
        xlt := { s.xlt with counters := t.xlt.counters }
        mch := { s.mch with ctl := t.mch.ctl }
        mir := t.mir
        fab := t.fab })

/-- The statements above: create makes an extent, extent commands change their entry. -/
def Obligations.ExtentsAreCreatedAndChanged : Prop :=
  Sys2Proof.Claims.createMakesAnExtent ∧
  Sys2Proof.Claims.extentCommandsChangeTheirEntry

/-- The statements above: leases lapse and renew, fences drain and reclaim. -/
def Obligations.LeasesAndFenceGenerations : Prop :=
  Sys2Proof.Claims.leasesLapseAndRenew ∧
  Sys2Proof.Claims.fencesDrainAndReclaim

/-! Regions and versions (chapter 03). -/

/-- The region commands (R62, R69, R75, Table 3.14): CREATE makes the record of its fields with eight EMPTY slots, DESTROY
removes one that no extent names, SET_HOLD sets the hold window, QUERY shows the record, ADD_VERSION fills an EMPTY slot of a
PUBLISHED region as STAGING, REMOVE_VERSION empties a STAGING slot, CLEAR_READERS zeroes a version's readers and frees it
where it is RETAINED. Every other region is as before. -/
def Sys2Proof.Claims.regionCommandsChangeTheirRecord : Prop :=
  ∀ (s : State) (r : Region), s.get REG_CMD_CTL_BUSY = 0 →
    let id := s.get REG_CMD0_REGION_ID
    let x := s.get REG_CMD0_ARG
    let hold := if s.get REG_CMD1_HOLD_10NS = 0x1ff then s.get DIR_CFG_DEFAULT_HOLD_10NS else s.get REG_CMD1_HOLD_10NS
    let known := NMap.find s.dir.regions id = some r
    let ok := fun (t : State) (l : List Fld) => Ended s t REG_CMD_CTL_STATUS REG_CMD_CTL_DETAIL l ∧
      t = { s with regs := t.regs, dir := { s.dir with regions := t.dir.regions } } ∧
      OthersKept s.dir.regions t.dir.regions id
    let becomes := fun (t : State) (q : Option Region) => NMap.find t.dir.regions id = q
    let refused := fun (c : Instr) (d : Nat) => Does c s fun t => EndedRefused s t REG_CMD_CTL_STATUS REG_CMD_CTL_DETAIL d
    let ofVersion := fun (v : Slot) => (v.role = .current ∨ v.role = .retained) ∧ v.version = x
    let named := ∃ p ∈ s.ext.table, p.2.regionId = id
    (NMap.find s.dir.regions id = none → id / 2 ^ 26 = s.node → id % 2 ^ 26 ≠ 0 → s.dir.regions.length < 65536 →
      s.get REG_CMD1_MODE ≠ 3 → hold ≤ 500 → configured s (s.get REG_CMD1_TENANT) = true → Does .regionCreate s fun t => ok t [] ∧
      becomes t (some { mode := RMode.ofCode (s.get REG_CMD1_MODE), grantE := s.get REG_CMD1_GRANT_E != 0, hold := hold,
                        curVersion := 0, tenant := s.get REG_CMD1_TENANT, slots := List.replicate 8 ⟨0, 0, .empty, 0⟩ })) ∧
    (known → ¬ named → Does .regionDestroy s fun t => ok t [] ∧ becomes t none) ∧
    (known → hold ≤ 500 → Does .setHold s fun t => ok t [] ∧ becomes t (some { r with hold := hold })) ∧
    (known → Does .regionQuery s fun t => ok t ((List.range 16).map REG_VIEW_DATA) ∧ becomes t (some r) ∧
      ∀ i < 16, t.get (REG_VIEW_DATA i) = leNat (slice (regionBytes id r) (8 * i) 8) % 2 ^ 64) ∧
    (known → r.mode = .published → (∃ e, NMap.find s.ext.table x = some e ∧ e.regionId = id) →
      (∀ v ∈ r.slots, v.role = .empty ∨ v.extent ≠ x) → (∃ v ∈ r.slots, v.role = .empty) → Does .addVersion s fun t => ok t [] ∧
      ∃ (i : Nat) (v : Slot), r.slots[i]? = some v ∧ v.role = .empty ∧ (∀ j < i, ∀ u : Slot, r.slots[j]? = some u → u.role ≠ .empty) ∧
        becomes t (some { r with slots := r.slots.set i ⟨x, 0, .staging, 0⟩ })) ∧
    (known → r.mode = .published → (∃ v ∈ r.slots, v.role = .staging ∧ v.extent = x) → Does .removeVersion s fun t => ok t [] ∧
      becomes t (some { r with slots := r.slots.map fun v =>
        if v.role = .staging ∧ v.extent = x then ⟨0, 0, .empty, 0⟩ else v })) ∧
    (known → r.mode = .published → (∃ v ∈ r.slots, ofVersion v) → Does .clearReaders s fun t =>
      ok t [DIR_EVENT_VERSION_FREE, MGT_NOTIFY_PENDING] ∧
      (∃ q, becomes t (some q) ∧ { q with slots := r.slots } = r ∧ q.slots.length = r.slots.length ∧
        ∀ (i : Nat) (v : Slot), r.slots[i]? = some v → q.slots[i]? = some (
          let n := if ofVersion v then 0 else v.readers
          if v.role = .retained ∧ n = 0 then ⟨v.extent, 0, .staging, 0⟩ else { v with readers := n })) ∧
      ((∃ v ∈ r.slots, v.role = .retained ∧ (ofVersion v ∨ v.readers = 0)) → Raised s t DIR_EVENT_VERSION_FREE)) ∧
    (known → named → refused .regionDestroy 0x4) ∧ (known → refused .regionCreate 0x1) ∧
    (∀ c ∈ ([.regionDestroy, .setHold, .regionQuery, .addVersion, .removeVersion, .clearReaders] : List Instr),
      NMap.find s.dir.regions id = none → refused c 0x2) ∧
    (∀ c ∈ ([.addVersion, .removeVersion, .clearReaders] : List Instr), known → r.mode ≠ .published → refused c 0x5) ∧
    (known → 500 < hold → refused .setHold 0x7)

/-- VERACQUIRE, VERRELEASE, PUBLISH_ACCEPT and PUBLISH_COMPLETE (R68, R69, Tables 3.8 and 3.9): an acquire counts a reader of
the CURRENT version and answers its number, extent and base; a release counts one down and frees a RETAINED version without
readers; an accepted PUBLISH locks its STAGING slot as PUBLISHING, and completes as CURRENT with the next version number, the
version before it RETAINED, or STAGING where it has no reader. -/
def Sys2Proof.Claims.versionsAreAcquiredAndPublished : Prop :=
  ∀ (s : State) (port : Nat) (p : Pkt) (region : Nat) (r : Region),
    NMap.find s.dir.regions region = some r →
    let slots := fun (t : State) (f : Slot → Slot) (v : Nat) =>
      NMap.find t.dir.regions region = some { r with slots := r.slots.map f, curVersion := v } ∧
      OthersKept s.dir.regions t.dir.regions region
    let regOnly := fun (t : State) => t = { s with
      regs := t.regs
      fab := t.fab
      dir := { s.dir with regions := t.dir.regions } }
    let freed := fun (v : Slot) => if v.role = .retained ∧ v.readers = 0 then ({ v with role := .staging, version := 0 } : Slot) else v
    (∀ v, fabricGate s p = .pass → r.mode = .published → r.tenant = p.tenant → r.curVersion ≠ 0 →
      r.slots.find? (fun v => v.role = .current) = some v → v.readers ≠ 65535 → Does (.veracquire port p region) s fun t =>
      slots t (fun u => if u.role = .current then { u with readers := u.readers + 1 } else u) r.curVersion ∧
      Sends s t { replyTo s p 0x79 stOK with
        len := 16
        payload := natLe 4 v.version ++ natLe 4 v.extent ++ natLe 8 ((NMap.find s.ext.table v.extent).elim 0 Extent.base) } ∧
      regOnly t ∧ t.regs = s.regs) ∧
    (∀ version, fabricGate s p = .pass → r.mode = .published → r.tenant = p.tenant →
      let sel := fun (v : Slot) => (v.role = .current ∨ v.role = .retained) ∧ v.version = version ∧ v.readers ≠ 0
      (∃ v ∈ r.slots, sel v) → p.opcode = 0x73 → Does (.verrelease port p region version) s fun t =>
      slots t (fun v => freed (if sel v then { v with readers := v.readers - 1 } else v)) r.curVersion ∧
      Sends s t (replyTo s p 0x7a stOK) ∧ regOnly t ∧ RegsKept s t [DIR_EVENT_VERSION_FREE, MGT_NOTIFY_PENDING] ∧
      ((∃ v ∈ r.slots, v.role = .retained ∧ (v.readers = 0 ∨ (sel v ∧ v.readers = 1))) → Raised s t DIR_EVENT_VERSION_FREE)) ∧
    (∀ c ∈ ([.veracquire port p region, .verrelease port p region 0] : List Instr), fabricGate s p = .pass →
      (r.mode ≠ .published ∨ r.tenant ≠ p.tenant) → p.opcode = (match c with | .veracquire .. => 0x72 | _ => 0x73) →
      Does c s fun t => ∃ op, replyOp p.opcode = some op ∧ Sends s t (replyTo s p op stPermission) ∧ t.dir = s.dir ∧
        t.regs = s.regs ∧ t.mem = s.mem) ∧
    (∀ u : Publish, s.dir.pubs.find? (fun q => q.region = region) = some u → u.accepted = false → r.mode = .published →
      r.curVersion = u.expect →
      (∃ v ∈ r.slots, v.extent = u.extent ∧ v.role = .staging) → Does (.publishAccept region) s fun t =>
      slots t (fun v => if v.extent = u.extent ∧ v.role = .staging then { v with role := .publishing } else v) r.curVersion ∧
      t.dir.pubs = s.dir.pubs.map (fun q => if q = u then { u with accepted := true } else q) ∧
      t = { s with dir := { s.dir with regions := t.dir.regions, pubs := t.dir.pubs } }) ∧
    (∀ (u : Publish) (x : Extent), s.dir.pubs.find? (fun q => q.region = region) = some u → u.accepted = true →
      NMap.find s.ext.table u.extent = some x → x.st ≠ .fencing → x.st ≠ .scrubbing → writesTo s x = false →
      Does (.publishComplete region) s fun t =>
      slots t (fun v => if v.extent = u.extent ∧ v.role = .publishing then
          { v with role := .current, version := (u.expect + 1) % 2 ^ 32 }
        else if v.role = .current then (if v.readers = 0 then { v with role := .staging, version := 0 } else { v with role := .retained })
        else v)
        ((u.expect + 1) % 2 ^ 32) ∧
      t.dir.pubs = s.dir.pubs.erase u ∧ Raised s t DIR_EVENT_PUBLISH_DONE ∧
      RegsKept s t [DIR_EVENT_PUBLISH_DONE, MGT_NOTIFY_PENDING] ∧
      t = { s with regs := t.regs, dir := { s.dir with regions := t.dir.regions, pubs := t.dir.pubs }, chn := t.chn })

/-- The statements above: region commands change their record, versions are acquired and published. -/
def Obligations.RegionsAndTheirVersions : Prop :=
  Sys2Proof.Claims.regionCommandsChangeTheirRecord ∧
  Sys2Proof.Claims.versionsAreAcquiredAndPublished

/-! The firn directory (chapter 03). -/

/-- Beside what a statement names, an admitted request moves only the counts and samples of its admission: page counters and
the hot-page queue, heat samples, trace records, operation counters, controller queues, requests in flight and their replies,
the time of quiescence. -/
def Sys2Proof.Claims.admitRegs : List Fld :=
  [XLT_HOT_COUNT_QUEUED, XLT_EVENT_HOT_PENDING, XLT_HOT_HEAD0_RACK_TIME, XLT_HOT_HEAD1_VALID, XLT_HOT_HEAD1_GROUP,
   XLT_HOT_HEAD1_COUNT, XLT_HOT_HEAD1_PAGE, XLT_HOT_COUNT_DROPPED, XLT_EVENT_HOT_OVF, MGT_NOTIFY_PENDING, DBG_TSTAT_SOURCE_DROPS]

def Sys2Proof.Claims.admitOnly (s t : State) (l : List Fld) : Prop :=
  RegsKept s t (Sys2Proof.Claims.admitRegs ++ l) ∧ t = { s with
    regs := t.regs
    fab := { s.fab with
      tx := t.fab.tx
      psn := t.fab.psn
      reqs := t.fab.reqs
      waitTag := t.fab.waitTag
      snoops := t.fab.snoops
      first := t.fab.first
      coh := t.fab.coh }
    dir := { t.dir with
      regions := s.dir.regions
      lost := s.dir.lost
      sweepAgents := s.dir.sweepAgents
      sweepEnd := s.dir.sweepEnd
      pubs := s.dir.pubs }
    mem := t.mem
    poison := t.poison
    err := { s.err with retention := t.err.retention, waitDup := t.err.waitDup }
    dbg := t.dbg
    fresh := t.fresh
    clk := { s.clk with quietFrom := s.now }
    xlt := { s.xlt with counters := t.xlt.counters, hotQ := t.xlt.hotQ }
    mch := { s.mch with ctl := t.mch.ctl }
    plc := { s.plc with samples := t.plc.samples, drawn := t.plc.drawn }
    ext := { s.ext with inflight := t.ext.inflight, leaving := t.ext.leaving } }

/-- A coherence request that the directory admits (R47, R48), for a line with no transaction, recovery, fence or retry in its
way. -/
def Sys2Proof.Claims.served (s : State) (p : Pkt) (need : Nat) : Prop :=
  fabricGate s p = .pass ∧ dirServes s p = true ∧ s.get MIR_STATUS_COH_RECOVER = 0 ∧
  (∃ id x, admitRpa s p.tenant p.addr 1 .coherence need = .ok id x) ∧ s.err.waitDup = [] ∧
  (∀ u ∈ s.dir.txns, u.line ≠ rpaOff p.addr / 128) ∧ NMap.find s.dir.lost (rpaOff p.addr / 128) = none ∧
  rpaOff p.addr / 128 ∉ s.dir.lostDue ∧ (∀ id x, extAt s (128 * (rpaOff p.addr / 128)) = some (id, x) → x.st ≠ .fencing) ∧
  inSlice s (homeTile s (128 * (rpaOff p.addr / 128))) < 2048

/-- A line that a request may read or take here: no other node must send it first (R109), and no sweep is under way for the
requester (R50). -/
def Sys2Proof.Claims.readable (s : State) (p : Pkt) : Prop :=
  needFetch s (rpaOff p.addr / 128) = false ∧ p.src ∉ s.dir.sweepAgents

/-- The page of a line holds written data here, its memory has not failed, and no other node has a copy of it to keep. -/
def Sys2Proof.Claims.plainLine (s : State) (line : Nat) : Prop :=
  backingLost s (128 * line) = false ∧
  (frameOf s (128 * line / 0x200000)).zero = false ∧ (frameAt s (128 * line)).tier ≠ .remote ∧
  ∀ id x, extAt s (128 * line) = some (id, x) → mirrors s x = false

/-- Requests for a line that nobody holds (state U of Table 3.6): LOAD_COPY, LOAD_OWN, CLAIM and PEEK get LINE_DATA from memory
and DONE, and the first three become the entry's sharer or owner; PUT_LINE and PUT_MASKED write their bytes, clear or mark
poison and get DONE; DROP_CLEAN and DROP_DIRTY are answered as stale. -/
def Sys2Proof.Claims.requestsOnUnheldLines : Prop :=
  ∀ (s : State) (port : Nat) (p : Pkt), let line := rpaOff p.addr / 128
    let u := NMap.find s.dir.entries line = none
    let room := (setLines s line).length < 16
    let d := rdPool s (128 * line) 128
    let data := fun (g : Nat) => { replyTo s p 0x60 (if d.2 then stPoisoned else stOK) with
      grant := g
      len := 128
      payload := d.1
      poison := d.2 }
    let fin := fun (op g : Nat) => { replyTo s p op stOK with grant := g }
    let ge := (regionOf s line).any Region.grantE
    let keepsMem := fun (t : State) => t.mem = s.mem ∧ t.poison = s.poison
    let sends := fun (t : State) (l : List Pkt) => t.fab.tx = s.fab.tx ++ l ∧ t.dir.txns = s.dir.txns ∧
      Sys2Proof.Claims.admitOnly s t [ERR_CNT1_POISON_CONSUMED]
    let entry := fun (t : State) (st : DirSt) (o : Nat) (sh : Sharers) =>
      NMap.find t.dir.entries line = some ⟨st, o, sh, s.dir.allocCtr⟩ ∧ OthersKept s.dir.entries t.dir.entries line
    let none' := fun (t : State) => NMap.find t.dir.entries line = none ∧ OthersKept s.dir.entries t.dir.entries line
    (Sys2Proof.Claims.served s p rtRead → u → room → Sys2Proof.Claims.readable s p → Does (.loadCopy port p) s fun t =>
      sends t [data (if ge then 2 else 1), fin 0x61 0] ∧ keepsMem t ∧
      (if ge then entry t .ownedEx p.src (.exact []) else entry t .shared 0 (.exact [p.src]))) ∧
    (∀ c ∈ ([.loadOwn port p, .claim port p] : List Instr), Sys2Proof.Claims.served s p (rtRead + rtWrite) → u → room →
      Sys2Proof.Claims.readable s p → Does c s fun t => sends t [data 2, fin 0x61 0] ∧ keepsMem t ∧ entry t .ownedEx p.src (.exact [])) ∧
    (Sys2Proof.Claims.served s p rtRead → u → Sys2Proof.Claims.readable s p → Does (.peek port p) s fun t =>
      sends t [data 0, fin 0x61 0] ∧ keepsMem t ∧ none' t) ∧
    (Sys2Proof.Claims.served s p rtWrite → u → Sys2Proof.Claims.plainLine s line → p.payload.length = 128 →
      Does (.putLine port p) s fun t => sends t [fin 0x61 0] ∧ none' t ∧
      (∀ q, rdByte t.mem q =
        if 128 * line ≤ q ∧ q < 128 * line + 128 then p.payload.getD (q - 128 * line) 0#8 else rdByte s.mem q) ∧
      (∀ k, k ∈ t.poison ↔ if k / 2 = line then p.poison = true else k ∈ s.poison)) ∧
    (Sys2Proof.Claims.served s p rtWrite → u → Sys2Proof.Claims.plainLine s line → p.payload.length = 128 →
      Does (.putMasked port p) s fun t => sends t [fin 0x61 0] ∧ none' t ∧
      (∀ q, rdByte t.mem q = if 128 * line ≤ q ∧ q < 128 * line + 128 ∧ bit p.arg (q - 128 * line) = true
        then p.payload.getD (q - 128 * line) 0#8 else rdByte s.mem q) ∧
      (∀ k, k / 2 ≠ line → (k ∈ t.poison ↔ k ∈ s.poison))) ∧
    (∀ c ∈ ([.dropClean port p, .dropDirty port p] : List Instr), Sys2Proof.Claims.served s p 0 → u → Does c s fun t =>
      sends t [{ fin 0x66 0 with stale := true }] ∧ keepsMem t ∧ none' t)

/-- Requests for a line that an agent holds (Table 3.6, R49, R53, R57): the owner of a clean or dirty line drops it, the dirty
data going to memory; a sharer drops itself; a LOAD_COPY of a shared line adds a sharer and sends the line; any other
agent's request for an owned line sends the owner the snoop of the table and waits. -/
def Sys2Proof.Claims.requestsOnHeldLines : Prop :=
  ∀ (s : State) (port : Nat) (p : Pkt) (e : DirEntry), let line := rpaOff p.addr / 128
    NMap.find s.dir.entries line = some e →
    let only := fun (t : State) => Sys2Proof.Claims.admitOnly s t [ERR_CNT1_POISON_CONSUMED] ∧
      OthersKept s.dir.entries t.dir.entries line
    let ack := { replyTo s p 0x66 stOK with stale := false }
    let keepsMem := fun (t : State) => t.mem = s.mem ∧ t.poison = s.poison
    (Sys2Proof.Claims.served s p 0 → e.st = .ownedEx → e.owner = p.src → Does (.dropClean port p) s fun t =>
      NMap.find t.dir.entries line = none ∧ Sends s t ack ∧ t.dir.txns = s.dir.txns ∧ keepsMem t ∧ only t) ∧
    (Sys2Proof.Claims.served s p 0 → e.st = .ownedEx → e.owner = p.src → Sys2Proof.Claims.plainLine s line →
      p.payload.length = 128 → Does (.dropDirty port p) s fun t =>
      NMap.find t.dir.entries line = none ∧ Sends s t ack ∧ t.dir.txns = s.dir.txns ∧ only t ∧
      (∀ q, rdByte t.mem q =
        if 128 * line ≤ q ∧ q < 128 * line + 128 then p.payload.getD (q - 128 * line) 0#8 else rdByte s.mem q)) ∧
    (∀ ids, Sys2Proof.Claims.served s p 0 → e.st = .shared → e.sharers = .exact ids → p.src ∈ ids →
      Does (.dropClean port p) s fun t =>
      NMap.find t.dir.entries line = (if ids.all (· = p.src) then none
        else some { e with owner := 0, sharers := .exact (ids.filter (· ≠ p.src)) }) ∧
      Sends s t ack ∧ t.dir.txns = s.dir.txns ∧ keepsMem t ∧ only t) ∧
    (∀ ids, Sys2Proof.Claims.served s p rtRead → e.st = .shared → e.owner = 0 → e.sharers = .exact ids → ids.length < 8 → p.src ∉ ids →
      Sys2Proof.Claims.readable s p → Does (.loadCopy port p) s fun t => (∃ l, NMap.find t.dir.entries line = some { e with sharers := .exact l } ∧
        ∀ a, a ∈ l ↔ a = p.src ∨ a ∈ ids) ∧
      (∃ q, t.fab.tx = s.fab.tx ++ [q, { replyTo s p 0x61 stOK with grant := 0 }] ∧ q.opcode = 0x60 ∧ q.grant = 1 ∧
        q.dst = p.src ∧ q.payload = (rdPool s (128 * line) 128).1) ∧
      t.dir.txns = s.dir.txns ∧ keepsMem t ∧ only t) ∧
    (∀ (mk : Nat → Pkt → Instr) (need op : Nat) (k : SnoopKind),
      (mk, need, op, k) ∈ ([(.loadCopy, rtRead, 0x50, .fwdCopy), (.loadOwn, rtRead + rtWrite, 0x51, .fwdOwn),
        (.claim, rtRead + rtWrite, 0x51, .fwdOwn), (.peek, rtRead, 0x52, .fwdPeek), (.putLine, rtWrite, 0x53, .kill),
        (.putMasked, rtWrite, 0x54, .retrieve)] : List ((Nat → Pkt → Instr) × Nat × Nat × SnoopKind)) →
      Sys2Proof.Claims.served s p need → e.st = .ownedEx → e.owner ≠ p.src → holder s line ≠ some e.owner →
      (frameOf s (128 * line / 0x200000)).zero = false → Does (mk port p) s fun t =>
      (∃ q, Sends s t q ∧ q.opcode = op ∧ q.dst = e.owner ∧ q.target = p.src ∧ q.tag = p.tag ∧ q.addr = s.node * 2 ^ 50 + 128 * line) ∧
      (∃ u, t.dir.txns = s.dir.txns ++ [u] ∧ u.line = line ∧ u.agent = p.src ∧ u.started = true ∧
        u.waits = [⟨k, e.owner, s.now, p.tag⟩]) ∧
      t.dir.entries = s.dir.entries ∧ keepsMem t ∧ only t)

/-- Answers (R55, R56, R59): KILL_ACK, FWD_ACK, FWD_ACK_LINE and RETRIEVE_LINE take their agent off the snoops that the
line's transaction waits for, with the owner's RESULT; the two that carry dirty data write it to memory. While another
answer is due nothing else happens; an answer whose TAG no snoop of that agent and line waits with does nothing. INBOUND_SNOOP is discarded and counted. -/
def Sys2Proof.Claims.answersAreTakenOffTheSnoops : Prop :=
  ∀ (s : State) (port : Nat) (p : Pkt) (u : Txn), let line := rpaOff p.addr / 128
    let took := fun (t : State) (f : Txn → Txn) =>
      let v : Txn := { u with waits := u.waits.filter fun w => w.agent ≠ p.src }
      t.dir = { s.dir with txns := s.dir.txns.map fun x => if x = u then f v else x } ∧
      t.fab = { s.fab with snoops := t.fab.snoops } ∧
      (∀ o, o ∈ t.fab.snoops ↔ o ∈ s.fab.snoops ∧ ¬ (o.purpose = .snoop line ∧ o.pkt.dst = p.src))
    let more := u.waits.any (fun w => w.agent ≠ p.src) = true ∧ s.dir.accs = [] ∧ NMap.find s.dir.lost line = none
    let result := fun (v : Txn) => { v with result := p.result, missed := v.missed || p.result == 5 }
    let written := fun (t : State) => ∀ q, rdByte t.mem q =
      if 128 * line ≤ q ∧ q < 128 * line + 128 then p.payload.getD (q - 128 * line) 0#8 else rdByte s.mem q
    let dirty := Sys2Proof.Claims.plainLine s line ∧ p.payload.length = 128
    (more → waiting s p [.kill, .retrieve] = some u → Does (.killAck p) s fun t =>
      took t id ∧ t = { s with dir := t.dir, fab := t.fab }) ∧
    (more → waiting s p [.fwdCopy, .fwdOwn, .fwdPeek] = some u → Does (.fwdAck p) s fun t =>
      took t result ∧ t = { s with dir := t.dir, fab := t.fab }) ∧
    (more → dirty → waiting s p [.fwdCopy, .fwdOwn, .fwdPeek] = some u → Does (.fwdAckLine p) s fun t =>
      took t result ∧ written t ∧ t = { s with dir := t.dir, fab := t.fab, mem := t.mem, poison := t.poison }) ∧
    (more → dirty → waiting s p [.retrieve, .fwdPeek] = some u → Does (.retrieveLine p) s fun t =>
      took t (fun v => { v with result := 4 }) ∧ written t ∧
      t = { s with dir := t.dir, fab := t.fab, mem := t.mem, poison := t.poison }) ∧
    (∀ c ∈ ([.killAck p, .fwdAck p, .fwdAckLine p, .retrieveLine p] : List Instr),
      NMap.find s.dir.lost line = none →
      (∀ v ∈ s.dir.txns, v.line = line → ∀ w ∈ v.waits, w.agent = p.src → w.tag ≠ p.tag) → Does c s fun t => t = s) ∧
    (0x50 ≤ p.opcode → p.opcode ≤ 0x54 → Does (.inboundSnoop port p) s fun t =>
      t.get FAB_CNT0_HDR_BAD = min (s.get FAB_CNT0_HDR_BAD + 1) (FAB_CNT0_HDR_BAD.top) ∧ RegsKept s t [FAB_CNT0_HDR_BAD] ∧
      t = { s with regs := t.regs })

/-- The statements above: requests on unheld lines, requests on held lines. -/
def Obligations.CoherentRequestsAreServed : Prop :=
  Sys2Proof.Claims.requestsOnUnheldLines ∧
  Sys2Proof.Claims.requestsOnHeldLines

/-- The home's own steps (R60, R61, R64): a waiting request that nothing stands against starts and sends the snoops it needs; one
whose snoop meets a running hold window waits; the window's end frees the line; for a request that finds its set full the
directory back-invalidates an entry, one in state S before the others, then the least recently allocated. -/
def Sys2Proof.Claims.homeStartsAndEvicts : Prop :=
  ∀ (s : State) (line : Nat) (u : Txn), s.dir.accs = [] →
    let first := s.dir.txns.find? (fun v => v.line = line) = some u ∧ u.started = false ∧ NMap.find s.dir.lost line = none ∧
      line ∉ s.dir.lostDue ∧ inSlice s (homeTile s (128 * line)) < 2048 ∧ breaksRule s u = false ∧ zeroWaits s u = false ∧
      (needsEntry s u = true → (setLines s line).length < 16)
    let sn := needsSnoops s u
    let tag := if u.acc = 0 ∧ u.kind ≠ .backInv ∧ u.kind ≠ .sweep then u.req.tag else s.dir.nextTag
    let only := fun (t : State) => t = { s with
      dir := { s.dir with txns := t.dir.txns, nextTag := t.dir.nextTag }
      fab := { s.fab with tx := t.fab.tx, psn := t.fab.psn, snoops := t.fab.snoops } }
    (first → sn ≠ [] → (∀ x ∈ sn, holder s line ≠ some x.2) → Does (.homeTransactionStart line) s fun t =>
      t.dir.txns = s.dir.txns.map (fun x =>
        if x = u then { u with started := true, waits := sn.map fun x => ⟨x.1, x.2, s.now, tag⟩ } else x) ∧
      (∃ qs : List Pkt, t.fab.tx = s.fab.tx ++ qs ∧ qs.map Pkt.dst = sn.map Prod.snd ∧
        ∀ q ∈ qs, q.tag = tag ∧ q.addr = s.node * 2 ^ 50 + 128 * line) ∧
      only t) ∧
    (first → u.kind ≠ .dropClean → u.kind ≠ .dropDirty → (∃ x ∈ sn, holder s line = some x.2) →
      Does (.homeTransactionStart line) s fun t => t = s) ∧
    (∀ a w, NMap.find s.dir.holds line = some (a, w) → w ≤ s.now → (∀ v ∈ s.dir.txns, v.line ≠ line) →
      NMap.find s.dir.lost line = none → line ∉ s.dir.lostDue →
      Does (.holdWindowEnd line) s fun t => NMap.find t.dir.holds line = none ∧ OthersKept s.dir.holds t.dir.holds line ∧
        t = { s with dir := { s.dir with holds := t.dir.holds } }) ∧
    (∀ a w, NMap.find s.dir.holds line = some (a, w) → s.now < w → Does (.holdWindowEnd line) s fun t => t = s) ∧
    (∀ v e, s.dir.txns.find? (fun v => v.line = line) = some u → u.started = false → needsEntry s u = true →
      16 ≤ (setLines s line).length → (∀ w ∈ s.dir.txns, w.kind ≠ .backInv) → (v, e) ∈ victims s line →
      (∀ f ∈ victims s line, f = (v, e) ∨ (e.st = .shared ∧ f.2.st ≠ .shared) ∨
        ((e.st = .shared ↔ f.2.st = .shared) ∧ e.alloc < f.2.alloc)) →
      NMap.find s.dir.entries v = some e → e.st = .ownedEx → NMap.find s.dir.lost v = none → v ∉ s.dir.lostDue →
      inSlice s (homeTile s (128 * v)) < 2048 →
      Does (.directoryEviction line) s fun t =>
      t.get DIR_STAT_EVICTIONS = min (s.get DIR_STAT_EVICTIONS + 1) DIR_STAT_EVICTIONS.top ∧
      (∃ q, Sends s t q ∧ q.opcode = 0x54 ∧ q.dst = e.owner ∧ q.backinv = true ∧ q.addr = s.node * 2 ^ 50 + 128 * v) ∧
      (∃ w, t.dir.txns = s.dir.txns ++ [w] ∧ w.line = v ∧ w.kind = .backInv ∧ w.started = true ∧
        w.waits = [⟨.retrieve, e.owner, s.now, s.dir.nextTag⟩]) ∧ t.dir.nextTag = (s.dir.nextTag + 1) % 4096 ∧
      RegsKept s t [DIR_STAT_EVICTIONS] ∧ t = { s with
        regs := t.regs
        dir := { s.dir with txns := t.dir.txns, nextTag := t.dir.nextTag }
        fab := { s.fab with tx := t.fab.tx, psn := t.fab.psn, snoops := t.fab.snoops } })

/-- SNOOP_TIMEOUT and ENTRY_LOST (R66, R67): an agent that has not answered in time is reported, named in DIR_EVENT and no
longer waited for; an entry that cannot be read is dropped and reported, and every mapped agent of the tenant is asked for
the line, one with a running hold window later; while a transaction runs on the line the recovery waits. -/
def Sys2Proof.Claims.lateAgentsAndLostEntries : Prop :=
  ∀ (s : State) (line agent : Nat), s.dir.accs = [] → NMap.find s.dir.lost line = none →
    let ten := (extAt s (128 * line)).map fun p => p.2.tenant
    (∀ u w, s.dir.txns.find? (fun v => v.line = line && v.started && v.waits.any fun w => w.agent = agent &&
        w.sent + 1000 * s.get DIR_CFG_SNOOP_TIMEOUT_US ≤ s.now) = some u → w ∈ u.waits → w.agent ≠ agent →
      (∀ e, NMap.find s.dir.entries line = some e → e.owner ≠ agent ∨ e.st = .shared) →
      let err : ErrIn := { cls := 0, unitType := utDir, unitIndex := homeTile s (128 * line), cause := 0x0006, status := stDevErr,
                           tenant := ten, agent := agent, addr := some (s.node * 2 ^ 50 + 128 * line), info := 0 }
      Plain s err → Does (.snoopTimeout line agent) s fun t => Reports s t err ∧ Raised s t DIR_EVENT_SNOOP_TIMEOUT ∧
        t.get DIR_EVENT_TIMEOUT_AGENT = agent % 4096 ∧ (∀ v ∈ t.dir.txns, v ∈ s.dir.txns ∨ ∀ w ∈ v.waits, w.agent ≠ agent) ∧
        t.dir.txns.length = s.dir.txns.length ∧
        RegsKept s t ([DIR_EVENT_SNOOP_TIMEOUT, DIR_EVENT_TIMEOUT_AGENT] ++ reportRegs s ten) ∧
        t = { s with
          regs := t.regs
          err := t.err
          dbg := t.dbg
          dir := { s.dir with txns := t.dir.txns }
          fab := { s.fab with snoops := t.fab.snoops } }) ∧
    (∀ e i x, NMap.find s.dir.entries line = some e → extAt s (128 * line) = some (i, x) → (∀ v ∈ s.dir.txns, v.line ≠ line) →
      let err : ErrIn := { cls := 1, unitType := utDir, unitIndex := homeTile s (128 * line), cause := 0x000b, status := stPoisoned,
                           tenant := some x.tenant, agent := 0, addr := some (s.node * 2 ^ 50 + 128 * line), info := 0 }
      let as := (s.sec.agents.filter fun (a : Nat × Nat) => a.2 = x.tenant && mapped s a.1).map Prod.fst
      let now := as.filter fun a => holder s line ≠ some a
      as ≠ [] → Plain s err → Does (.entryLost line) s fun t => Reports s t err ∧
        NMap.find t.dir.entries line = none ∧ OthersKept s.dir.entries t.dir.entries line ∧
        NMap.find t.dir.lost line = some ⟨x.tenant, now.map fun a => ⟨.retrieve, a, s.now, s.dir.nextTag⟩,
          as.filter fun a => holder s line = some a, 0, false⟩ ∧ t.dir.nextTag = (s.dir.nextTag + 1) % 4096 ∧
        (∃ qs : List Pkt, t.fab.tx = s.fab.tx ++ qs ∧ qs.map Pkt.dst = now ∧ ∀ q ∈ qs, q.opcode = 0x54 ∧ q.tag = s.dir.nextTag) ∧
        RegsKept s t (reportRegs s (some x.tenant)) ∧
        t = { s with
          regs := t.regs
          err := t.err
          dbg := t.dbg
          dir := { s.dir with
            entries := t.dir.entries
            lost := t.dir.lost
            nextTag := t.dir.nextTag
            lostDue := s.dir.lostDue.filter (· ≠ line) }
          fab := { s.fab with tx := t.fab.tx, psn := t.fab.psn, snoops := t.fab.snoops } }) ∧
    (∀ e p, NMap.find s.dir.entries line = some e → extAt s (128 * line) = some p →
      (∃ v ∈ s.dir.txns, v.line = line ∧ v.started = true) → Does (.entryLost line) s fun t =>
      line ∈ t.dir.lostDue ∧ t = { s with dir := { s.dir with lostDue := t.dir.lostDue } })

/-- DIR_AGENT_MAP writes, the sweep's end and DIR_PROBE (R50, Table 3.16): bits set take effect at once, bits cleared start a
sweep of at most 1.96608 ms and read 1 until it ends; a probe loads the entry of its line. -/
def Sys2Proof.Claims.agentMapAndProbe : Prop :=
  ∀ (s : State),
    (∀ n (v : Word64), n < 64 → s.dir.sweepAgents = [] → s.dir.entries = [] → Does (.dirAgentMapWrite n v) s fun t =>
      (∀ b < 64, bit (t.get (DIR_AGENT_MAP_MAP n)) b = (bit (s.get (DIR_AGENT_MAP_MAP n)) b || bit v.toNat b)) ∧
      (∀ a, a ∈ t.dir.sweepAgents ↔ ∃ b < 64, a = 64 * n + b ∧ bit (s.get (DIR_AGENT_MAP_MAP n)) b = true ∧ bit v.toNat b = false) ∧
      (t.dir.sweepAgents ≠ [] → t.dir.sweepEnd = s.now + 1966080) ∧ RegsKept s t [DIR_AGENT_MAP_MAP n] ∧
      t = { s with regs := t.regs, dir := { s.dir with sweepAgents := t.dir.sweepAgents, sweepEnd := t.dir.sweepEnd } }) ∧
    (∀ n v, s.dir.sweepAgents ≠ [] → Does (.dirAgentMapWrite n v) s fun t => t = s) ∧
    (s.dir.sweepAgents ≠ [] → (∀ a ∈ s.dir.sweepAgents, a < 4096) → s.dir.sweepEnd ≤ s.now →
      (∀ v ∈ s.dir.txns, v.kind ≠ .sweep ∧ (v.acc = 0 → v.agent ∉ s.dir.sweepAgents)) → Does .mapSweepDone s fun t =>
      (∀ n < 64, ∀ b < 64, bit (t.get (DIR_AGENT_MAP_MAP n)) b =
        (bit (s.get (DIR_AGENT_MAP_MAP n)) b && !s.dir.sweepAgents.contains (64 * n + b))) ∧
      t.dir.sweepAgents = [] ∧ Raised s t DIR_EVENT_MAP_SWEEP_DONE ∧
      RegsKept s t ([DIR_EVENT_MAP_SWEEP_DONE, MGT_NOTIFY_PENDING] ++ (List.range 64).map DIR_AGENT_MAP_MAP) ∧
      t = { s with regs := t.regs, dir := { s.dir with sweepAgents := [] } }) ∧
    (s.now < s.dir.sweepEnd → Does .mapSweepDone s fun t => t = s) ∧
    (∀ (v : Word64) (e : DirEntry) (ids : List Nat), let line := v.toNat / 128 % 2 ^ 43
      NMap.find s.dir.entries line = some e → e.sharers = .exact ids → Does (.dirProbeAddrWrite v) s fun t =>
      t.get DIR_PROBE_ADDR_LINE = line ∧ t.get DIR_PROBE_ST_VALID = 1 ∧
      t.get DIR_PROBE_ST_STATE = (match e.st with | .shared => 1 | .ownedEx => 2 | .ownedSh => 3) ∧
      t.get DIR_PROBE_ST_COARSE = 0 ∧ t.get DIR_PROBE_ST_EXACT_COUNT = ids.length % 16 ∧
      t.get DIR_PROBE_ST_OWNER = e.owner % 4096 ∧
      (∀ i < 4, t.get (DIR_PROBE_SH_SHARERS i) = packElems 12 ids / 2 ^ (64 * i) % 2 ^ 64) ∧
      RegsKept s t ([DIR_PROBE_ADDR_LINE, DIR_PROBE_ST_VALID, DIR_PROBE_ST_STATE, DIR_PROBE_ST_COARSE, DIR_PROBE_ST_EXACT_COUNT,
        DIR_PROBE_ST_OWNER, DIR_PROBE_ST_HOLD_LEFT_10NS] ++ (List.range 4).map DIR_PROBE_SH_SHARERS) ∧
      t = { s with regs := t.regs }) ∧
    (∀ v : Word64, NMap.find s.dir.entries (v.toNat / 128 % 2 ^ 43) = none → Does (.dirProbeAddrWrite v) s fun t =>
      t.get DIR_PROBE_ST_VALID = 1 ∧ t.get DIR_PROBE_ST_STATE = 0 ∧ t.get DIR_PROBE_ST_OWNER = 0)

/-- The statements above: answers are taken off the snoops, home starts and evicts, late agents and lost entries, agent map and probe. -/
def Obligations.TheDirectoryTakesAnswersAndEvicts : Prop :=
  Sys2Proof.Claims.answersAreTakenOffTheSnoops ∧
  Sys2Proof.Claims.homeStartsAndEvicts ∧
  Sys2Proof.Claims.lateAgentsAndLostEntries ∧
  Sys2Proof.Claims.agentMapAndProbe

/-! Fabric requests at their home (chapters 02, 03, 14, 16, 18). -/

/-- Reads and writes that their admission turns away (R22, R40, R46, R47, R312, R314): another node's address and a region of
another mode are answered PERMISSION with a record, an extent that is being fenced REVOKED, a foreign tenant or a missing
right PERMISSION, a tenant of a FENCED, DRAINED or ERASED slot FENCED; a stale tenant epoch is dropped and counted. No byte of
memory changes. -/
def Obligations.RefusedRequestsAreAnswered : Prop :=
  ∀ (s : State) (port : Nat) (p : Pkt) (mk : Nat → Pkt → Instr) (op re n need : Nat),
    (mk, op, re, n, need) ∈ ([(.rd, 0x01, 0x03, p.len, rtRead), (.wr, 0x02, 0x04, p.payload.length, rtWrite)] :
      List ((Nat → Pkt → Instr) × Nat × Nat × Nat × Nat)) → p.opcode = op →
    let off := p.addr % 2 ^ 50
    let here := p.addr / 2 ^ 50 % 64 = s.node
    let keeps := fun (t : State) => t = { s with
      regs := t.regs
      err := t.err
      dbg := t.dbg
      fab := { s.fab with tx := t.fab.tx, first := t.fab.first } }
    let answers := fun (t : State) (st : Nat) => Sends s t (replyTo s p re st) ∧ keeps t
    let gate := fabricGate s p = .pass ∧ s.get EXT_CFG_ENABLE = 1
    let note : ErrIn := { cls := 0, unitType := if port < 72 then utPort else utSwitch, unitIndex := if port < 72 then port else 0,
                          cause := 0x0007, status := stPermission, tenant := some p.tenant, agent := p.src, addr := some p.addr, info := 0 }
    (gate → ¬ here → Plain s note → Does (mk port p) s fun t => answers t stPermission ∧ Reports s t note ∧
      RegsKept s t (reportRegs s (some p.tenant))) ∧
    (gate → here → (∀ e ∈ s.ext.table, e.2.has off = false) → Does (mk port p) s fun t =>
      answers t stPermission ∧ RegsKept s t []) ∧
    (∀ id x, gate → here → extAt s off = some (id, x) → off + n ≤ x.base + 0x200000 * x.length →
      (x.st = .fencing ∨ x.st = .scrubbing → Does (mk port p) s fun t => answers t stRevoked ∧ RegsKept s t []) ∧
      (x.st ≠ .fencing → x.st ≠ .scrubbing → x.mirrored = false → x.tenant ≠ p.tenant → Does (mk port p) s fun t =>
        answers t stPermission ∧ RegsKept s t []) ∧
      (x.st ≠ .fencing → x.st ≠ .scrubbing → x.mirrored = false → x.tenant = p.tenant → regionOk s x = false → Plain s note →
        Does (mk port p) s fun t => answers t stPermission ∧ Reports s t note ∧ Raised s t DIR_EVENT_MODE_MISMATCH) ∧
      (x.st ≠ .fencing → x.st ≠ .scrubbing → x.mirrored = false → x.tenant = p.tenant → regionOk s x = true →
        Nat.land x.rights need ≠ need → Does (mk port p) s fun t => answers t stPermission ∧ RegsKept s t [])) ∧
    (∀ r, shut s = false → headerBad p = false → p.mclass = 0 → NMap.find s.sec.tenants p.tenant = some r →
      ((r.st = .live ∨ r.st = .fenced ∨ r.st = .drained) → p.tenEpoch ≠ r.cur → Does (mk port p) s fun t =>
        t.get SEC_CNT_STALE_EPOCH = min (s.get SEC_CNT_STALE_EPOCH + 1) SEC_CNT_STALE_EPOCH.top ∧
        Raised s t SEC_EVENT_STALE_EPOCH ∧ RegsKept s t [SEC_CNT_STALE_EPOCH, SEC_EVENT_STALE_EPOCH, MGT_NOTIFY_PENDING] ∧
        t = { s with regs := t.regs }) ∧
      ((r.st = .fenced ∨ r.st = .drained ∨ r.st = .erased) → p.tenEpoch = r.cur → Does (mk port p) s fun t =>
        answers t stFenced ∧ RegsKept s t [SEC_CNT_FENCED_REPLIES]) ∧
      (r.st = .live → p.tenEpoch = r.cur → s.get MIR_STATUS_STATE = 0 → agentOf s p.src ≠ some p.tenant → Does (mk port p) s fun t =>
        answers t stPermission ∧ RegsKept s t []))

/-- An access that nothing stands in the way of: no line of its range is COHERENT, held elsewhere, lost, mirrored or in a page
still to be filled, and no access or retry waits. -/
def Sys2Proof.Claims.free (s : State) (off n : Nat) : Prop :=
  s.dir.accs = [] ∧ s.err.waitDup = [] ∧ (∀ u ∈ s.dir.txns, u.acc ≠ s.dir.nextAcc) ∧ zeroIn s off n = false ∧
  lostIn s off n = false ∧ heldAt s off = false ∧
  ∀ l ∈ linesOf off n, inCoherent s l = false ∧ (frameAt s (128 * l)).tier ≠ .remote

/-- RD, WR, WRPOSTED, FLUSHREQ and FLUSHDONE admitted at their home (R14, R72, R73): a read answers the bytes of memory, a
write puts its payload there, and answers unless it is posted; FLUSHREQ waits for the posted writes of its source and domain
and FLUSHDONE answers once none of them is left. -/
def Sys2Proof.Claims.fabricReadsAndWrites : Prop :=
  ∀ (s : State) (port : Nat) (p : Pkt), let off := p.addr % 2 ^ 50
    let n := p.payload.length
    let ok := fun (len need : Nat) (k : ReqKind) => fabricGate s p = .pass ∧
      (∃ id x, admitRpa s p.tenant p.addr len k need = .ok id x) ∧ Sys2Proof.Claims.free s off len
    let dirSame := fun (t : State) => t.dir = { s.dir with nextAcc := s.dir.nextAcc + 1 }
    let written := fun (t : State) => (∀ q, rdByte t.mem q =
        if off ≤ q ∧ q < off + n then p.payload.getD (q - off) 0#8 else rdByte s.mem q) ∧
      (∀ c, c ∈ t.poison ↔ if off < 64 * c + 64 ∧ 64 * c < off + n then
          p.poison = true ∨ (c ∈ s.poison ∧ ¬ (off ≤ 64 * c ∧ 64 * c + 64 ≤ off + n)) else c ∈ s.poison)
    (p.opcode = 0x01 → ok p.len rtRead .read → (∀ l ∈ linesOf off p.len, needHeal s l = false) → Does (.rd port p) s fun t =>
      let d := rdPool s off p.len
      Sends s t { replyTo s p 0x03 (if d.2 then stPoisoned else stOK) with
        len := p.len
        payload := rdBytes s.mem off p.len } ∧
      t.mem = s.mem ∧ t.poison = s.poison ∧ dirSame t ∧ Sys2Proof.Claims.admitOnly s t [ERR_CNT1_POISON_CONSUMED]) ∧
    (p.opcode = 0x02 → ok n rtWrite .write → Does (.wr port p) s fun t =>
      Sends s t (replyTo s p 0x04 stOK) ∧ written t ∧ dirSame t ∧ Sys2Proof.Claims.admitOnly s t []) ∧
    (p.opcode = 0x70 → ok n rtWrite .posted → Does (.wrposted port p) s fun t =>
      t.fab.tx = s.fab.tx ∧ written t ∧ dirSame t ∧ Sys2Proof.Claims.admitOnly s t []) ∧
    (p.opcode = 0x70 → fabricGate s p = .pass → s.get EXT_CFG_ENABLE = 1 → p.addr / 2 ^ 50 % 64 = s.node →
      (∀ e ∈ s.ext.table, e.2.has off = false) → postedBad s (domKey p) = stOK → Does (.wrposted port p) s fun t =>
      postedBad t (domKey p) = stPermission ∧ (∀ k, k ≠ domKey p → postedBad t k = postedBad s k) ∧ t.fab.tx = s.fab.tx ∧
      t.mem = s.mem ∧ t.regs = s.regs) ∧
    (fabricGate s p = .pass → Does (.flushreq port p) s fun t =>
      (∃ f, t.dir.flushes = s.dir.flushes ++ [f] ∧ f.req = p ∧ f.status = postedBad s (domKey p) ∧
        ∀ id a q, NMap.find s.dir.accs id = some a → a.org = .fabric q → q.opcode = 0x70 → domKey q = domKey p → id ∈ f.covers) ∧
      postedBad t (domKey p) = stOK ∧
      t = { s with dir := { s.dir with flushes := t.dir.flushes, posted := t.dir.posted } }) ∧
    (∀ src dom f, s.dir.flushes.find? (fun f => domKey f.req = 8 * src + dom) = some f → s.err.waitDup = [] →
      (∀ id ∈ f.covers, NMap.find s.dir.accs id = none ∧ id ∉ heldIds s fun _ => true) → Does (.flushdone src dom) s fun t =>
      Sends s t (replyTo s f.req 0x78 f.status) ∧ t = { s with
        dir := { s.dir with flushes := s.dir.flushes.erase f }
        fab := { s.fab with tx := t.fab.tx, first := t.fab.first } }) ∧
    (∀ src dom f id, s.dir.flushes.find? (fun f => domKey f.req = 8 * src + dom) = some f → id ∈ f.covers →
      NMap.find s.dir.accs id ≠ none → Does (.flushdone src dom) s fun t => t = s)

/-- The new value of a remote atomic's target (Table 11.8): the integer operations at its width, and the three of FP32. -/
def Sys2Proof.Claims.atomic (arg m a : Nat) : Nat :=
  let w := if bit arg 8 then 64 else 32
  let x := a % 2 ^ w
  let lt := fun (u v : Nat) => (BitVec.ofNat w u).slt (BitVec.ofNat w v)
  match arg % 16 with
  | 0 => (m + x) % 2 ^ w
  | 1 => Nat.land m x
  | 2 => Nat.lor m x
  | 3 => Nat.xor m x
  | 4 => if lt x m then x else m
  | 5 => if lt m x then x else m
  | 6 => min m x
  | 7 => max m x
  | 8 => x
  | _ => if m = arg / 2 ^ 64 % 2 ^ w then x else m

/-- ATOMIC (R246, R247, R360, Table 18.5): an admitted remote atomic that is no duplicate reads its target, stores the
operation's result there, answers the value from before and keeps a retention record of it; one whose record is kept is
answered from it, with DUPLICATE, and changes no memory. -/
def Sys2Proof.Claims.atomicsRunOnce : Prop :=
  ∀ (s : State) (port : Nat) (p : Pkt), p.opcode = 0x08 → headerBad p = false → shut s = false →
    epochGate s p = .pass → serviceGate s p = .pass →
    let off := p.addr % 2 ^ 50
    let n := if bit p.arg 8 then 8 else 4
    let v := leNat (rdBytes s.mem off n)
    (p.retry = false → p.arg % 16 < 10 → atomicOk p.arg p.addr = true → agentOf s p.src = some p.tenant →
      (∃ id x, admitRpa s p.tenant p.addr n .atomic rtAtomic = .ok id x) → Sys2Proof.Claims.free s off n →
      poisonedIn s off n = false → Does (.atomic port p) s fun t =>
      (∀ q, rdByte t.mem q = if off ≤ q ∧ q < off + n then
        BitVec.ofNat 8 (Sys2Proof.Claims.atomic p.arg v p.aux / 256 ^ (q - off)) else rdByte s.mem q) ∧
      Sends s t { replyTo s p 0x09 stOK with
        len := 8
        payload := natLe 8 v } ∧
      retained t p = some ⟨p.tag, p.psn, p.domain, stOK, some v, s.now⟩ ∧
      t.dir = { s.dir with nextAcc := s.dir.nextAcc + 1 } ∧ Sys2Proof.Claims.admitOnly s t [ERR_ATOM_CNT_EVICTED_EARLY]) ∧
    (∀ r, p.retry = true → requestRuns s p = false → retained s p = some r → r.status = stOK → Does (.atomic port p) s fun t =>
      Sends s t { replyTo s p 0x09 stDuplicate with
        len := if r.value.isSome then 8 else 0
        payload := match r.value with | some w => natLe 8 w | none => [] } ∧
      t.get ERR_ATOM_CNT_DUPLICATE = min (s.get ERR_ATOM_CNT_DUPLICATE + 1) ERR_ATOM_CNT_DUPLICATE.top ∧
      RegsKept s t [ERR_ATOM_CNT_DUPLICATE] ∧ t = { s with regs := t.regs, fab := { s.fab with tx := t.fab.tx } }) ∧
    (p.retry = true → requestRuns s p = false → retained s p = none → s.now < s.fab.enabledAt + 200000 →
      Sys2Proof.Claims.free s off (atomicSize p.arg) → (∀ l ∈ linesOf off (atomicSize p.arg), needHeal s l = false) →
      Does (.atomic port p) s fun t =>
      Sends s t { replyTo s p 0x09 stUncertain with
        len := 8
        payload := natLe 8 (leNat (rdBytes s.mem off (atomicSize p.arg))) } ∧ t.mem = s.mem ∧
      t.get ERR_ATOM_CNT_UNCERTAIN = min (s.get ERR_ATOM_CNT_UNCERTAIN + 1) ERR_ATOM_CNT_UNCERTAIN.top ∧
      RegsKept s t [ERR_ATOM_CNT_UNCERTAIN])

/-- The statements above: fabric reads and writes, atomics run once. -/
def Obligations.FabricAccessesAndAtomics : Prop :=
  Sys2Proof.Claims.fabricReadsAndWrites ∧
  Sys2Proof.Claims.atomicsRunOnce

/-! Memory tiers (chapter 04). Controllers 0 to 15 are the HBM sites, 16 to 39 the DDR5 channels. -/

/-- Refresh, retraining and scheduling (R81 to R86, R88, R92): a due refresh closes its unit's rows for tRFC, a due retraining
pauses its channel for 2 µs as a refresh of it ends, a full retrain ends with its event and its command, the scheduler issues
the request that R83 picks and keeps what the code corrected for the next scrub pass, a reissue falls due 1 µs after its
parity error. None of them touches memory. -/
def Sys2Proof.Claims.memoryControllersRefreshAndSchedule : Prop :=
  ∀ (s : State) (ctl unit ch : Nat), ctl < 40 →
    let m := ctlOf s ctl
    let hbm := ctl < 16
    let ctlOnly := fun (t : State) (m' : MemCtl) => NMap.find t.mch.ctl ctl = some m' ∧ OthersKept s.mch.ctl t.mch.ctl ctl
    let serves := ctlServes s ctl = true
    let due := (NMap.find m.nextRetrain ch).getD (3125000 * ch)
    (ctlHas ctl unit = true → serves → s.get (unitSt (ctlType ctl) unit) ≤ 2 → refreshDue s ctl unit ≤ s.now →
      Does (.memRefresh ctl unit) s fun t => ctlOnly t { m with
        nextRefresh := NMap.insert m.nextRefresh unit (refreshDue s ctl unit + 3900)
        refreshEnd := NMap.insert m.refreshEnd unit (s.now + if hbm then 450 else match (dimmsOf s (ctl - 16)).head? with
          | none => 410
          | some d => if d.density = 32 ∧ d.speed = 64 then 410 else max d.trfc (Config.jedecTrfc d.density d.height d.speed))
        openRow := NMap.keep (fun k _ => decide (k / 65536 ≠ unit)) m.openRow } ∧
      t = { s with mch := { s.mch with ctl := t.mch.ctl } }) ∧
    (s.now < refreshDue s ctl unit → Does (.memRefresh ctl unit) s fun t => t = s) ∧
    (∀ low, retrainEn s ctl = true → memAwake s = true → serves → ch < (if hbm then 32 else 1) → m.fullRetrain.contains ch = false →
      due ≤ s.now → (∃ u ∈ chanUnits ctl ch, s.get (unitSt (ctlType ctl) u) ≤ 2) →
      (∀ u ∈ chanUnits ctl ch, ∀ e, NMap.find m.refreshEnd u = some e → e ≤ s.now) →
      (∃ u ∈ chanUnits ctl ch, ∃ e, NMap.find m.refreshEnd u = some e ∧ s.now < e + 10) → Does (.retrainPause ctl ch low) s fun t =>
      (∃ l, ctlOnly t { m with
        pauseEnd := NMap.insert m.pauseEnd ch (s.now + 2000)
        nextRetrain := NMap.insert m.nextRetrain ch (due + 100000000 * ((s.now - due) / 100000000 + 1))
        fullRetrain := l } ∧ ∀ c, c ∈ l ↔ c ∈ m.fullRetrain ∨ (low = true ∧ c = ch)) ∧
      t = { s with mch := { s.mch with ctl := t.mch.ctl }, mgt := { s.mgt with calIn := t.mgt.calIn } }) ∧
    (∀ low, s.now < due ∨ (∀ u ∈ chanUnits ctl ch, 2 < s.get (unitSt (ctlType ctl) u)) → Does (.retrainPause ctl ch low) s fun t => t = s) ∧
    (m.fullRetrain.contains ch = true → hbm → s.get (MEMH_CMD_BUSY ctl) = 1 → s.get (MEMH_CMD_PC ctl) / 2 = ch → ch < 32 →
      Does (.fullRetrainEnd ctl ch true) s fun t => ctlOnly t { m with fullRetrain := m.fullRetrain.filter (· ≠ ch) } ∧
      Raised s t (MEMH_EVENT_RETRAIN_FULL ctl) ∧ t.get (MEMH_EVENT_LAST_PC ctl) = 2 * ch ∧ t.get (MEMH_CMD_BUSY ctl) = 0 ∧
      Ended s t (MEMH_CMD_STATUS ctl) (MEMH_CMD_DETAIL ctl) [MEMH_CMD_BUSY ctl, MEMH_EVENT_RETRAIN_FULL ctl, MEMH_EVENT_LAST_PC ctl,
        MGT_NOTIFY_PENDING] ∧ t = { s with regs := t.regs, mch := { s.mch with ctl := t.mch.ctl } }) ∧
    (∀ r, memPick s ctl m = some r → memAwake s = true → m.throttled = false → hbmStep s ctl ≠ 3 →
      let issued := fun (t : State) => ctlOnly t { m with
        queue := m.queue.erase r
        openRow := NMap.insert m.openRow (65536 * r.unit + r.bank % 65536) r.row
        lastPort := r.port
        lastIssue := s.now
        lastAct := if NMap.find m.openRow (65536 * r.unit + r.bank % 65536) = some r.row then m.lastAct
          else NMap.insert m.lastAct r.unit s.now }
      let T := ctlType ctl
      let note : ErrIn := { cls := 0, unitType := T, unitIndex := r.unit, cause := 0x0001, status := stOK, tenant := none, agent := 0,
                            addr := none, info := 0 }
      (∀ b, b = false ∨ r.port = 3 → Does (.memSchedIssue ⟨ctl, b⟩) s fun t => issued t ∧
        t = { s with mch := { s.mch with ctl := t.mch.ctl } }) ∧
      (r.port ≠ 3 → corrLimit s T r.unit = 0 → Plain s note → Does (.memSchedIssue ⟨ctl, true⟩) s fun t => issued t ∧ Reports s t note ∧
        Counts s t (if hbm then MEMH_ECC_CNT_CORR (r.unit / 64) else MEMD_ECC_CNT_CORR (r.unit / 4)) 1 ∧
        (∃ l, NMap.find t.mch.rewrite (unitKey T r.unit) = some l ∧
          ∀ q, q ∈ l ↔ q = r.granule ∨ q ∈ (NMap.find s.mch.rewrite (unitKey T r.unit)).getD []) ∧
        t = { s with
          regs := t.regs
          err := t.err
          dbg := t.dbg
          fresh := t.fresh
          mch := { s.mch with ctl := t.mch.ctl, corr := t.mch.corr, rewrite := t.mch.rewrite } })) ∧
    (∀ r, m.queue.find? (fun r => memReady s ctl m r && actOk s ctl m r && decide (r.arrive + starveNs s ctl < s.now)) = some r →
      memPick s ctl m = some r) ∧
    (∀ r, memPick s ctl m = some r → r ∈ m.queue ∧ memReady s ctl m r = true ∧ actOk s ctl m r = true) ∧
    (∀ b, m.queue = [] → Does (.memSchedIssue ⟨ctl, b⟩) s fun t => t = s) ∧
    (∀ a, NMap.find s.mch.reissue (unitKey (ctlType ctl) unit) = some a → a ≤ s.now → Does (.caReissue ctl unit) s fun t =>
      NMap.find t.mch.reissue (unitKey (ctlType ctl) unit) = none ∧
      OthersKept s.mch.reissue t.mch.reissue (unitKey (ctlType ctl) unit) ∧ t = { s with mch := { s.mch with reissue := t.mch.reissue } })

/-- What a memory error leaves of its unit (R90, R92, R94): its counter, its event with LAST_PC or LAST_RANK, and the unit in
its stack's or set's retirement queue, where it was IN_SERVICE. -/
def Sys2Proof.Claims.hit (s t : State) (ctl u : Nat) (cnt h d : Nat → Fld) (extra : List Fld) (ten : Option Nat) : Prop :=
  let T := ctlType ctl
  let c := if ctl < 16 then ctl else ctl - 16
  let ev := if ctl < 16 then h c else d c
  let last := if ctl < 16 then MEMH_EVENT_LAST_PC c else MEMD_EVENT_LAST_RANK c
  Counts s t (cnt c) 1 ∧ Raised s t ev ∧ t.get last = (if ctl < 16 then u % 64 else u % 4) ∧ t.get (unitSt T u) = 1 ∧
  NMap.getD t.mch.retireQ (queueOf T u) [] = NMap.getD s.mch.retireQ (queueOf T u) [] ++ [u] ∧
  OthersKept s.mch.retireQ t.mch.retireQ (queueOf T u) ∧
  RegsKept s t ([cnt c, ev, last, unitSt T u] ++ extra ++ reportRegs s ten)

/-- Memory errors (R86, R90 to R92, R94): an uncorrectable error poisons its chunks, is recorded and queues its unit for
retirement; a parity error is reissued after 1 µs, a second one within 1 ms is a command error of the unit, which poisons the
chunks it affects; the patrol scrub reads the unit's next granule when the pass has come to it; a corrected error is counted
and recorded; a DIMM above 85 °C throttles its channel. -/
def Sys2Proof.Claims.memoryErrorsAreContained : Prop :=
  ∀ (s : State) (ctl u : Nat), ctl < 40 → ctlHas ctl u = true → u < 1024 → s.get (unitSt (ctlType ctl) u) = 0 →
    let T := ctlType ctl
    let k := unitKey T u
    let uncorr := if ctl < 16 then MEMH_ECC_CNT_UNCORR else MEMD_ECC_CNT_UNCORR
    let cmdErr := if ctl < 16 then MEMH_ECC_CNT_CMD_ERR else MEMD_ECC_CNT_CMD_ERR
    let err := fun (cls cause st : Nat) (c : Option Nat) (info : Nat) =>
      ({ cls := cls, unitType := T, unitIndex := u, cause := cause, status := st, agent := 0, info := info
         tenant := c.bind fun c => (extAt s (64 * c)).map fun p => p.2.tenant
         addr := c.map fun c => s.node * 2 ^ 50 + 64 * c } : ErrIn)
    let only := fun (t : State) => t = { s with
      regs := t.regs
      err := t.err
      dbg := t.dbg
      poison := t.poison
      fresh := t.fresh
      mch := { s.mch with
        retireQ := t.mch.retireQ
        parity := t.mch.parity
        corr := t.mch.corr
        scrubPos := t.mch.scrubPos
        scrubFrom := t.mch.scrubFrom
        rewrite := t.mch.rewrite
        ctl := t.mch.ctl } }
    let cmdErrOf := fun (t : State) (chunks : List Nat) =>
      (∀ q, q ∈ t.poison ↔ q ∈ s.poison ∨ q ∈ inUnit s T u chunks) ∧
      (inUnit s T u chunks = [] → Reports s t (err 1 0x0003 stPoisoned none 0)) ∧
      (∀ c l, inUnit s T u chunks = c :: l → ∃ info, Reports s t (err 1 0x0003 stPoisoned (some c) info)) ∧
      Sys2Proof.Claims.hit s t ctl u cmdErr MEMH_EVENT_CMD_ERR MEMD_EVENT_CMD_ERR []
        (err 1 0 0 (inUnit s T u chunks).head? 0).tenant ∧ only t
    (∀ chunks c, inUnit s T u chunks = c :: (inUnit s T u chunks).tail → Does (.uncorrectableError ctl u chunks) s fun t =>
      (∀ q, q ∈ t.poison ↔ q ∈ s.poison ∨ q ∈ inUnit s T u chunks) ∧
      (∃ info, info % 2 ^ 64 = ((frameAt s (64 * c)).frame * 0x200000 + 64 * c % 0x200000) % 2 ^ 64 ∧
        Reports s t (err 1 0x0002 stPoisoned (some c) info)) ∧
      Sys2Proof.Claims.hit s t ctl u uncorr MEMH_EVENT_UNCORR MEMD_EVENT_UNCORR [] (err 1 0 0 (some c) 0).tenant ∧ only t) ∧
    (∀ chunks, (∀ a, NMap.find s.mch.parity k = some a → a + 1000000 ≤ s.now) → Does (.caParityError ctl ⟨u, chunks⟩) s fun t =>
      NMap.find t.mch.parity k = some s.now ∧ NMap.find t.mch.reissue k = some (s.now + 1000) ∧
      OthersKept s.mch.parity t.mch.parity k ∧ OthersKept s.mch.reissue t.mch.reissue k ∧
      t = { s with mch := { s.mch with parity := t.mch.parity, reissue := t.mch.reissue } }) ∧
    (∀ chunks a, NMap.find s.mch.parity k = some a → s.now < a + 1000000 → ctl < 16 → Does (.caParityError ctl ⟨u, chunks⟩) s fun t =>
      NMap.find t.mch.parity k = some s.now ∧ cmdErrOf t chunks) ∧
    (∀ chunks, ctl < 16 → s.get (MEMH_STATUS_STATE ctl) = 2 → (∀ v < 1024, v / 64 = ctl → v ≠ u → 2 < s.get (unitSt utPc v)) →
      Does (.phyLockLoss ⟨ctl, chunks⟩) s fun t => cmdErrOf t chunks) ∧
    (∀ chunks, s.get (MEMH_STATUS_STATE ctl) ≠ 2 → ctl < 16 → Does (.phyLockLoss ⟨ctl, chunks⟩) s fun t => t = s) ∧
    (let top := scrubTop s T u
      let pos := (NMap.find s.mch.scrubPos k).getD 0
      let pass := 3600000000000 * s.get MEMH_TIER_CFG_SCRUB_HOURS
      let from_ := (NMap.find s.mch.scrubFrom k).getD s.now
      scrubEn s ctl = true → memAwake s = true → ctlServes s ctl = true → from_ + pos * pass / max 1 top ≤ s.now →
      let odecc := if ctl < 16 then [MEMH_ECC_CNT_ODECC ctl] else []
      (∀ od, Does (.patrolScrub ctl u 0 od []) s fun t => NMap.find t.mch.scrubPos k = some (if pos + 1 < top then pos + 1 else 0) ∧
        OthersKept s.mch.scrubPos t.mch.scrubPos k ∧
        NMap.find t.mch.scrubFrom k = some (if pos + 1 < top then from_ else from_ + pass) ∧
        (∀ q, q ∈ (NMap.find t.mch.rewrite k).getD [] ↔ q ∈ (NMap.find s.mch.rewrite k).getD [] ∧ q ≠ pos) ∧
        (∃ r, (ctlOf t ctl).queue = (ctlOf s ctl).queue ++ [r] ∧ r.port = 3 ∧ r.unit = u ∧ r.granule = pos) ∧ (∀ f ∈ odecc, Counts s t f od) ∧ RegsKept s t odecc ∧
        t.poison = s.poison ∧ t.err = s.err ∧ only t) ∧
      (∀ n, 0 < n → corrLimit s T u = 0 → Plain s (err 0 0x0001 stOK none 0) → Does (.patrolScrub ctl u n 0 []) s fun t =>
        Reports s t (err 0 0x0001 stOK none 0) ∧
        Counts s t (if ctl < 16 then MEMH_ECC_CNT_CORR ctl else MEMD_ECC_CNT_CORR (ctl - 16)) n ∧ t.poison = s.poison ∧ only t) ∧
      (∀ chunks c l, chunks.filter (fun c => unitOf s (64 * c) = some (T, u, pos)) = c :: l →
        Does (.patrolScrub ctl u 0 0 chunks) s fun t =>
        (∀ q, q ∈ t.poison ↔ q ∈ s.poison ∨ q ∈ c :: l) ∧
        Sys2Proof.Claims.hit s t ctl u uncorr MEMH_EVENT_UNCORR MEMD_EVENT_UNCORR odecc (err 1 0 0 (some c) 0).tenant ∧ only t)) ∧
    (∀ ch temp, ch < 24 → temp < 256 → s.get (MEMD_STATUS_STATE ch) ≠ 0 →
      let e : ErrIn := { cls := 0, unitType := utDdrChannel, unitIndex := ch, cause := 0x0005, status := stOK, tenant := none, agent := 0,
                         addr := none, info := 0 }
      (85 < temp → Plain s e → Does (.dimmTempSample ch temp) s fun t =>
        (ctlOf t (16 + ch)).throttled = true ∧ Raised s t (MEMD_EVENT_TEMP_HIGH ch) ∧ Reports s t e ∧
        t.get (MEMD_STATUS_DIMM_TEMP_C ch) = temp ∧
        RegsKept s t ([MEMD_STATUS_DIMM_TEMP_C ch, MEMD_EVENT_TEMP_HIGH ch] ++ reportRegs s none) ∧ only t) ∧
      (temp ≤ 83 → Does (.dimmTempSample ch temp) s fun t => (ctlOf t (16 + ch)).throttled = false ∧
        t.get (MEMD_STATUS_DIMM_TEMP_C ch) = temp ∧ RegsKept s t [MEMD_STATUS_DIMM_TEMP_C ch] ∧ only t))

/-- Register commands of the memory controllers, and how evacuation and restore end (R77, R78, R84, R94, R99 to R103, Table 4.8):
only DIMMs of Table 4.2, alike in a channel, come back into service. -/
def Sys2Proof.Claims.memoryCommandsRetireAndEvacuate : Prop :=
  ∀ (s : State) (k c : Nat), k < 16 → c < 24 →
    let pc := s.get (MEMH_CMD_PC k)
    let n := c / 4
    let u := 4 * c + s.get (MEMD_CMD_RANK c)
    let hOk := fun (t : State) (l : List Fld) => Ended s t (MEMH_CMD_STATUS k) (MEMH_CMD_DETAIL k) l
    let dOk := fun (t : State) (l : List Fld) => Ended s t (MEMD_CMD_STATUS c) (MEMD_CMD_DETAIL c) l
    let queued := fun (t : State) (q v : Nat) => NMap.getD t.mch.retireQ q [] = NMap.getD s.mch.retireQ q [] ++ [v] ∧
      OthersKept s.mch.retireQ t.mch.retireQ q ∧ t = { s with regs := t.regs, mch := { s.mch with retireQ := t.mch.retireQ } }
    let cap := [EXT_CAP_NODE_CAP, EXT_EVENT_OVERCOMMIT, MGT_NOTIFY_PENDING]
    let retrains := fun (t : State) (q ch : Nat) (busy : Fld) => t.get busy = 1 ∧ RegsKept s t [busy] ∧
      (∃ l, NMap.find t.mch.ctl q = some { ctlOf s q with fullRetrain := l } ∧
        ∀ x, x ∈ l ↔ x = ch ∨ x ∈ (ctlOf s q).fullRetrain) ∧ OthersKept s.mch.ctl t.mch.ctl q ∧
      t = { s with regs := t.regs, mch := { s.mch with ctl := t.mch.ctl } }
    let ranks := fun (ds : List Dimm) => (ds.map Dimm.ranks).sum
    let listed := fun (ds : List Dimm) => ds.length ≤ 2 ∧ ranks ds ≤ 4 ∧ ∀ d ∈ ds, d.rdimm = true ∧ d.width = 4 ∧
      d.density ∈ [16, 24, 32] ∧ d.height ∈ [1, 2] ∧ 1 ≤ d.ranks ∧ d.ranks ≤ 2 ∧ d.bytes ≤ 2 ^ 38 ∧
      d.speed ∈ [48, 52, 56, 60, 64] ∧ (ds.length = 2 → d.speed ≤ 56)
    let like := fun (a b : Dimm) => a.bytes = b.bytes ∧ a.ranks = b.ranks ∧ a.density = b.density ∧ a.height = b.height ∧ a.speed = b.speed
    let hBusy := s.get (MEMH_CMD_BUSY k) = 0
    let dBusy := s.get (MEMD_CMD_BUSY c) = 0
    let hUp := s.get (MEMH_STATUS_STATE k) = 2
    let dUp := s.get (MEMD_STATUS_STATE c) = 2
    (hBusy → hUp → pc < 64 → s.get (MEMH_PC_STATE k pc) = 0 → canSpare s utPc (64 * k + pc) = true → Does (.memhRetire k) s fun t =>
      t.get (MEMH_PC_STATE k pc) = 1 ∧ queued t k (64 * k + pc) ∧ hOk t [MEMH_PC_STATE k pc]) ∧
    (hBusy → hUp → pc < 64 → s.get (MEMH_PC_STATE k pc) = 0 → canSpare s utPc (64 * k + pc) = false → Does (.memhRetire k) s fun t =>
      EndedRefused s t (MEMH_CMD_STATUS k) (MEMH_CMD_DETAIL k) 0x2) ∧
    (hBusy → hUp → pc < 64 → s.get (MEMH_PC_STATE k pc) ≤ 2 → Does (.memhRetrainFull k) s fun t => retrains t k (pc / 2) (MEMH_CMD_BUSY k)) ∧
    (hBusy → hUp → (∀ x < 64, s.get (MEMH_PC_STATE k x) = 3 ∨ s.get (MEMH_PC_STATE k x) = 4) → Does (.powerDown k) s fun t =>
      t.get (MEMH_STATUS_STATE k) = 4 ∧ bit (t.get PWR_UNIT_HBM) k = false ∧
      (∀ x < 16, x ≠ k → bit (t.get PWR_UNIT_HBM) x = bit (s.get PWR_UNIT_HBM) x) ∧
      hOk t ([MEMH_STATUS_STATE k, PWR_UNIT_HBM] ++ cap) ∧ t = { s with regs := t.regs }) ∧
    (∀ i ∈ ([.memhRetire k, .memhRetrainFull k, .powerDown k] : List Instr), hBusy → ¬ hUp → Does i s fun t =>
      EndedRefused s t (MEMH_CMD_STATUS k) (MEMH_CMD_DETAIL k) 0x1) ∧
    (dBusy → dUp → s.get (MEMD_CMD_RANK c) < 4 → s.get (MEMD_RANK_STATE c (s.get (MEMD_CMD_RANK c))) = 0 →
      (canSpare s utRank u = true ∨ setFits s n = true) → Does (.memdRetire c) s fun t =>
      t.get (MEMD_RANK_STATE c (s.get (MEMD_CMD_RANK c))) = 1 ∧ queued t (16 + n) u ∧
      dOk t [MEMD_RANK_STATE c (s.get (MEMD_CMD_RANK c))]) ∧
    (dBusy → dUp → Does (.memdRetrainFull c) s fun t => retrains t (16 + c) 0 (MEMD_CMD_BUSY c)) ∧
    (dBusy → dUp → s.get (MEMD_SET_STATE n) = 1 → setFits s n = true → Does (.memdEvacuate c) s fun t =>
      t.get (MEMD_SET_STATE n) = 2 ∧ t.get (MEMD_CMD_BUSY c) = 1 ∧ NMap.find t.mch.drains n = some (.evacuate c) ∧
      (∀ d, d / 4 = n → t.get (MEMD_STATUS_STATE d) = if s.get (MEMD_STATUS_STATE d) = 2 then 3 else s.get (MEMD_STATUS_STATE d)) ∧
      RegsKept s t ([MEMD_SET_STATE n, MEMD_CMD_BUSY c] ++ (List.range 4).map fun i => MEMD_STATUS_STATE (4 * n + i)) ∧
      t = { s with regs := t.regs, mch := { s.mch with drains := t.mch.drains } }) ∧
    (dBusy → dUp → s.get (MEMD_SET_STATE n) = 1 → setFits s n = false → Does (.memdEvacuate c) s fun t =>
      EndedRefused s t (MEMD_CMD_STATUS c) (MEMD_CMD_DETAIL c) 0x3) ∧
    (NMap.find s.mch.drains n = some (.evacuate c) → setFrames s n = 0 → NMap.find s.mch.retiring (16 + n) = none →
      Does (.evacuated n) s fun t => t.get (MEMD_SET_STATE n) = 3 ∧ t.get (MEMD_SET_RANKS n) = 0 ∧ t.get (MEMD_STATUS_STATE c) = 5 ∧
      (∀ d, d / 4 = n → d ≠ c → t.get (MEMD_STATUS_STATE d) = if s.get (MEMD_STATUS_STATE d) = 3 then 4 else s.get (MEMD_STATUS_STATE d)) ∧
      bit (t.get PWR_UNIT_DDR5) c = false ∧ Raised s t (MEMD_EVENT_EVACUATED c) ∧ t.get (MEMD_CMD_BUSY c) = 0 ∧
      NMap.find t.mch.drains n = none ∧ NMap.find t.mch.setForm n = none ∧
      dOk t ([MEMD_SET_STATE n, MEMD_SET_RANKS n, MEMD_SET_AREAS_FREE n, PWR_UNIT_DDR5, MEMD_EVENT_EVACUATED c, MEMD_CMD_BUSY c] ++
        cap ++ (List.range 4).map fun i => MEMD_STATUS_STATE (4 * n + i)) ∧
      t = { s with
        regs := t.regs
        mch := { s.mch with drains := t.mch.drains, setForm := t.mch.setForm, retireQ := t.mch.retireQ, pieces := t.mch.pieces } }) ∧
    (0 < setFrames s n → Does (.evacuated n) s fun t => t = s) ∧
    (dBusy → s.get (MEMD_STATUS_STATE c) = 5 → Does (.memdRestore c) s fun t => t.get (MEMD_STATUS_STATE c) = 1 ∧
      bit (t.get PWR_UNIT_DDR5) c = true ∧ t.get (MEMD_CMD_BUSY c) = 1 ∧ c ∈ t.mch.restoring ∧
      RegsKept s t [MEMD_STATUS_STATE c, PWR_UNIT_DDR5, MEMD_CMD_BUSY c] ∧
      t = { s with regs := t.regs, mch := { s.mch with restoring := t.mch.restoring } }) ∧
    (dBusy → s.get (MEMD_STATUS_STATE c) ≠ 5 → Does (.memdRestore c) s fun t =>
      EndedRefused s t (MEMD_CMD_STATUS c) (MEMD_CMD_DETAIL c) 0x1) ∧
    (∀ (d : Dimm) (ds : List Dimm), c ∈ s.mch.restoring → s.get MGT_STATUS_STATE = 2 → listed (d :: ds) → (∀ e ∈ ds, like d e) →
      (∀ x, x / 4 = n → x ≠ c → s.get (MEMD_STATUS_STATE x) ≠ 4 ∧ s.get (MEMD_STATUS_STATE x) ≠ 2) →
      Does (.restored c (d :: ds)) s fun t =>
      t.get (MEMD_STATUS_STATE c) = 2 ∧ t.get (MEMD_SET_STATE n) = 1 ∧ Raised s t (MEMD_EVENT_RESTORED c) ∧
      t.get (MEMD_CMD_BUSY c) = 0 ∧ t.get (MEMD_CMD_STATUS c) = stOK ∧ c ∉ t.mch.restoring ∧
      NMap.find t.mch.dimm c = some (d :: ds) ∧ t.get (MEMD_STATUS_SPEED c) = d.speed ∧
      t.get (MEMD_STATUS_DPC c) = (d :: ds).length ∧ t.get (MEMD_STATUS_RANKS_PER_DIMM c) = d.ranks ∧
      (∀ r < 4, t.get (MEMD_RANK_STATE c r) = if r < ranks (d :: ds) then 0 else 5) ∧
      (∃ us, NMap.find t.mch.setForm n = some us ∧ ∀ v, v ∈ us ↔ 4 * c ≤ v ∧ v < 4 * c + ranks (d :: ds)) ∧
      t = { s with regs := t.regs, mch := t.mch }) ∧
    (∀ ds, c ∈ s.mch.restoring → s.get MGT_STATUS_STATE = 2 → ds ≠ [] → ¬ listed ds →
      (∀ x, x / 4 = n → x ≠ c → s.get (MEMD_STATUS_STATE x) ≠ 4 ∧ s.get (MEMD_STATUS_STATE x) ≠ 2) → Does (.restored c ds) s fun t =>
      t.get (MEMD_STATUS_STATE c) = 6 ∧ t.get (MEMD_SET_STATE n) = 4 ∧ Raised s t (MEMD_EVENT_POP_MISMATCH c) ∧
      (∀ r < 4, t.get (MEMD_RANK_STATE c r) = 5) ∧ t.get (MEMD_CMD_BUSY c) = 0 ∧ t.get (MEMD_CMD_STATUS c) = stPermission ∧
      t.get (MEMD_CMD_DETAIL c) = 0x4 ∧ t = { s with regs := t.regs, mch := t.mch }) ∧
    (∀ ds, c ∉ s.mch.restoring → Does (.restored c ds) s fun t => t = s) ∧
    (∀ v, (∃ x r, x / 4 = n ∧ s.get (MEMD_STATUS_STATE x) = 3 ∧ r < 4 ∧ r < ranks (dimmsOf s x) ∧ s.get (MEMD_RANK_STATE x r) ≤ 2 ∧
      4 * x + r ≠ v) → NMap.find s.mch.drains n = some (.reform v) → setFrames s n = 0 → NMap.find s.mch.retiring (16 + n) = none → v / 16 = n →
      Does (.setReform n) s fun t => t.get (MEMD_RANK_STATE (v / 4) (v % 4)) = 3 ∧ t.get (MEMD_SET_STATE n) = 1 ∧
      NMap.find t.mch.drains n = none ∧ (∃ us, NMap.find t.mch.setForm n = some us ∧ v ∉ us) ∧
      Raised s t (MEMD_EVENT_RETIRE_DONE (v / 4)) ∧ t = { s with regs := t.regs, mch := t.mch, err := t.err })

/-- Retirement (R93 to R99, Table 4.4): a queued unit with enough free areas takes D donors, each marked hosting its part; the
copy advances CURSOR granule by granule and puts each into its donor's area, where its accesses go from then on (R96); when
every part is over the unit is RETIRED. A unit without enough areas is FAILED. -/
def Sys2Proof.Claims.unitsRetireIntoSpareAreas : Prop :=
  ∀ (s : State) (q u : Nat), q < 22 →
    let T := if q < 16 then utPc else utRank
    let D := divOf s T u - 1
    let U := unitU s T u
    let P := U / D
    let cur := s.get (cursorOf T u)
    let range := u < 1024 ∧ (if q < 16 then u / 64 = q else u / 16 = q - 16)
    let ev := fun (h d : Nat → Fld) => if q < 16 then h (u / 64) else d (u / 4)
    let last := if q < 16 then MEMH_EVENT_LAST_PC (u / 64) else MEMD_EVENT_LAST_RANK (u / 4)
    let head := ∃ l, NMap.getD s.mch.retireQ q [] = u :: l
    (range → head → NMap.find s.mch.retiring q = none → s.get (unitSt T u) = 1 → (q < 16 ∨ s.get (MEMD_SET_STATE (q - 16)) = 1) →
      canSpare s T u = true → s.mch.retiring = [] → (tierUnits s T q).Nodup →
      (∀ v ∈ tierUnits s T q, v < if q < 16 then 1024 else 96) → Does (.retireStart q) s fun t =>
      t.get (unitSt T u) = 2 ∧ Raised s t (ev MEMH_EVENT_RETIRE_START MEMD_EVENT_RETIRE_START) ∧
      (∃ hs, NMap.find t.mch.retiring q = some ⟨u, hs, 0⟩ ∧ hs.length = D ∧ (hs.map Hosted.donor).Nodup ∧
        ∀ h ∈ hs, h.donor ∈ donorsFor s T u ∧ t.get (hostingOf T h.donor) = 1 ∧
          t.get (hostPart T h.donor) = h.part % 2 ^ (hostPart T h.donor).width) ∧
      t = { s with regs := t.regs, mch := { s.mch with retiring := t.mch.retiring } }) ∧
    (range → head → q < 16 → NMap.find s.mch.retiring q = none → s.get (unitSt T u) = 1 → canSpare s T u = false →
      s.mch.retiring = [] → Does (.retireStart q) s fun t => t.get (unitSt T u) = 4 ∧ Raised s t (MEMH_EVENT_UNSPARED q) ∧
      NMap.getD t.mch.retireQ q [] = (NMap.getD s.mch.retireQ q []).filter (· ≠ u) ∧
      t = { s with
        regs := t.regs
        err := t.err
        mch := { s.mch with retireQ := t.mch.retireQ, retiring := t.mch.retiring } }) ∧
    (NMap.find s.mch.retiring q ≠ none ∨ NMap.getD s.mch.retireQ q [] = [] → Does (.retireStart q) s fun t => t = s) ∧
    (∀ r h, range → NMap.find s.mch.retiring q = some r → r.unit = u → r.part < D →
      r.donors.find? (fun h => h.part = cur / P) = some h → h.donor ≠ u → areasHeld s T r = false →
      (∀ l ∈ granuleLines s T u cur, lineBusy s l = false) → (∀ p ∈ unitPieces s T u, cur < p.lo ∨ p.hi ≤ cur) →
      let moved := fun (t : State) => physUnit t (T, u, cur) = (T, h.donor, unitU s T h.donor + cur % P) ∧
        (∀ g, g ≠ cur → physUnit t (T, u, g) = physUnit s (T, u, g)) ∧ OthersKept s.mch.retiring t.mch.retiring q ∧
        (∃ x ∈ (ctlOf t (ctlIdx T u)).queue, x.port = 2 ∧ x.unit = u ∧ x.granule = cur) ∧
        (∃ x ∈ (ctlOf t (ctlIdx T h.donor)).queue, x.port = 2 ∧ x.unit = h.donor ∧ x.granule = unitU s T h.donor + cur % P) ∧
        t = { s with
          regs := t.regs
          mch := { s.mch with retiring := t.mch.retiring, ctl := t.mch.ctl, pieces := t.mch.pieces } }
      (cur + 1 < U → U ≤ 2 ^ (cursorOf T u).width → Does (.retireGranuleCopy q []) s fun t =>
        t.get (cursorOf T u) = cur + 1 ∧ NMap.find t.mch.retiring q = some { r with part := (cur + 1) / P } ∧
        RegsKept s t [cursorOf T u] ∧ moved t) ∧
      (U ≤ cur + 1 → hostedBy s T u = none → Does (.retireGranuleCopy q []) s fun t =>
        NMap.find t.mch.retiring q = some { r with part := D + 1 } ∧ RegsKept s t [cursorOf T u] ∧ moved t)) ∧
    (∀ r, NMap.find s.mch.retiring q = some r → (areasHeld s T r = true ∨ nextCopy s T r = none) →
      Does (.retireGranuleCopy q []) s fun t => t = s) ∧
    (∀ r, range → NMap.find s.mch.retiring q = some r → r.unit = u → divOf s T u ≤ r.part → Does (.retireDone q) s fun t =>
      t.get (unitSt T u) = 3 ∧ t.get (cursorOf T u) = 0 ∧ t.get (hostingOf T u) = 0 ∧ NMap.find t.mch.retiring q = none ∧
      Raised s t (ev MEMH_EVENT_RETIRE_DONE MEMD_EVENT_RETIRE_DONE) ∧ t.get last = (if q < 16 then u % 64 else u % 4) ∧
      NMap.getD t.mch.retireQ q [] = (NMap.getD s.mch.retireQ q []).filter (· ≠ u) ∧
      t = { s with
        regs := t.regs
        err := t.err
        mch := { s.mch with retireQ := t.mch.retireQ, retiring := t.mch.retiring } }) ∧
    (∀ r, NMap.find s.mch.retiring q = some r → r.part < divOf s T r.unit → Does (.retireDone q) s fun t => t = s)

/-- The statements above: memory controllers refresh and schedule, memory errors are contained. -/
def Obligations.MemoryControllersAndTheirErrors : Prop :=
  Sys2Proof.Claims.memoryControllersRefreshAndSchedule ∧
  Sys2Proof.Claims.memoryErrorsAreContained

/-- The statements above: memory commands retire and evacuate, units retire into spare areas. -/
def Obligations.MemoryRetirementAndEvacuation : Prop :=
  Sys2Proof.Claims.memoryCommandsRetireAndEvacuate ∧
  Sys2Proof.Claims.unitsRetireIntoSpareAreas

/-! Placement (chapter 05). -/

/-- Heat and its events (R110 to R113, R119): a sample that an admission point took raises its page's heat and may queue it for
promotion, the fifth in 10 ns is dropped; a due decay lowers every page's heat and gathers the cold ones; a holder that asks
for its frames is noted, one without a route or a reply is lost: reported and named. -/
def Sys2Proof.Claims.heatRisesAndDecays : Prop :=
  ∀ (s : State) (page node : Nat),
    let f := frameOf s page
    let lodged := ∃ p ∈ s.plc.map, p.2.tier = .remote ∧ p.2.holder = node
    (NMap.find s.plc.map page = some f → page ∈ s.plc.samples → s.get PLC_CFG_ENABLE = 1 → (s.plc.sampleTime ≠ s.now / 10 ∨ s.plc.sampleCnt < 4) →
      Does (.heatSample page) s fun t =>
      let h := min 65535 (f.heat + s.get PLC_CFG_HEAT_INC)
      NMap.find t.plc.map page = some { f with heat := h } ∧ OthersKept s.plc.map t.plc.map page ∧
      t.plc.promQ = (if f.tier = .ddr5 ∧ s.get PLC_THRESH_PROMOTE ≤ h ∧ page ∉ s.plc.promQ ∧ s.plc.promQ.length < 4096
        then s.plc.promQ ++ [page] else s.plc.promQ) ∧
      t = { s with plc := { s.plc with
        map := t.plc.map
        promQ := t.plc.promQ
        samples := s.plc.samples.erase page
        sampleTime := s.now / 10
        sampleCnt := t.plc.sampleCnt } }) ∧
    (page ∈ s.plc.samples → s.get PLC_CFG_ENABLE = 1 → s.plc.sampleTime = s.now / 10 → 4 ≤ s.plc.sampleCnt →
      Does (.heatSample page) s fun t => Counts s t PLC_COUNT_SAMPLES_DROPPED 1 ∧ Raised s t PLC_EVENT_SAMPLE_DROP ∧
      RegsKept s t [PLC_COUNT_SAMPLES_DROPPED, PLC_EVENT_SAMPLE_DROP, MGT_NOTIFY_PENDING] ∧
      t = { s with regs := t.regs, plc := { s.plc with samples := s.plc.samples.erase page, sampleCnt := s.plc.sampleCnt + 1 } }) ∧
    ((page ∉ s.plc.samples ∨ s.get PLC_CFG_ENABLE = 0) → Does (.heatSample page) s fun t => t = s) ∧
    (s.plc.lastDecay + 1000000 * s.get PLC_CFG_DECAY_MS ≤ s.now → s.get PLC_LIMITS_FREE_LOW ≤ hbmFree s → Does .heatDecay s fun t =>
      (∀ p, NMap.find t.plc.map p =
        (NMap.find s.plc.map p).map fun f => { f with heat := f.heat - f.heat / 2 ^ s.get PLC_CFG_DECAY_SHIFT }) ∧
      (∀ p ∈ t.plc.cold, ∃ g, (p, g) ∈ t.plc.map ∧ g.heat < s.get PLC_THRESH_DEMOTE ∧ g.tier ≠ .ddr5) ∧ t.plc.lastDecay = s.now ∧
      t = { s with plc := { s.plc with map := t.plc.map, cold := t.plc.cold, lastDecay := s.now } }) ∧
    (s.now < s.plc.lastDecay + 1000000 * s.get PLC_CFG_DECAY_MS → Does .heatDecay s fun t => t = s) ∧
    (lodged → Does (.returnRequest node) s fun t => Raised s t PLC_EVENT_LODGE_RETURN ∧
      (∀ n, n ∈ t.plc.returns ↔ n = node ∨ n ∈ s.plc.returns) ∧ RegsKept s t [PLC_EVENT_LODGE_RETURN, MGT_NOTIFY_PENDING] ∧
      t = { s with regs := t.regs, plc := { s.plc with returns := t.plc.returns } }) ∧
    (lodged → node ∉ s.plc.lost → noRoute s node = true ∨ holderSilent s node = true → s.dir.accs = [] → s.dir.txns = [] →
      inRecovery s utIcefall 0 = false → Does (.lodgeLost node) s fun t =>
      Reports s t { cls := 1, unitType := utIcefall, unitIndex := 0, cause := 0x0006, status := stPoisoned, tenant := none, agent := 0,
                    addr := none, info := node } ∧
      Raised s t PLC_EVENT_LODGE_LOST ∧ t.get PLC_EVENT_LOST_NODE = node % 64 ∧ (∀ n, n ∈ t.plc.lost ↔ n = node ∨ n ∈ s.plc.lost) ∧
      RegsKept s t ([PLC_EVENT_LODGE_LOST, PLC_EVENT_LOST_NODE] ++ reportRegs s none) ∧
      t = { s with regs := t.regs, err := t.err, dbg := t.dbg, plc := { s.plc with lost := t.plc.lost } }) ∧
    (∀ c ∈ ([.returnRequest node, .lodgeLost node] : List Instr), ¬ lodged → Does c s fun t => t = s) ∧
    (noRoute s node = false → holderSilent s node = false → Does (.lodgeLost node) s fun t => t = s)

/-- Moves (R104, R106, R107, R109, R112, R115 to R117): a page in a lent frame moves first where there is room; a move that has a
reason, a free frame and budget marks its page MOVING towards a frame that nothing uses, a ZERO page is there at once; lines
are handed over one by one, through the placement ports; the end gives the page its new frame, leaves the old one for its
scrub and keeps no byte of a page that now lies elsewhere; a filled ZERO page reads zeros. -/
def Sys2Proof.Claims.pagesMoveLineByLine : Prop :=
  ∀ (s : State) (page node frame : Nat),
    let f := frameOf s page
    let plcOnly := fun (t : State) => t = { s with
      plc := t.plc
      fresh := t.fresh
      regs := t.regs
      dbg := t.dbg
      mem := t.mem
      poison := t.poison }
    let leaves := fun (t : State) (gone : Prop) => (¬ gone → t.mem = s.mem ∧ t.poison = s.poison) ∧
      (gone → (∀ a, rdByte t.mem a = if a / 0x200000 = page then 0#8 else rdByte s.mem a) ∧
        ∀ c, c ∈ t.poison ↔ c ∈ s.poison ∧ c / 32768 ≠ page)
    let mv := fun (m : Move) => NMap.find s.plc.moves page = some m
    (movable s page = true → s.plc.cmd = .none → heatMoves s = true → s.get PLC_LIMITS_FREE_LOW < hbmFree s →
      s.plc.promQ.head? = some page → f.tier = .ddr5 → s.get (MEMD_SET_STATE f.set) ≠ 2 → f.hint ≠ 2 →
      excess s page = false → reliefDue s = false →
      moveReason s page node = some (.promote, hbmDest s)) ∧
    (∀ n, movable s page = true → s.plc.cmd = .none → heatMoves s = true → hbmFree s < s.get PLC_LIMITS_FREE_HIGH →
      coldest s = some page → bestSet s = some n → excess s page = false → reliefDue s = false →
      moveReason s page node = some (.demote, ddrDest s n)) ∧
    (∀ d, movable s page = true → excess s page = true → ¬ (f.tier = .ddr5 ∧ s.get (MEMD_SET_STATE f.set) = 2) →
      placeDest s = some d → moveReason s page node = some (.relief, d)) ∧
    (∀ why d, moveReason s page node = some (why, d) → destFree s d = true → (why = .drain ∨ budgetLeft s = true) →
      (why = .promote → s.get PLC_LIMITS_FREE_LOW < hbmFree s) → (d.tier = .hbm → d.set = 0) →
      Does (.pageMoveStart page node frame) s fun t =>
      (∃ fr, (f.zero = false → NMap.find t.plc.moves page = some ⟨d, fr, 0, why⟩ ∧ NMap.find t.plc.map page = some { f with moving := true }) ∧
        (f.zero = true → NMap.find t.plc.moves page = none ∧ NMap.find t.plc.map page =
          some { f with frame := fr, tier := d.tier, set := d.set, holder := d.holder, moving := false }) ∧
        (d.tier = .remote → fr = frame) ∧ (d.tier ≠ .remote → fr ∉ usedOf s d.tier d.set)) ∧
      OthersKept s.plc.moves t.plc.moves page ∧ OthersKept s.plc.map t.plc.map page ∧ page ∉ t.plc.promQ ∧ page ∉ t.plc.cold ∧
      plcOnly t ∧ leaves t (f.zero = true ∧ d.tier = .remote)) ∧
    (movable s page = false → s.plc.promQ.head? ≠ some page → Does (.pageMoveStart page node frame) s fun t => t = s) ∧
    (∀ m, mv m → m.cursor < 16384 → lineBusy s (16384 * page + m.cursor) = false → (m.why = .drain ∨ budgetLeft s = true) →
      needFetch s (16384 * page + m.cursor) = false →
      let line := 16384 * page + m.cursor
      (m.dest.tier ≠ .remote → backingLost s (128 * line) = false → Does (.pageLineHandover page false) s fun t =>
        NMap.find t.plc.moves page = some { m with cursor := m.cursor + 1 } ∧ OthersKept s.plc.moves t.plc.moves page ∧
        t = { s with
          plc := { s.plc with moves := t.plc.moves, budget := t.plc.budget, filled := s.plc.filled.filter (· ≠ line) }
          mch := { s.mch with ctl := t.mch.ctl } }) ∧
      (m.dest.tier ≠ .remote → Does (.pageLineHandover page true) s fun t =>
        NMap.find t.plc.moves page = some { m with cursor := m.cursor + 1 } ∧
        (∀ c, c ∈ t.poison ↔ c ∈ s.poison ∨ c / 2 = line) ∧ t.mem = s.mem) ∧
      (m.dest.tier = .remote → backingLost s (128 * line) = false → freeTag s (Config.nodeAgent m.dest.holder % 4096) ≠ none →
        Does (.pageLineHandover page false) s fun t => NMap.find t.plc.moves page = some { m with cursor := m.cursor + 1 } ∧
        (∃ q, Sends s t q ∧ q.opcode = 0x21 ∧ q.addr = s.node * 2 ^ 50 + 128 * line ∧ q.payload = lineCipher s (128 * line)) ∧
        t.mem = s.mem ∧ t.poison = s.poison)) ∧
    (∀ m, mv m → let line := 16384 * page + m.cursor
      m.cursor < 16384 → lineBusy s line = false → (m.why = .drain ∨ budgetLeft s = true) → needFetch s line = true →
      placeWaits s page (some line) = false → freeTag s (Config.nodeAgent f.holder % 4096) ≠ none →
      Does (.pageLineHandover page false) s fun t => t = { s with fab := t.fab } ∧
        ∃ q, Sends s t q ∧ q.opcode = 0x20 ∧ q.addr = s.node * 2 ^ 50 + 128 * line) ∧
    (∀ m, mv m → 16384 ≤ m.cursor → Does (.pageLineHandover page false) s fun t => t = s) ∧
    (∀ m, mv m → 16384 ≤ m.cursor → placeWaits s page none = false → Does (.pageMoveDone page) s fun t =>
      NMap.find t.plc.map page = some { f with
        frame := m.frame
        tier := m.dest.tier
        set := m.dest.set
        holder := m.dest.holder
        moving := false } ∧
      OthersKept s.plc.map t.plc.map page ∧ NMap.find t.plc.moves page = none ∧ OthersKept s.plc.moves t.plc.moves page ∧
      t.plc.scrub = (if f.tier = .remote then s.plc.scrub else s.plc.scrub ++ [⟨f.tier, f.set, f.frame⟩]) ∧
      (m.why = .promote → f.tier ≠ .remote → m.dest.tier ≠ .remote → Counts s t PLC_COUNT_PROMOTIONS 1) ∧
      (m.why = .demote → f.tier ≠ .remote → m.dest.tier ≠ .remote → Counts s t PLC_COUNT_DEMOTIONS 1) ∧
      RegsKept s t [PLC_COUNT_PROMOTIONS, PLC_COUNT_DEMOTIONS, PLC_COUNT_REMOTE_MOVES, PLC_CMD_CTL_BUSY, PLC_CMD_CTL_STATUS,
        PLC_CMD_CTL_DETAIL, PLC_EVENT_MOVE_DONE, MGT_NOTIFY_PENDING, DBG_TSTAT_SOURCE_DROPS] ∧ plcOnly t ∧
      leaves t (m.dest.tier = .remote)) ∧
    (∀ m, mv m → m.cursor < 16384 → Does (.pageMoveDone page) s fun t => t = s) ∧
    (∀ tier set fr, let id : FrameId := ⟨if tier = 0 then .hbm else .ddr5, if tier = 0 then 0 else set, fr⟩
      id ∈ s.plc.scrub → s.sec.purgeDue = [] → Does (.frameScrubDone tier set fr) s fun t =>
      t = { s with plc := { s.plc with scrub := s.plc.scrub.erase id }, mch := { s.mch with ctl := t.mch.ctl } }) ∧
    (page ∈ s.plc.fills → (∀ u ∈ s.dir.txns, 128 * u.line / 0x200000 ≠ page) → s.dir.accs = [] →
      (∀ e ∈ s.ext.table, mirrors s e.2 = false) → Does (.zeroFillDone page) s fun t =>
      NMap.find t.plc.map page = some { f with zero := false } ∧ OthersKept s.plc.map t.plc.map page ∧ page ∉ t.plc.fills ∧
      (∀ a, rdByte t.mem a = if a / 0x200000 = page then 0#8 else rdByte s.mem a) ∧ (∀ c ∈ t.poison, c / 32768 ≠ page) ∧
      (f.tier ≠ .remote → t.fab = s.fab) ∧ t = { s with
        mem := t.mem
        poison := t.poison
        fab := t.fab
        plc := { s.plc with map := t.plc.map, fills := t.plc.fills } }) ∧
    (page ∉ s.plc.fills → Does (.zeroFillDone page) s fun t => t = s)

/-- Placement commands (R122, Table 5.5): HINT and MOVE take the pages of their range, QUERY shows one entry, RECALL and RELEASE
take the pages lodged on or for a node; with nothing to move they end at once, else BUSY stays until the last page has
settled. A range past its extent is refused with DETAIL 0x1, an extent that is being fenced with 0x2, the own node with 0x6. -/
def Obligations.PlacementCommandsMovePages : Prop :=
  ∀ (s : State) (x : Extent), s.get PLC_CMD_CTL_BUSY = 0 → NMap.find s.ext.table (s.get PLC_CMD0_EXTENT_ID) = some x →
    let n := s.get PLC_CMD1_COUNT
    let p0 := x.base / 0x200000 + s.get PLC_CMD0_PAGE
    let inRange := fun (p : Nat) => p0 ≤ p ∧ p < p0 + n
    let fits := 1 ≤ n ∧ n ≤ 262144 ∧ s.get PLC_CMD0_PAGE + n ≤ x.length
    let active := x.st ≠ .fencing ∧ x.st ≠ .scrubbing
    let node := s.get PLC_CMD1_NODE
    let free := fun (t : State) => t = { s with regs := t.regs, plc := t.plc }
    let here := ∀ p, inRange p → ∃ f, NMap.find s.plc.map p = some f
    let ends := fun (t : State) (l : List Fld) => Ended s t PLC_CMD_CTL_STATUS PLC_CMD_CTL_DETAIL (PLC_CMD_CTL_BUSY :: l) ∧
      t.get PLC_CMD_CTL_BUSY = 0 ∧ t.plc.cmd = .none ∧ free t
    let runs := fun (t : State) => t.get PLC_CMD_CTL_BUSY = 1 ∧ RegsKept s t [PLC_CMD_CTL_BUSY] ∧ free t
    let done := [PLC_EVENT_MOVE_DONE, MGT_NOTIFY_PENDING]
    let refused := fun (c : Instr) (d : Nat) => Does c s fun t => EndedRefused s t PLC_CMD_CTL_STATUS PLC_CMD_CTL_DETAIL d
    (fits → active → here → s.get PLC_CMD1_HINT = 0 → Does .plcHint s fun t => ends t [] ∧
      ∀ p, NMap.find t.plc.map p = if inRange p then some { frameOf s p with hint := 0 } else NMap.find s.plc.map p) ∧
    (fits → active → here → s.get PLC_CMD1_DEST = 0 → (∀ p, inRange p → (frameOf s p).tier = .ddr5 ∧ (frameOf s p).hint = 0) →
      n ≤ hbmFree s → Does .plcMove s fun t => runs t ∧
      t.plc = { s.plc with cmd := .pages (range' p0 n) (some (hbmDest s)) true }) ∧
    (fits → active → here → s.get PLC_CMD1_DEST = 0 → (∀ p, inRange p → (frameOf s p).tier = .hbm ∧ (frameOf s p).hint = 0) →
      Does .plcMove s fun t => ends t done ∧ Raised s t PLC_EVENT_MOVE_DONE) ∧
    (s.get PLC_CMD0_PAGE < x.length → Does .plcQuery s fun t => t.get PLC_VIEW_DATA = frameWord s (frameOf s p0) % 2 ^ 64 ∧
      Ended s t PLC_CMD_CTL_STATUS PLC_CMD_CTL_DETAIL [PLC_VIEW_DATA] ∧ t = { s with regs := t.regs }) ∧
    (node ≠ s.node → (∀ p ∈ s.plc.map, p.2.tier ≠ .remote ∨ p.2.holder ≠ node) → Does .plcRecall s fun t =>
      ends t done ∧ Raised s t PLC_EVENT_MOVE_DONE ∧ t.plc = { s.plc with cmd := .none }) ∧
    (node ≠ s.node → (∃ p ∈ s.plc.map, p.2.tier = .remote ∧ p.2.holder = node) → s.plc.map.length ≤ hbmFree s →
      Does .plcRecall s fun t => runs t ∧ t.plc = { s.plc with cmd := .recall node }) ∧
    (node ≠ s.node → (∀ l ∈ s.plc.lodgedIn, l.2.owner ≠ node) → Does .plcRelease s fun t =>
      ends t [] ∧ t.plc = { s.plc with cmd := .none }) ∧
    (node ≠ s.node → (∃ l ∈ s.plc.lodgedIn, l.2.owner = node) → Does .plcRelease s fun t => runs t ∧
      t.plc.cmd = .release node ∧ node ∈ t.plc.asked ∧ .giveBack node ∈ t.plc.notices) ∧
    (∀ c ∈ ([.plcHint, .plcMove] : List Instr), x.length < s.get PLC_CMD0_PAGE + n → refused c 0x1) ∧
    (∀ c ∈ ([.plcHint, .plcMove] : List Instr), s.get PLC_CMD0_PAGE + n ≤ x.length → ¬ active → refused c 0x2) ∧
    (x.length ≤ s.get PLC_CMD0_PAGE → refused .plcQuery 0x1) ∧ (node = s.node → refused .plcRelease 0x6)

/-- The statements above: heat rises and decays, pages move line by line. -/
def Obligations.HeatAndPageMoves : Prop :=
  Sys2Proof.Claims.heatRisesAndDecays ∧
  Sys2Proof.Claims.pagesMoveLineByLine

/-! Translation (chapter 06). -/

/-- A translation command that its checks let pass has the block free and names a context that exists (R139). -/
def Sys2Proof.Claims.xltCmd (s : State) (c : XCtx) : Prop :=
  s.get XLT_CMD_CTL_BUSY = 0 ∧ s.get XLT_CMD2_CTX ≠ 0 ∧ NMap.find s.xlt.ctxs (s.get XLT_CMD2_CTX) = some c

/-- COUNT pages of SIZE, aligned and inside their spaces (Table 6.10). -/
def Sys2Proof.Claims.xltPages (s : State) (size : Nat) (rpa : Bool) : Prop :=
  s.get XLT_CMD2_SIZE ≤ 1 ∧ size = (if s.get XLT_CMD2_SIZE = 1 then 65536 else 0x200000) ∧ 1 ≤ s.get XLT_CMD2_COUNT ∧
  s.get XLT_CMD2_COUNT ≤ 262144 ∧ s.get XLT_CMD0_VA % size = 0 ∧ s.get XLT_CMD0_VA + s.get XLT_CMD2_COUNT * size ≤ 2 ^ 57 ∧
  (rpa = true → s.get XLT_CMD1_RPA % size = 0 ∧ s.get XLT_CMD1_RPA + s.get XLT_CMD2_COUNT * size ≤ 2 ^ 56)

/-- A context's record after a command: as given, every other context as before, nothing else but the listed registers. -/
def Sys2Proof.Claims.ctxBecomes (s t : State) (c : Option XCtx) (l : List Fld) : Prop :=
  NMap.find t.xlt.ctxs (s.get XLT_CMD2_CTX) = c ∧ OthersKept s.xlt.ctxs t.xlt.ctxs (s.get XLT_CMD2_CTX) ∧
  Ended s t XLT_CMD_CTL_STATUS XLT_CMD_CTL_DETAIL l

/-- Contexts, entries and windows (R124, R127, R129, R136, R139): CTX_CREATE makes an empty context, CTX_DESTROY removes an
unpinned one with its cached lines, MAP enters every page of its range, WINDOW_ADD a window, QUERY shows the entry or window of
an address, CNT_CLEAR zeroes page counters. A command on a context that does not exist is refused with DETAIL 0x1. -/
def Sys2Proof.Claims.translationCommandsChangeTheirContext : Prop :=
  ∀ (s : State) (c : XCtx), let ctx := s.get XLT_CMD2_CTX
    let va := s.get XLT_CMD0_VA
    let rpa := s.get XLT_CMD1_RPA
    let n := s.get XLT_CMD2_COUNT
    let only := fun (t : State) => t = { s with regs := t.regs, xlt := { s.xlt with ctxs := t.xlt.ctxs } }
    (s.get XLT_CMD_CTL_BUSY = 0 → ctx ≠ 0 → NMap.find s.xlt.ctxs ctx = none → configured s (s.get XLT_CMD3_TENANT) = true →
      1 ≤ s.get XLT_CMD3_NODES → s.get XLT_CMD3_NODES ≤ 64 → 1 ≤ s.get XLT_CMD3_AGENTS → s.get XLT_CMD3_AGENTS ≤ 4096 →
      (s.get XLT_CMD3_MODE = 0 → s.get XLT_CMD3_NODES ≤ 8 ∧ s.get XLT_CMD3_AGENTS ≤ 128) → Does .ctxCreate s fun t =>
      Sys2Proof.Claims.ctxBecomes s t (some ⟨s.get XLT_CMD3_TENANT, s.get XLT_CMD3_MODE != 0, [], []⟩) [] ∧ only t) ∧
    (Sys2Proof.Claims.xltCmd s c → (∀ e ∈ NMap.vals c.entries, e.pins = 0) → (∀ w ∈ c.windows, w.pins = 0) → Does .ctxDestroy s fun t =>
      Sys2Proof.Claims.ctxBecomes s t none [] ∧
      (∀ k, NMap.find t.xlt.cache k = (NMap.find s.xlt.cache k).map fun l => l.filter fun x => x.ctx ≠ ctx) ∧
      t = { s with regs := t.regs, xlt := { s.xlt with ctxs := t.xlt.ctxs, cache := t.xlt.cache } }) ∧
    (Sys2Proof.Claims.xltCmd s c → ((∃ e ∈ NMap.vals c.entries, e.pins ≠ 0) ∨ ∃ w ∈ c.windows, w.pins ≠ 0) → Does .ctxDestroy s fun t =>
      EndedRefused s t XLT_CMD_CTL_STATUS XLT_CMD_CTL_DETAIL 7) ∧
    (∀ size, Sys2Proof.Claims.xltCmd s c → c.pool = false → Sys2Proof.Claims.xltPages s size true →
      (∀ i < n, c.taken (s.get XLT_CMD2_SIZE == 1) ((va + i * size) / 65536) = false) →
      entriesUsed s + 2 * n ≤ 16777216 → Does .xltMap s fun t =>
      (∃ es, Sys2Proof.Claims.ctxBecomes s t (some { c with entries := es }) [] ∧
        (∀ i < n, NMap.find es ((va + i * size) / 65536) =
          some ⟨s.get XLT_CMD2_SIZE == 1, s.get XLT_CMD2_RIGHTS, rpa + i * size, 0, false⟩) ∧
        ∀ k, (∀ i < n, k ≠ (va + i * size) / 65536) → NMap.find es k = NMap.find c.entries k) ∧ only t) ∧
    (∀ size i, Sys2Proof.Claims.xltCmd s c → c.pool = false → Sys2Proof.Claims.xltPages s size true → i < n →
      c.taken (s.get XLT_CMD2_SIZE == 1) ((va + i * size) / 65536) = true → Does .xltMap s fun t =>
      EndedRefused s t XLT_CMD_CTL_STATUS XLT_CMD_CTL_DETAIL 3) ∧
    (Sys2Proof.Claims.xltCmd s c → c.pool = true → c.windows.length < 4096 → windowsUsed s < 65536 → 1 ≤ n → n ≤ 262144 →
      va % 0x200000 = 0 → rpa % 0x200000 = 0 → va + n * 0x200000 ≤ 2 ^ 57 → rpa + n * 0x200000 ≤ 2 ^ 56 →
      (∀ w ∈ c.windows, meets w.va w.count va n = false ∧ meets w.rpa w.count rpa n = false) → Does .windowAdd s fun t =>
      Sys2Proof.Claims.ctxBecomes s t (some { c with windows := c.windows ++ [⟨va, rpa, n, 0, false⟩] }) [] ∧ only t) ∧
    (∀ k e, Sys2Proof.Claims.xltCmd s c → c.pool = false → c.entryAt (va / 65536) = some (k, e) → Does .xltQuery s fun t =>
      t.get XLT_VIEW0_DATA = (1 + 2 * b2n e.small + 8 * e.rights + 65536 * (e.rpa / 65536)) % 2 ^ 64 ∧
      t.get XLT_VIEW1_PINS = e.pins % 2 ^ XLT_VIEW1_PINS.width ∧
      Ended s t XLT_CMD_CTL_STATUS XLT_CMD_CTL_DETAIL [XLT_VIEW0_DATA, XLT_VIEW1_PINS] ∧ t = { s with regs := t.regs }) ∧
    (s.get XLT_CMD_CTL_BUSY = 0 → 1 ≤ n → n ≤ 262144 → Does .cntClear s fun t =>
      (∀ p, NMap.find t.xlt.counters p =
        if rpa / 0x200000 % 2 ^ 23 ≤ p ∧ p < rpa / 0x200000 % 2 ^ 23 + n then none else NMap.find s.xlt.counters p) ∧
      Ended s t XLT_CMD_CTL_STATUS XLT_CMD_CTL_DETAIL [] ∧
      t = { s with regs := t.regs, xlt := { s.xlt with counters := t.xlt.counters } }) ∧
    (∀ i ∈ ([.ctxDestroy, .xltMap, .unmap, .protect, .remap, .windowAdd, .windowRemove, .xltQuery] : List Instr),
      s.get XLT_CMD_CTL_BUSY = 0 → NMap.find s.xlt.ctxs ctx = none → Does i s fun t =>
      EndedRefused s t XLT_CMD_CTL_STATUS XLT_CMD_CTL_DETAIL 1)

/-- What a translation gives (R123, R124, R127, R129): an address of a NATIVE context goes through its entry, which must hold
the rights; one of a POOL context through its window; an address without either faults with the reason of Table 6.4, and one
whose entry is being invalidated waits. -/
def Sys2Proof.Claims.translationFollowsEntriesAndWindows : Prop :=
  ∀ (s : State) (ctx ten va need : Nat) (c : XCtx), ctx ≠ 0 → NMap.find s.xlt.ctxs ctx = some c → c.tenant = ten →
    s.get XLT_CFG_ENABLE = 1 → va < 2 ^ 57 →
    (∀ e, c.pool = false → NMap.find c.entries (va / 65536) = some e → e.small = true → e.inval = false →
      (∀ b, NMap.find c.entries (va / 65536 / 32 * 32) = some b → b.small = true) → Nat.land e.rights need = need →
      ∃ r, translate s ctx ten true va need = .ok r ∧ r.at va = e.rpa + va % 65536 ∧ r.covers va = true) ∧
    (∀ e, c.pool = false → NMap.find c.entries (va / 65536 / 32 * 32) = some e → e.small = false → e.inval = false →
      (Nat.land e.rights need = need → ∃ r, translate s ctx ten true va need = .ok r ∧ r.at va = e.rpa + va % 0x200000) ∧
      (Nat.land e.rights need ≠ need → translate s ctx ten true va need = .fault xrRights)) ∧
    (∀ w, c.pool = true → c.windows.find? (fun w => w.va ≤ va && va < w.va + 0x200000 * w.count) = some w → w.inval = false →
      w.va % 0x200000 = 0 → ∃ r, translate s ctx ten true va need = .ok r ∧ r.at va = w.rpa + (va - w.va)) ∧
    (c.pool = true → (∀ w ∈ c.windows, va < w.va ∨ w.va + 0x200000 * w.count ≤ va) →
      translate s ctx ten true va need = .fault xrNoWindow) ∧
    (c.pool = false → NMap.find c.entries (va / 65536) = none → NMap.find c.entries (va / 65536 / 32 * 32) = none →
      translate s ctx ten true va need = .fault xrNotMapped)

/-- Invalidation and the page counters (R133 to R137, Table 6.5): UNMAP, REMAP, WINDOW_REMOVE and a PROTECT that takes rights
away mark their entries, drop the cached lines and keep BUSY; once nothing is pinned and no request is chased INVAL_DONE
applies the change; a PROTECT that only adds rights is done at once, in the cached lines too. CNT_EPOCH halves the counters, HOT_POP shows the next
record. -/
def Obligations.InvalidationsWaitForTheirUsers : Prop :=
  ∀ (s : State) (c : XCtx), let ctx := s.get XLT_CMD2_CTX
    let slots := cmdSlots s
    let unpinned := ∀ k ∈ NMap.vals s.chn.chans, ∀ l ∈ k.live, l.pinned = false
    let named := fun (rpa : Bool) => Sys2Proof.Claims.xltCmd s c ∧ c.pool = false ∧ (∃ size, Sys2Proof.Claims.xltPages s size rpa) ∧
      ∀ k ∈ slots, ∃ e, NMap.find c.entries k = some e ∧ e.small = (s.get XLT_CMD2_SIZE == 1)
    let starts := fun (t : State) (ch : XChange) => t.get XLT_CMD_CTL_BUSY = 1 ∧ t.xlt.change = some ch ∧
      OthersKept s.xlt.ctxs t.xlt.ctxs ctx ∧ (unpinned → RegsKept s t [XLT_CMD_CTL_BUSY] ∧ t = { s with regs := t.regs, xlt := t.xlt }) ∧
      t = { s with
        regs := t.regs
        chn := t.chn
        dir := { s.dir with accs := t.dir.accs, txns := t.dir.txns }
        ext := { s.ext with inflight := t.ext.inflight }
        eng := { s.eng with launches := t.eng.launches }
        xlt := { s.xlt with ctxs := t.xlt.ctxs, cache := t.xlt.cache, change := some ch } }
    let marked := fun (t : State) => ∃ d, NMap.find t.xlt.ctxs ctx = some d ∧ ∀ k, NMap.find d.entries k =
      (NMap.find c.entries k).map fun e => if k ∈ slots then { e with inval := true } else e
    let uncached := fun (t : State) => ∀ k l, NMap.find t.xlt.cache k = some l → ∀ x ∈ l, x.ctx = ctx → x.slot ∉ slots
    let r := s.get XLT_CMD2_RIGHTS
    let epoch := 1000000 * s.get XLT_CFG_CNT_EPOCH_MS
    let done := fun (t : State) (x : XCtx) (k : Nat) => NMap.find t.xlt.ctxs k = some x ∧ OthersKept s.xlt.ctxs t.xlt.ctxs k ∧
      t.xlt.change = none ∧ t.get XLT_CMD_CTL_BUSY = 0 ∧ Raised s t XLT_EVENT_INVAL_DONE ∧
      Ended s t XLT_CMD_CTL_STATUS XLT_CMD_CTL_DETAIL [XLT_CMD_CTL_BUSY, XLT_EVENT_INVAL_DONE, MGT_NOTIFY_PENDING] ∧
      t = { s with regs := t.regs, xlt := { s.xlt with ctxs := t.xlt.ctxs, change := none } }
    let clear := fun (ch : XChange) => s.xlt.change = some ch ∧ chased s ch = false ∧ pinsHeld s ch = false
    (named false → Does .unmap s fun t => starts t (.unmap ctx slots) ∧ marked t ∧ uncached t) ∧
    (named true → Does .remap s fun t => starts t (.remap ctx slots (s.get XLT_CMD1_RPA)) ∧ marked t ∧ uncached t) ∧
    (named false → (∃ k ∈ slots, ∃ e, NMap.find c.entries k = some e ∧ Nat.land e.rights r ≠ e.rights) → Does .protect s fun t =>
      starts t (.protect ctx slots r) ∧ marked t ∧ uncached t) ∧
    (named false → (∀ k ∈ slots, ∀ e, NMap.find c.entries k = some e → Nat.land e.rights r = e.rights) → Does .protect s fun t =>
      (∃ d, Sys2Proof.Claims.ctxBecomes s t (some { c with entries := d }) [] ∧ ∀ k, NMap.find d k =
        (NMap.find c.entries k).map fun e => if k ∈ slots then { e with rights := r } else e) ∧
      (∀ k, NMap.find t.xlt.cache k = (NMap.find s.xlt.cache k).map fun l =>
        l.map fun x => if x.ctx = ctx ∧ x.slot ∈ slots then { x with rights := r } else x) ∧
      t = { s with regs := t.regs, xlt := { s.xlt with ctxs := t.xlt.ctxs, cache := t.xlt.cache } }) ∧
    (Sys2Proof.Claims.xltCmd s c → c.pool = true → s.get XLT_CMD0_VA % 0x200000 = 0 → (∃ w ∈ c.windows, w.va = s.get XLT_CMD0_VA) →
      Does .windowRemove s fun t => starts t (.removeWindow ctx (s.get XLT_CMD0_VA)) ∧
      ∃ d, NMap.find t.xlt.ctxs ctx = some d ∧ d.windows = c.windows.map fun w =>
        if w.va = s.get XLT_CMD0_VA then { w with inval := true } else w) ∧
    (∀ k l x, clear (.unmap k l) → NMap.find s.xlt.ctxs k = some x → Does .invalDone s fun t =>
      done t { x with entries := NMap.keep (fun q _ => !l.contains q) x.entries } k) ∧
    (∀ k l rt x, clear (.protect k l rt) → NMap.find s.xlt.ctxs k = some x → Does .invalDone s fun t =>
      done t { x with entries := NMap.mapVal (fun q e => if l.contains q then { e with rights := rt, inval := false } else e) x.entries } k) ∧
    (∀ k (l : List Nat) p x (i : Nat) (q : Nat) e, clear (.remap k l p) → NMap.find s.xlt.ctxs k = some x → l.Nodup → l[i]? = some q →
      NMap.find x.entries q = some e → Does .invalDone s fun t => ∃ d, done t { x with entries := d } k ∧
        NMap.find d q = some { e with rpa := p + i * (if e.small then 65536 else 0x200000), inval := false }) ∧
    (∀ k va x, clear (.removeWindow k va) → NMap.find s.xlt.ctxs k = some x → Does .invalDone s fun t =>
      done t { x with windows := x.windows.filter fun w => w.va ≠ va } k) ∧
    (∀ ch, s.xlt.change = some ch → (chased s ch = true ∨ pinsHeld s ch = true) → Does .invalDone s fun t => t = s) ∧
    (s.xlt.lastEpoch / epoch < s.now / epoch → Does .cntEpoch s fun t =>
      (∀ y ∈ s.xlt.counters, ∀ z ∈ y.2.cnt, 2 ≤ z.2 → ∃ k, (y.1, k) ∈ t.xlt.counters ∧ (z.1, z.2 / 2) ∈ k.cnt) ∧
      (∀ x ∈ t.xlt.counters, x.2.notified = [] ∧ ∃ y, (x.1, y) ∈ s.xlt.counters ∧ ∀ z ∈ x.2.cnt, ∃ w, (z.1, w) ∈ y.cnt ∧ z.2 = w / 2) ∧
      t.xlt.lastEpoch = s.now ∧ t = { s with xlt := { s.xlt with counters := t.xlt.counters, lastEpoch := s.now } }) ∧
    (∀ h rest, s.xlt.hotQ = h :: rest → Does .xltHotPop s fun t => t.xlt.hotQ = rest ∧
      t.get XLT_HOT_COUNT_QUEUED = rest.length % 2 ^ 13 ∧ t.get XLT_EVENT_HOT_PENDING = (if rest = [] then 0 else 1) ∧
      (∀ g l, rest = g :: l → t.get XLT_HOT_HEAD1_PAGE = g.page % 2 ^ 23 ∧ t.get XLT_HOT_HEAD1_VALID = 1) ∧
      RegsKept s t [XLT_HOT_COUNT_QUEUED, XLT_EVENT_HOT_PENDING, XLT_HOT_HEAD0_RACK_TIME, XLT_HOT_HEAD1_VALID, XLT_HOT_HEAD1_GROUP,
        XLT_HOT_HEAD1_COUNT, XLT_HOT_HEAD1_PAGE] ∧ t = { s with regs := t.regs, xlt := { s.xlt with hotQ := rest } })

/-- The statements above: translation commands change their context, translation follows entries and windows. -/
def Obligations.ContextsTranslateTheirAddresses : Prop :=
  Sys2Proof.Claims.translationCommandsChangeTheirContext ∧
  Sys2Proof.Claims.translationFollowsEntriesAndWindows

/-! Engine instructions: asynchronous requests (chapters 08, 10, 11). -/

/-- The seventeen instructions of ASYNC, ATOM and COLL by CLASS and OP (R251). -/
def Sys2Proof.Claims.asyncForm (mk : Nat → Ins → Instr) (cls op : Nat) : Prop := (mk, cls, op) ∈ ([
   (.iAget, 0x0e, 0), (.iAput, 0x0e, 1), (.iAadd, 0x16, 0), (.iAand, 0x16, 1), (.iAor, 0x16, 2), (.iAxor, 0x16, 3),
   (.iAmin, 0x16, 4), (.iAmax, 0x16, 5), (.iAminu, 0x16, 6), (.iAmaxu, 0x16, 7), (.iAswap, 0x16, 8), (.iAcas, 0x16, 9),
   (.iAfadd, 0x16, 10), (.iAfmin, 0x16, 11), (.iAfmax, 0x16, 12), (.iCred, 0x17, 0), (.iCgath, 0x17, 1)] :
  List ((Nat → Ins → Instr) × Nat × Nat))

/-- What a request asks for, where its local bytes stand, its pool address and how many bytes it moves (R229, R246, R248). -/
def Sys2Proof.Claims.asks (x : Eng) (cls op : Nat) (w : Ins) (r : AReq) : Prop :=
  let a := sreg x w.a
  let b := sreg x w.b
  if cls = 0x0e then r.kind = (if op = 0 then .get else .put) ∧ r.loc = a ∧ r.pool = b ∧ r.len = w.x % 2048 + 1
  else if cls = 0x16 then
    r.kind = .atom (atomArg x op w) a (bits w.x 11 11 = 0) ∧ r.loc = sreg x w.rc ∧ r.pool = b ∧ r.len = atomicSize (atomArg x op w)
  else
    r.kind = (if op = 0 then .cred (b % 512) (bits b 31 16) w.f else .cgath (b % 512) (bits b 31 16)) ∧
    r.len = 128 * (w.x / 512 % 8 + 1)

/-- The engine has issued the request on its tag and gone on; its registers, predicates and tiles are as they were. -/
def Sys2Proof.Claims.issued (s t : State) (e cls op : Nat) (w : Ins) : Prop :=
  let x := engOf s e
  (∃ r, reqOf t e (asyncTag x cls w) = some r ∧ Sys2Proof.Claims.asks x cls op w r) ∧
  (∀ q, q ≠ asyncTag x cls w → NMap.find (engOf t e).tags q = NMap.find x.tags q) ∧
  (engOf t e).pc = (x.pc + 1) % 2 ^ 64 ∧ (engOf t e).wait = none ∧ engSt t e = 2 ∧ KeepsS x (engOf t e) ∧ KeepsP x (engOf t e) ∧
  KeepsV x (engOf t e) ∧ KeepsT x (engOf t e) ∧ (engOf t e).imem = x.imem ∧
  (∀ o, o ≠ e → SameCore (engOf s o) (engOf t o)) ∧ (cls = 0x17 → t.mem = s.mem) ∧
  t.chn = s.chn ∧ t.xlt = s.xlt ∧ t.lnk = s.lnk ∧ t.sec = s.sec

/-- ASYNC, ATOM and COLL (R181, R229, R246, R248): a request whose checks pass becomes outstanding on its tag and the engine
goes on; where the tag is outstanding already the engine waits, and TAG_HOLD_RELEASE issues the request once it is not; an
illegal encoding or a failed check faults. -/
def Sys2Proof.Claims.asyncRequestsOccupyTheirTag : Prop :=
  ∀ (mk : Nat → Ins → Instr) (cls op e : Nat) (w : Ins) (s : State), Sys2Proof.Claims.asyncForm mk cls op →
    let x := engOf s e
    let t0 := asyncTag x cls w
    (Issues s e cls op w → asyncLegal cls op w = true → asyncFault s e cls op w = none → tagOut x t0 = false →
      Does (mk e w) s fun t => Sys2Proof.Claims.issued s t e cls op w) ∧
    (Issues s e cls op w → asyncLegal cls op w = true → asyncFault s e cls op w = none → tagOut x t0 = true →
      Does (mk e w) s fun t => engOf t e = { x with wait := some (.hold t0) } ∧ engSt t e = 3 ∧
        (∀ o, o ≠ e → engOf t o = engOf s o) ∧ RegsKept s t [ENG_STATUS_STATE e] ∧ t = { s with regs := t.regs, eng := t.eng }) ∧
    (e < 256 → x.imem.getD x.pc 0 = wordOf cls op w → x.wait = some (.hold t0) → engSt s e = 3 → asyncFault s e cls op w = none →
      (tagOut x t0 = false → Does (.tagHoldRelease e) s fun t => Sys2Proof.Claims.issued s t e cls op w) ∧
      (tagOut x t0 = true → Does (.tagHoldRelease e) s fun t => t = s)) ∧
    (∀ c a, Issues s e cls op w → asyncLegal cls op w = true → asyncFault s e cls op w = some (c, a) →
      Does (mk e w) s fun t => Faults s t e c stPermission ∧ t.get (ENG_FAULT_ADDR_ADDR e) = a) ∧
    (e < 256 → atWord s e cls op w = true → asyncLegal cls op w = false →
      Does (mk e w) s fun t => Faults s t e 1 stPermission)

/-- Requests that are performed at once (R181, R182, R246): a request of a plain address of this node, one line long, that is
admitted and that nothing stands in the way of. AGET puts the pool's bytes into the store, APUT the store's into the pool, an
atomic replaces its target by the operation's result and returns the value from before; the request is finished with OK, and
no other byte of the pool or of the store changes. -/
def Sys2Proof.Claims.asyncRequestsMoveTheirBytes : Prop :=
  ∀ (mk : Nat → Ins → Instr) (cls op e : Nat) (w : Ins) (s : State), Sys2Proof.Claims.asyncForm mk cls op → cls ≠ 0x17 →
    Issues s e cls op w → asyncLegal cls op w = true → asyncFault s e cls op w = none →
    let x := engOf s e
    let a := sreg x w.a
    let off := sreg x w.b % 2 ^ 50
    let arg := atomArg x op w
    let n := if cls = 0x0e then w.x % 2048 + 1 else atomicSize arg
    let k : ReqKind := if cls = 0x16 then .atomic else if op = 0 then .engRead else .engWrite
    let need := (if cls = 0x16 then rtAtomic else if op = 0 then rtRead else rtWrite) + rtEngine
    let v := leNat (rdBytes s.mem off n)
    tagOut x (asyncTag x cls w) = false → isVirtual s (engCtx s e) = false → rpaNode (sreg x w.b) = s.node → off % 128 + n ≤ 128 →
    (∃ id y, admitOff s (engTenant s e) off n k need = .ok id y) → Sys2Proof.Claims.free s off n →
    sliceTakes s off n = true → nocAt s (homeTile s off) .request = [] → (∀ l ∈ linesOf off n, needHeal s l = false) → poisonedIn s off n = false → (∀ i < n, poisonAt s (off + i) = false) →
    x.nst = [] → (∀ i < n, filling x (a + i) = false) → bytesPoisoned x a n = false →
    Does (mk e w) s fun t =>
      (∃ r, reqOf t e (asyncTag x cls w) = some r ∧ r.finished = true ∧ tagStatus r = (stOK, 0, 0)) ∧
      (∀ q, rdByte t.mem q = if cls = 0x0e ∧ op = 0 ∨ ¬ (off ≤ q ∧ q < off + n) then rdByte s.mem q
        else if cls = 0x0e then rdByte x.neve (a + (q - off)) else BitVec.ofNat 8 (atomicVal arg v a / 256 ^ (q - off))) ∧
      (∀ q, rdByte (engOf t e).neve q = if cls = 0x0e ∧ op = 0 ∧ a ≤ q ∧ q < a + n then rdByte s.mem (off + (q - a))
        else if cls = 0x16 ∧ bits w.x 11 11 = 0 ∧ sreg x w.rc ≤ q ∧ q < sreg x w.rc + 8 then BitVec.ofNat 8 (v / 256 ^ (q - sreg x w.rc))
        else rdByte x.neve q) ∧
      RegsKept s t [ENG_RETIRED_RETIRED e, ENG_CYCLES_CYCLES e, ENG_STATUS_STATE e, ENG_STATUS_TAGS_OUT e, ENG_STATUS_PC e]

/-- The NoC's request plane (R16, R17, R19, R20, R60): a one-line request whose home slice has no tracker free, and that crosses the
NoC, waits in the router of its home tile with its header and its data, and nothing of it has been performed. -/
def Sys2Proof.Claims.aFullSliceLeavesRequestsInItsRouter : Prop :=
  ∀ (mk : Nat → Ins → Instr) (cls op e : Nat) (w : Ins) (s : State), Sys2Proof.Claims.asyncForm mk cls op → cls ≠ 0x17 →
    Issues s e cls op w → asyncLegal cls op w = true → asyncFault s e cls op w = none →
    let x := engOf s e
    let off := sreg x w.b % 2 ^ 50
    let n := if cls = 0x0e then w.x % 2048 + 1 else atomicSize (atomArg x op w)
    let k : ReqKind := if cls = 0x16 then .atomic else if op = 0 then .engRead else .engWrite
    let need := (if cls = 0x16 then rtAtomic else if op = 0 then rtRead else rtWrite) + rtEngine
    let tile := homeTile s off
    tagOut x (asyncTag x cls w) = false → isVirtual s (engCtx s e) = false → rpaNode (sreg x w.b) = s.node → off % 128 + n ≤ 128 →
    (∃ id y, admitOff s (engTenant s e) off n k need = .ok id y) → sliceTakes s off n = false → crossesNoc s e tile = true →
    nocAt s (tile % 16) .request = [] → Does (mk e w) s fun t =>
      (∃ p, nocAt t (tile % 16) .request = [p] ∧ p.src = engTile e ∧ p.dst = tile ∧ p.bytes = 64 + (if cls = 0x0e ∧ op ≠ 0 then n else 0) ∧
        p.since = s.now ∧ p.eng = e ∧ p.tag = asyncTag x cls w) ∧
      (∃ r, reqOf t e (asyncTag x cls w) = some r ∧ r.finished = false) ∧ t.mem = s.mem ∧ t.dir = s.dir

/-- The statements above: async requests occupy their tag, async requests move their bytes, a full slice leaves requests in its
router. -/
def Obligations.EngineAsyncRequests : Prop :=
  Sys2Proof.Claims.aFullSliceLeavesRequestsInItsRouter ∧
  Sys2Proof.Claims.asyncRequestsOccupyTheirTag ∧
  Sys2Proof.Claims.asyncRequestsMoveTheirBytes

/-! Events of the engines (chapters 08 and 10). -/

/-- Engine `e` has stopped with a fault (Table 8.7 steps 1 and 2): it drains with cause, status and index shown; where the
cause is its own, every engine of its launch that was loaded or running drains with ABORTED. No register, store or index of any
engine changes. -/
def Sys2Proof.Claims.faulted (s t : State) (e cause status pc : Nat) : Prop :=
  engSt t e = 4 ∧ t.get (ENG_FAULT_CAUSE e) = cause ∧ t.get (ENG_FAULT_STATUS e) = status ∧ t.get (ENG_FAULT_PC e) = pc % 2 ^ 13 ∧
  (∀ l o, launchOf s e = some l → o ∈ l.engines → o ≠ e → (engSt s o = 1 ∨ engSt s o = 2 ∨ engSt s o = 3) →
    engSt t o = 4 ∧ t.get (ENG_FAULT_CAUSE o) = ecAborted) ∧
  (∀ o, { engOf t o with wait := none } = { engOf s o with wait := none }) ∧ t = { s with regs := t.regs, eng := t.eng }

/-- Engine `e` goes on past the instruction that it waited at, with its registers as they were. -/
def Sys2Proof.Claims.resumed (s t : State) (e : Nat) : Prop :=
  engSt t e = 2 ∧ (engOf t e).pc = ((engOf s e).pc + 1) % 2 ^ 64 ∧ (engOf t e).wait = none ∧ KeepsS (engOf s e) (engOf t e) ∧
  KeepsP (engOf s e) (engOf t e) ∧ KeepsV (engOf s e) (engOf t e) ∧ KeepsT (engOf s e) (engOf t e) ∧
  (engOf t e).tags = (engOf s e).tags ∧
  t.get (ENG_RETIRED_RETIRED e) = (s.get (ENG_RETIRED_RETIRED e) + 1) % 2 ^ 64

/-- The record that an engine's fault leaves (R192 step 4). -/
def Sys2Proof.Claims.engRecorded (s t : State) (e cls cause status : Nat) : Prop :=
  ∃ r, NMap.find t.err.ring ((s.get ERR_SEQ_NEWEST + 1) % 4096) = some r ∧ r.seq = s.get ERR_SEQ_NEWEST + 1 ∧ r.cls = cls ∧
    r.unitType = utEngine ∧ r.unitIndex = e ∧ r.cause = cause ∧ r.status = status

/-- Engine faults (R175, R189, R191, R192, Table 8.6): a fetch past the program, a reserved word, a unit fault, the watchdog and
a STOP write stop a running or waiting engine with their cause, a unit fault one that is loading too, and one that drains
already notes MORE; once a stopped engine has no tag outstanding the fault is
recorded and the engine is IDLE, after a unit fault OFFLINE; a unit fault of an idle engine takes it offline at once; an error
of a store is counted, and poisons its chunk when it is not corrected. -/
def Sys2Proof.Claims.engineFaultsStopAndDrain : Prop :=
  ∀ (s : State) (e : Nat), e < 256 → let x := engOf s e
    let runs := engSt s e = 2 ∨ engSt s e = 3
    let more := fun (c : Instr) => engSt s e = 4 → Does c s fun t => t.get (ENG_FAULT_MORE e) = 1 ∧
      RegsKept s t [ENG_FAULT_MORE e] ∧ t = { s with regs := t.regs }
    ((engSt s e = 1 ∨ runs) → Does (.engineFault e true) s fun t => Sys2Proof.Claims.faulted s t e 9 stDevErr x.pc) ∧
    more (.engineFault e true) ∧
    (engSt s e = 2 → x.prog ≤ x.pc → Does (.engineFault e false) s fun t => Sys2Proof.Claims.faulted s t e 2 stPermission x.from_) ∧
    (engSt s e = 2 → x.pc < x.prog → reservedWord (x.imem.getD x.pc 0) = true → Does (.engineFault e false) s fun t =>
      Sys2Proof.Claims.faulted s t e 1 stPermission x.pc) ∧
    (engSt s e = 2 → x.pc < x.prog → reservedWord (x.imem.getD x.pc 0) = false → Does (.engineFault e false) s fun t => t = s) ∧
    (runs → s.get (ENG_CTL_WDOG_KCYC e) ≠ 0 → 1024 * s.get (ENG_CTL_WDOG_KCYC e) < s.get (ENG_CYCLES_CYCLES e) →
      Does (.watchdog e) s fun t => Sys2Proof.Claims.faulted s t e 7 stAborted x.pc) ∧
    ((s.get (ENG_CTL_WDOG_KCYC e) = 0 ∨ s.get (ENG_CYCLES_CYCLES e) ≤ 1024 * s.get (ENG_CTL_WDOG_KCYC e)) →
      Does (.watchdog e) s fun t => t = s) ∧
    (runs → Does (.engStop e) s fun t => Sys2Proof.Claims.faulted s t e 11 stAborted x.pc) ∧
    more (.engStop e) ∧ (¬ runs → engSt s e ≠ 4 → Does (.engStop e) s fun t => t = s) ∧
    (engSt s e = 4 → tagsOut x = 0 → inRecovery s utEngine e = false → Does (.engineFaultDrained e) s fun t =>
      Sys2Proof.Claims.engRecorded s t e (if s.get (ENG_FAULT_CAUSE e) = 9 then 2 else 1) (s.get (ENG_FAULT_CAUSE e))
        (s.get (ENG_FAULT_STATUS e)) ∧
      engSt t e = (if s.get (ENG_FAULT_CAUSE e) = 9 ∨ s.get (ENG_CTL_OFFLINE e) ≠ 0 then 5 else 0) ∧
      (s.get (ENG_FAULT_CAUSE e) = 9 → t.get (ENG_CTL_OFFLINE e) = 1 ∧ Raised s t ERR_EVENT_UNIT_OFFLINE) ∧
      KeepsS x (engOf t e) ∧ KeepsP x (engOf t e) ∧ KeepsV x (engOf t e) ∧ KeepsT x (engOf t e) ∧ (engOf t e).nst = [] ∧
      t = { s with regs := t.regs, eng := t.eng, err := t.err, dbg := t.dbg }) ∧
    ((engSt s e ≠ 4 ∨ tagsOut x ≠ 0) → Does (.engineFaultDrained e) s fun t => t = s) ∧
    (engSt s e = 0 → inRecovery s utEngine e = false → Does (.idleEngineUnitFault e) s fun t =>
      engSt t e = 5 ∧ t.get (ENG_FAULT_CAUSE e) = 9 ∧ t.get (ENG_FAULT_STATUS e) = stDevErr ∧ t.get (ENG_CTL_OFFLINE e) = 1 ∧
      t.get (ENG_FAULT_MORE e) = 0 ∧ t.get (ENG_FAULT_DETAIL e) = 0 ∧ t.get (ENG_FAULT_PC e) = 0 ∧ t.get (ENG_FAULT_TAG e) = 0 ∧
      t.get (ENG_FAULT_ADDR_ADDR e) = 0 ∧
      Sys2Proof.Claims.engRecorded s t e 2 9 stDevErr ∧ Raised s t ERR_EVENT_UNIT_OFFLINE ∧
      t = { s with regs := t.regs, err := t.err, dbg := t.dbg }) ∧
    (engSt s e ≠ 0 → Does (.idleEngineUnitFault e) s fun t => t = s) ∧
    (∀ a, Does (.neveEccError e a true) s fun t => Counts s t (ENG_ECC_CORR e) 1 ∧ RegsKept s t [ENG_ECC_CORR e] ∧
      t = { s with regs := t.regs }) ∧
    (∀ a, Does (.neveEccError e a false) s fun t => Counts s t (ENG_ECC_UNCORR e) 1 ∧ RegsKept s t [ENG_ECC_UNCORR e] ∧
      (∀ c, c ∈ (engOf t e).poison ↔ c ∈ x.poison ∨ c = a % 0x100000 / 64) ∧ (∀ o, o ≠ e → engOf t o = engOf s o) ∧
      { engOf t e with poison := x.poison } = x ∧ t = { s with regs := t.regs, eng := t.eng })

/-- Waits that end (R183, R185, R186, R190, R230): a request whose lines are all done keeps its status on its tag, and a refusal
stops the engine with MEMORY; a tag wait whose condition holds resumes; HALT's ends with its exit value and the engine IDLE; a barrier at
which all participants have arrived releases its waiters, one that a participant can no longer reach faults them; the waiter at
the head of a semaphore takes its count once it is there. -/
def Sys2Proof.Claims.engineWaitsEnd : Prop :=
  ∀ (s : State) (e : Nat), e < 256 → let x := engOf s e
    (∀ q r, q < 512 → reqOf s e q = some r → r.finished = true →
      (refusalStatus (tagStatus r).1 = false → Does (.tagComplete e q) s fun t =>
        engOf t e = { x with tags := NMap.insert x.tags q (.kept (tagStatus r).1 (tagStatus r).2.1) } ∧
        (∀ o, o ≠ e → engOf t o = engOf s o) ∧ RegsKept s t [ENG_STATUS_TAGS_OUT e, ENG_STATUS_PC e] ∧
        t = { s with regs := t.regs, eng := t.eng, ext := { s.ext with inflight := t.ext.inflight } }) ∧
      (refusalStatus (tagStatus r).1 = true → (engSt s e = 2 ∨ engSt s e = 3) → (tagStatus r).1 < 256 → Does (.tagComplete e q) s fun t =>
        engSt t e = 4 ∧ t.get (ENG_FAULT_CAUSE e) = ecMemory ∧ t.get (ENG_FAULT_STATUS e) = (tagStatus r).1 ∧
        t.get (ENG_FAULT_TAG e) = q ∧
        (engOf t e).tags = NMap.insert x.tags q (.kept (tagStatus r).1 (tagStatus r).2.1) ∧ KeepsS x (engOf t e) ∧
        t = { s with regs := t.regs, eng := t.eng, ext := { s.ext with inflight := t.ext.inflight } })) ∧
    (∀ q r, reqOf s e q = some r → (∀ l ∈ r.lines, l.st = .remote) → r.finished = false → Does (.tagComplete e q) s fun t => t = s) ∧
    (engSt s e = 3 → waitOver x = true → x.wait ≠ some .halt → Does (.waitSatisfied e) s fun t =>
      Sys2Proof.Claims.resumed s t e ∧ t.mem = s.mem ∧ ∀ o, o ≠ e → SameCore (engOf s o) (engOf t o)) ∧
    (∀ w, engSt s e = 3 → x.wait = some .halt → tagsOut x = 0 → x.imem.getD x.pc 0 = wordOf 0 5 w → Does (.waitSatisfied e) s fun t =>
      engSt t e = (if s.get (ENG_CTL_OFFLINE e) = 0 then 0 else 5) ∧ t.get (ENG_EXIT_EXIT e) = sreg x w.a ∧ (engOf t e).nst = [] ∧
      KeepsS x (engOf t e) ∧ t.mem = s.mem ∧
      ∀ o, o ≠ e → SameCore (engOf s o) (engOf t o)) ∧
    ((engSt s e ≠ 3 ∨ waitOver x = false) → Does (.waitSatisfied e) s fun t => t = s) ∧
    (∀ c b, c < 16 → b < 8 → let waits := fun o => engSt s o = 3 ∧ o / 16 = c ∧ (engOf s o).wait = some (.bar b)
      (arrived s c b ≠ 0 → arrived s c b = members s c b → Does (.barrierRelease c b) s fun t =>
        arrived t c b = 0 ∧ (∀ o, waits o → Sys2Proof.Claims.resumed s t o) ∧
        (∀ o, ¬ waits o → SameCore (engOf s o) (engOf t o)) ∧ t.mem = s.mem) ∧
      (arrived s c b ≠ members s c b → brokenBar s c b = true → Does (.barrierRelease c b) s fun t =>
        (∀ o, waits o → engSt t o = 4 ∧ (t.get (ENG_FAULT_CAUSE o) = ecSync ∨ t.get (ENG_FAULT_CAUSE o) = ecAborted)) ∧
        t = { s with regs := t.regs, eng := t.eng }) ∧
      (arrived s c b ≠ members s c b → brokenBar s c b = false → Does (.barrierRelease c b) s fun t => t = s)) ∧
    (∀ c m n rest, c < 16 → m < 32 → semWaiters s c m = (e, n) :: rest →
      (n ≤ semCount s c m → engSt s e = 3 → Does (.semwaitGrant c m) s fun t =>
        semCount t c m = semCount s c m - n ∧ semWaiters t c m = rest ∧ Sys2Proof.Claims.resumed s t e ∧ t.mem = s.mem ∧
        ∀ o, o ≠ e → SameCore (engOf s o) (engOf t o)) ∧
      (semCount s c m < n → Does (.semwaitGrant c m) s fun t => t = s))

/-- Misses of a cirque's translation cache (R132, R134, R182): the entry comes into the cache, and a request that waited for it
goes on unless an older one of its engine waits; where translation fails they complete with TRANSLATION_FAULT and the reason; an
entry under invalidation is waited for. -/
def Sys2Proof.Claims.cacheMissesAreFilled : Prop :=
  ∀ (s : State) (c ctx va ten : Nat),
    let missing := fun e q r => e / 16 = c ∧ engCtx s e = ctx ∧ q < 512 ∧ reqOf s e q = some r ∧ r.missing = true ∧ r.pool / 65536 = va / 65536
    (∃ e q r, missing e q r) → (∀ e, e / 16 = c → engCtx s e = ctx → engTenant s e = ten) →
    let cores := fun (t : State) => ∀ e, SameCore { engOf s e with tags := [] } { engOf t e with tags := [] }
    (∀ r, translate s ctx ten false va 0 = .ok r → Does (.xltMissFill c ctx va) s fun t =>
      (NMap.getD t.xlt.cache c []).getLast? = some ⟨ctx, r.slot, r.small, r.rights, r.rpa⟩ ∧
      (∀ d, d ≠ c → NMap.find t.xlt.cache d = NMap.find s.xlt.cache d) ∧
      (∀ e q k, missing e q k → firstMiss s e = some (q, k) → cached s e ctx k.pool = none → r.covers k.pool = true →
        ∃ k', reqOf t e q = some k' ∧ k'.missing = false ∧ k'.kind = k.kind ∧ k'.loc = k.loc ∧ k'.pool = k.pool ∧ k'.len = k.len ∧
        (s.flag XLT_CFG_ENABLE = true → Nat.land r.rights k.kind.xright ≠ k.kind.xright →
          k'.lines = [⟨k.pool, 0, k.len, .done stXlate xrRights, false⟩])) ∧ cores t) ∧
    (∀ n, translate s ctx ten false va 0 = .fault n → Does (.xltMissFill c ctx va) s fun t =>
      (∀ e q k, missing e q k → reqOf t e q = some { k with
        missing := false
        lines := [⟨k.pool, 0, k.len, .done stXlate n, false⟩] }) ∧ cores t ∧
      ((∀ e q k, e / 16 = c → q < 512 → reqOf s e q = some k → k.missing = true → missing e q k) → t = { s with eng := t.eng })) ∧
    (translate s ctx ten false va 0 = .wait → Does (.xltMissFill c ctx va) s fun t => t = s)

/-- The statements above: engine faults stop and drain, engine waits end, cache misses are filled. -/
def Obligations.EngineEventsFaultWakeAndFill : Prop :=
  Sys2Proof.Claims.engineFaultsStopAndDrain ∧
  Sys2Proof.Claims.engineWaitsEnd ∧
  Sys2Proof.Claims.cacheMissesAreFilled

/-! Engine instructions: the dot unit and tiles, special functions, conversion, pointers, counts (chapters 10 and 11). -/

/-- A tile of an engine after an instruction: as given by element where `f` has one, every other element and tile as before. -/
def Sys2Proof.Claims.getsT (x y : Eng) (n : Nat) (f : Nat → Nat → Option Nat) : Prop :=
  (∀ m, m ≠ n → tileOf y m = tileOf x m) ∧ (tileOf y n).int = (tileOf x n).int ∧
  ∀ r c, r < 16 → c < 16 → (tileOf y n).get r c = (f r c).getD ((tileOf x n).get r c)

/-- DOT and DOTS (R176, R206, R207, R210, R236, R237): a legal step whose rows can be read adds to column ACC of its tile, in an
integer tile the exact sum of products modulo 2^32, in an FP32 tile the row's terms and the old element in some order, each sum
rounded; nothing else of the engine changes. A step that its checks turn away faults. -/
def Sys2Proof.Claims.dotStepsAccumulate : Prop :=
  ∀ (e : Nat) (w : Ins) (s : State) (mk : Nat → Ins → Instr) (op : Nat) (scaled : Bool),
    (mk, op, scaled) ∈ ([(.iDot, 0, false), (.iDots, 1, true)] : List ((Nat → Ins → Instr) × Nat × Bool)) →
    Issues s e 0x10 op w → dotLegal scaled w = true →
    let x := engOf s e
    let idx := accIdx x w.b (dotAcc w)
    let old := fun r => (tileOf x (idx / 16)).get r (idx % 16)
    let row := fun r => leNat (rdBytes x.neve ((sreg x w.a + r * dotStride w) % 2 ^ 64) 128)
    let nb := rowLen w.f / 32
    let scales := fun r => if scaled then
        some ((rdBytes x.neve (sreg x w.d + r * nb) nb).map BitVec.toNat, (natLe nb (sreg x (dotVs w))).map BitVec.toNat)
      else none
    (∀ c a, dotFault x scaled w = some (c, a) → Does (mk e w) s fun t =>
      Faults s t e c (if c = 6 then stPoisoned else stPermission) ∧ t.get (ENG_FAULT_ADDR_ADDR e) = a) ∧
    (dotFault x scaled w = none → (∀ a < 0x100000, filling x a = false) → Does (mk e w) s fun t =>
      Retires s t e (x.pc + 1) ∧ KeepsS x (engOf t e) ∧ KeepsP x (engOf t e) ∧ KeepsV x (engOf t e) ∧
      ∃ order : Nat → Nat, Sys2Proof.Claims.getsT x (engOf t e) (idx / 16) fun r c => if c ≠ idx % 16 then none else some
        (if (tileOf x (idx / 16)).int then ((toInt 32 (old r) + dotInt w.f (row r) (vreg x w.rc)) % (2 ^ 32 : Int)).toNat
        else
          let terms := decodeF 0 (old r) :: dotTerms w.f (dotVf w) (row r) (vreg x w.rc) (scales r)
          encodeF .rne 0 (sumFree terms.length (order r) terms)))

/-- TZERO, TRD, TWR and TSCALE (R238, Table 11.3): tiles cleared to one kind, a row or column and with PAIR the next one too
moved to or from a vector register, a tile scaled by row or by column. -/
def Sys2Proof.Claims.tileInstructionsMoveElements : Prop :=
  ∀ (e : Nat) (w : Ins) (s : State), let x := engOf s e
    let idx := accIdx x w.a (w.x % 128)
    let lanes := if bit w.x 7 then 32 else 16
    let place := fun i => if bit w.x 8 then (idx % 16 + i / 16, i % 16) else (i % 16, idx % 16 + i / 16)
    let keeps := fun (t : State) => Retires s t e (x.pc + 1) ∧ KeepsS x (engOf t e) ∧ KeepsP x (engOf t e)
    (Issues s e 0x11 0 w → w.f = 0 → w.d = 0 → w.a = 0 → w.b = 0 → w.rc = 0 → w.x < 512 → w.x % 256 ≠ 0 → Does (.iTzero e w) s fun t =>
      keeps t ∧ KeepsV x (engOf t e) ∧ (∀ n, tileOf (engOf t e) n = if n < 8 ∧ bit w.x n then ⟨bit w.x 8, []⟩ else tileOf x n)) ∧
    (Issues s e 0x11 1 w → w.f = 0 → w.b = 0 → w.rc = 0 → w.x < 512 → (bit w.x 7 = true → idx % 2 = 0) → Does (.iTrd e w) s fun t =>
      keeps t ∧ KeepsT x (engOf t e) ∧ GetsV x (engOf t e) w.d
        (packElems 32 ((List.range lanes).map fun i => (tileOf x (idx / 16)).get (place i).1 (place i).2))) ∧
    (Issues s e 0x11 2 w → w.f = 0 → w.d = 0 → w.rc = 0 → w.x < 512 → (bit w.x 7 = true → idx % 2 = 0) → Does (.iTwr e w) s fun t =>
      keeps t ∧ KeepsV x (engOf t e) ∧ Sys2Proof.Claims.getsT x (engOf t e) (idx / 16) fun r c =>
        ((List.range lanes).find? fun i => place i = (r, c)).map fun i => elemAt 32 (vreg x w.b) i) ∧
    (Issues s e 0x11 1 w → w.f = 0 → w.b = 0 → w.rc = 0 → w.x < 512 → bit w.x 7 = true → idx % 2 = 1 → Does (.iTrd e w) s fun t =>
      Faults s t e 1 stPermission) ∧
    (Issues s e 0x11 3 w → w.f = 0 → w.d = 0 → w.b = 0 → w.rc = 0 → w.x < 16 → (tileOf x (w.x % 8)).int = false →
      Does (.iTscale e w) s fun t => keeps t ∧ KeepsV x (engOf t e) ∧ Sys2Proof.Claims.getsT x (engOf t e) (w.x % 8) fun r c => some
        (encodeF .rne 0 ((decodeF 0 ((tileOf x (w.x % 8)).get r c)).mul
          (decodeF 0 (elemAt 32 (vreg x w.a) (if bit w.x 3 then r else c)))))) ∧
    (Issues s e 0x11 3 w → w.f = 0 → w.d = 0 → w.b = 0 → w.rc = 0 → w.x < 16 → (tileOf x (w.x % 8)).int = true →
      Does (.iTscale e w) s fun t => Faults s t e 1 stPermission)

/-- SFU, VRED and CVT (R239 to R243, Tables 11.4 to 11.6): 32 FP32 lanes of a special function; a reduction of the first lanes
with a scalar, the sum in some order; exponentials of differences; a scalar fused multiply-add; a conversion of part of a
register, with its scales and its generator. -/
def Sys2Proof.Claims.specialFunctionsAndConversion : Prop :=
  ∀ (e : Nat) (w : Ins) (s : State), let x := engOf s e
    let lane := fun r i => elemAt 32 (vreg x r) i
    let low := fun r => sreg x r % 2 ^ 32
    let num := fun r => decodeF 0 (low r)
    let vector := fun (c : Instr) (v : Nat) => Does c s fun t => Retires s t e (x.pc + 1) ∧ GetsV x (engOf t e) w.d v ∧
      KeepsS x (engOf t e) ∧ KeepsP x (engOf t e) ∧ KeepsT x (engOf t e)
    let scalar := fun (c : Instr) (f : Nat → Prop) => Does c s fun t => Retires s t e (x.pc + 1) ∧
      (∃ v, f v ∧ GetsS x (engOf t e) w.d v) ∧ KeepsV x (engOf t e) ∧ KeepsP x (engOf t e) ∧ KeepsT x (engOf t e)
    let vals := num w.b :: (List.range (w.x + 1)).map fun i => decodeF w.f (elemAt (fmtBits w.f) (vreg x w.a) i)
    (∀ mk op f, (mk, op, f) ∈ ([(.iVexp, 0, expOf), (.iVexp2, 1, exp2Of), (.iVrcp, 2, rcpOf)] :
        List ((Nat → Ins → Instr) × Nat × (Nat → Nat))) → Issues s e 0x12 op w → w.f = 0 → w.b = 0 → w.imm = 0 →
      vector (mk e w) (packElems 32 ((List.range 32).map fun i => f (lane w.a i)))) ∧
    (∀ mk op f, (mk, op, f) ∈ ([(.iVrmax, 0, FV.max), (.iVrmin, 1, FV.min)] : List ((Nat → Ins → Instr) × Nat × (FV → FV → FV))) →
      Issues s e 0x13 op w → w.f < 5 → w.rc = 0 → w.x < 1024 / fmtBits w.f →
      scalar (mk e w) (· = encodeF .rne 0 (vals.tail.foldl f (num w.b)))) ∧
    (Issues s e 0x13 2 w → w.f < 5 → w.rc = 0 → w.x < 1024 / fmtBits w.f →
      scalar (.iVrsum e w) fun v => ∃ k, v = encodeF .rne 0 (sumFree vals.length k vals)) ∧
    (Issues s e 0x13 3 w → w.f = 0 → w.imm = 0 →
      vector (.iVexps e w) (packElems 32 ((List.range 32).map fun i => expDiff (lane w.a i) (low w.b)))) ∧
    (Issues s e 0x13 4 w → w.f = 0 → w.imm = 0 → scalar (.iSexps e w) (· = expDiff (low w.a) (low w.b))) ∧
    (Issues s e 0x13 5 w → w.f = 0 → w.x = 0 → scalar (.iSfma e w) (· = encodeF .rne 0 (((num w.a).mul (num w.b)).add (num w.rc)))) ∧
    (Issues s e 0x14 0 w → cvtLegal w = true → Does (.iCvt e w) s fun t => let y := engOf t e
      let b := fmtBits (cvtTo w)
      let n := (cvtRange w).2.1
      let d0 := (cvtRange w).2.2
      let sc := cvtScales w (cvtVals x w)
      let plain := w.f = cvtTo w ∧ ¬ cvtStoch w ∧ ¬ cvtSscale w ∧ ¬ cvtDscale w ∧ ¬ cvtI32 w
      (engOf t e).pc = (x.pc + 1) % 2 ^ 64 ∧ y.rnd = (cvtElems x w).2 ∧ KeepsP x y ∧ KeepsT x y ∧ (∀ r, r ≠ w.d → vreg y r = vreg x r) ∧
      (plain → vreg y w.d = vreg x w.a) ∧
      (¬ plain → ∀ j < rowLen (cvtTo w), elemAt b (vreg y w.d) j =
        if d0 ≤ j ∧ j < d0 + n then (cvtElems x w).1.getD (j - d0) 0 % 2 ^ b else elemAt b (vreg x w.d) j) ∧
      (cvtDscale w = false → KeepsS x y) ∧
      (cvtDscale w = true → (∀ r, r ≠ w.rc → sreg y r = sreg x r) ∧ (w.rc ≠ 0 → ∀ i < 8, sreg y w.rc / 256 ^ i % 256 =
        if d0 / 32 ≤ i ∧ i < d0 / 32 + sc.length then sc.getD (i - d0 / 32) 0 % 256 else sreg x w.rc / 256 ^ i % 256)))

/-- PTOR and PTOV (R138, R244, R245): an address of a POOL context's window converted either way, with a true predicate; one
without a window, and any while XLT_CFG.ENABLE is 0, gives 0 and a false predicate, a context that is not POOL passes it unchanged, a window under invalidation waits. MARK
(R250) leaves a trace record, RDCYC, RDRET and RDTIME read their count. -/
def Sys2Proof.Claims.pointerConversionAndCounts : Prop :=
  ∀ (e : Nat) (w : Ins) (s : State), let x := engOf s e
    let a := sreg x w.a
    let ends := fun (t : State) => Retires s t e (x.pc + 1) ∧ KeepsV x (engOf t e) ∧ KeepsT x (engOf t e)
    let src := NMap.getD s.dbg.srcs (unitKey utEngine e) ⟨[], 0, 0⟩
    (∀ mk op lo, (mk, op, lo) ∈ ([(.iPtor, 0, true), (.iPtov, 1, false)] : List ((Nat → Ins → Instr) × Nat × Bool)) →
      Issues s e 0x15 op w → w.f = 0 → w.b = 0 → w.rc = 0 → w.x < 8 →
      let gives := fun (v : Nat) (b : Bool) => Does (mk e w) s fun t =>
        ends t ∧ GetsS x (engOf t e) w.d v ∧ GetsP x (engOf t e) w.x b
      let holds := fun (n : XWindow) => (if lo then n.va else n.rpa) ≤ a ∧ a < (if lo then n.va else n.rpa) + 0x200000 * n.count
      ((∀ c, NMap.find s.xlt.ctxs (engCtx s e) = some c → c.pool = false) → gives a true) ∧
      (∀ c, NMap.find s.xlt.ctxs (engCtx s e) = some c → c.pool = true →
        ((s.flag XLT_CFG_ENABLE = false ∨ ∀ n ∈ c.windows, ¬ holds n) → gives 0 false) ∧
        (∀ n, s.flag XLT_CFG_ENABLE = true → a < 2 ^ 56 → c.windows.find? (fun n => decide (holds n)) = some n →
          (n.inval = false → gives (if lo then n.rpa + (a - n.va) else n.va + (a - n.rpa)) true) ∧
          (n.inval = true → Does (mk e w) s fun t => t = s)))) ∧
    (Issues s e 0x18 0 w → w.f = 0 → w.d = 0 → w.b = 0 → w.rc = 0 → w.x < 3 →
      (traceOn s (w.x + 1) = false → Does (.iMark e w) s fun t => ends t ∧ KeepsS x (engOf t e) ∧ KeepsP x (engOf t e) ∧ t.dbg.srcs = s.dbg.srcs) ∧
      (traceOn s (w.x + 1) = true → src.drops = 0 → src.queue.length < 64 → Does (.iMark e w) s fun t =>
        ends t ∧ KeepsS x (engOf t e) ∧ KeepsP x (engOf t e) ∧ ∃ r, (NMap.getD t.dbg.srcs (unitKey utEngine e) ⟨[], 0, 0⟩).queue = src.queue ++ [r] ∧
          r.type = w.x + 1 ∧ r.unitType = utEngine ∧ r.unitIndex = e ∧ r.arg0 = a ∧ r.arg1 = x.pc ∧ r.time = s.now)) ∧
    (∀ mk op v, (mk, op, v) ∈ ([(.iRdcyc, 1, s.get (ENG_CYCLES_CYCLES e)), (.iRdret, 2, s.get (ENG_RETIRED_RETIRED e)),
        (.iRdtime, 3, s.now)] : List ((Nat → Ins → Instr) × Nat × Nat)) →
      Issues s e 0x18 op w → w.f = 0 → w.a = 0 → w.b = 0 → w.imm = 0 → Does (mk e w) s fun t =>
      ends t ∧ GetsS x (engOf t e) w.d v ∧ KeepsP x (engOf t e))

/-- The statements above: dot steps accumulate, tile instructions move elements. -/
def Obligations.DotAndTileInstructions : Prop :=
  Sys2Proof.Claims.dotStepsAccumulate ∧
  Sys2Proof.Claims.tileInstructionsMoveElements

/-- The statements above: special functions and conversion, pointer conversion and counts. -/
def Obligations.FunctionConversionAndCountInstructions : Prop :=
  Sys2Proof.Claims.specialFunctionsAndConversion ∧
  Sys2Proof.Claims.pointerConversionAndCounts

/-! Every engine instruction (chapter 10). -/

/-- The 130 instructions by CLASS and OP (Table 10.2, R251). -/
def Sys2Proof.Claims.form (mk : Nat → Ins → Instr) (cls op : Nat) : Prop := (mk, cls, op) ∈ ([
   (.iNop, 0x00, 0), (.iBr, 0x00, 1), (.iCb, 0x00, 2), (.iJal, 0x00, 3), (.iJr, 0x00, 4), (.iHalt, 0x00, 5), (.iAdd, 0x01, 0),
   (.iSub, 0x01, 1), (.iAnd, 0x01, 2), (.iOr, 0x01, 3), (.iXor, 0x01, 4), (.iShl, 0x01, 5), (.iShr, 0x01, 6),
   (.iSra, 0x01, 7), (.iMin, 0x01, 8), (.iMax, 0x01, 9), (.iMinu, 0x01, 10), (.iMaxu, 0x01, 11), (.iSel, 0x01, 12),
   (.iAddi, 0x02, 0), (.iSubi, 0x02, 1), (.iAndi, 0x02, 2), (.iOri, 0x02, 3), (.iXori, 0x02, 4), (.iShli, 0x02, 5),
   (.iShri, 0x02, 6), (.iSrai, 0x02, 7), (.iMini, 0x02, 8), (.iMaxi, 0x02, 9), (.iMinui, 0x02, 10), (.iMaxui, 0x02, 11),
   (.iLi, 0x02, 12), (.iLih, 0x02, 13), (.iMul, 0x03, 0), (.iMulh, 0x03, 1), (.iMulhu, 0x03, 2), (.iDiv, 0x03, 3),
   (.iDivu, 0x03, 4), (.iRem, 0x03, 5), (.iRemu, 0x03, 6), (.iPcmp, 0x04, 0), (.iPcmpi, 0x04, 1), (.iPand, 0x04, 2),
   (.iPor, 0x04, 3), (.iPxor, 0x04, 4), (.iPandn, 0x04, 5), (.iPtos, 0x04, 6), (.iStop, 0x04, 7), (.iVadd, 0x08, 0),
   (.iVsub, 0x08, 1), (.iVmul, 0x08, 2), (.iVfma, 0x08, 3), (.iVmin, 0x08, 4), (.iVmax, 0x08, 5), (.iVadds, 0x08, 6),
   (.iVmuls, 0x08, 7), (.iVfmas, 0x08, 8), (.iVcmp, 0x08, 9), (.iVand, 0x09, 0), (.iVor, 0x09, 1), (.iVxor, 0x09, 2),
   (.iVsel, 0x09, 3), (.iVmov, 0x09, 4), (.iVzero, 0x09, 5), (.iVbcast, 0x09, 6), (.iVext, 0x09, 7), (.iVins, 0x09, 8),
   (.iVrot, 0x09, 9), (.iLdb, 0x0c, 0), (.iLdbu, 0x0c, 1), (.iLdh, 0x0c, 2), (.iLdhu, 0x0c, 3), (.iLdw, 0x0c, 4),
   (.iLdwu, 0x0c, 5), (.iLdd, 0x0c, 6), (.iStb, 0x0c, 8), (.iSth, 0x0c, 9), (.iStw, 0x0c, 10), (.iStd, 0x0c, 11),
   (.iVld, 0x0d, 0), (.iVst, 0x0d, 1), (.iAget, 0x0e, 0), (.iAput, 0x0e, 1), (.iTwait, 0x0f, 0), (.iTwaitall, 0x0f, 1),
   (.iTwaitn, 0x0f, 2), (.iTstat, 0x0f, 3), (.iBar, 0x0f, 4), (.iBarmask, 0x0f, 5), (.iSemsig, 0x0f, 6),
   (.iSemwait, 0x0f, 7), (.iSemtry, 0x0f, 8), (.iNfence, 0x0f, 9), (.iDot, 0x10, 0), (.iDots, 0x10, 1), (.iTzero, 0x11, 0),
   (.iTrd, 0x11, 1), (.iTwr, 0x11, 2), (.iTscale, 0x11, 3), (.iVexp, 0x12, 0), (.iVexp2, 0x12, 1), (.iVrcp, 0x12, 2),
   (.iVrmax, 0x13, 0), (.iVrmin, 0x13, 1), (.iVrsum, 0x13, 2), (.iVexps, 0x13, 3), (.iSexps, 0x13, 4), (.iSfma, 0x13, 5),
   (.iCvt, 0x14, 0), (.iPtor, 0x15, 0), (.iPtov, 0x15, 1), (.iAadd, 0x16, 0), (.iAand, 0x16, 1), (.iAor, 0x16, 2),
   (.iAxor, 0x16, 3), (.iAmin, 0x16, 4), (.iAmax, 0x16, 5), (.iAminu, 0x16, 6), (.iAmaxu, 0x16, 7), (.iAswap, 0x16, 8),
   (.iAcas, 0x16, 9), (.iAfadd, 0x16, 10), (.iAfmin, 0x16, 11), (.iAfmax, 0x16, 12), (.iCred, 0x17, 0), (.iCgath, 0x17, 1),
   (.iMark, 0x18, 0), (.iRdcyc, 0x18, 1), (.iRdret, 0x18, 2), (.iRdtime, 0x18, 3)] : List ((Nat → Ins → Instr) × Nat × Nat))

/-- Predication and issue (R171, R215, R217): whatever the instruction, where its predicate is off it either retires with no
effect, or faults with ILLEGAL for an encoding that R215 refuses; where the engine does not stand at its word nothing happens. -/
def Obligations.PredicatedOffInstructionsRetire : Prop :=
  ∀ (mk : Nat → Ins → Instr) (cls op e : Nat) (w : Ins) (s : State), Sys2Proof.Claims.form mk cls op → let x := engOf s e
    (e < 256 → atWord s e cls op w = true → predOn x w = false → Does (mk e w) s fun t =>
      (Retires s t e (x.pc + 1) ∧ KeepsS x (engOf t e) ∧ KeepsP x (engOf t e) ∧ KeepsV x (engOf t e) ∧ KeepsT x (engOf t e) ∧
        t.mem = s.mem) ∨ Faults s t e 1 stPermission) ∧
    (atWord s e cls op w = false → Does (mk e w) s fun t => t = s)

/-- A word's CLASS, OP and fields are read back from it (R213, Table 10.1). -/
def Obligations.EngineWordRoundTrip : Prop :=
  ∀ (mk : Nat → Ins → Instr) (cls op : Nat) (w : Ins), Sys2Proof.Claims.form mk cls op →
    wordOf cls op w < 2 ^ 64 ∧ reservedWord (wordOf cls op w) = false ∧ wordClass (wordOf cls op w) = cls ∧
    wordOp (wordOf cls op w) = op ∧ insOf (wordOf cls op w) = w

/-! Channels: commands, doorbells, acceptance and selection (chapter 07). -/

/-- Channel `c` is `x` afterwards (`none`: not created), every other channel as before, and of the front end only what a
statement names has changed beside. -/
def Sys2Proof.Claims.chanIs (s t : State) (c : Nat) (x : Option Chan) : Prop :=
  chanOf' t c = x ∧ ∀ d, d ≠ c → chanOf' t d = chanOf' s d

def Sys2Proof.Claims.chansOnly (s t : State) : Prop := t = { s with regs := t.regs, chn := { s.chn with chans := t.chn.chans } }

/-- The record of a window's write that is ignored (R143 step 1, R451). -/
def Sys2Proof.Claims.badNote (s : State) (w c a addr : Nat) : ErrIn :=
  { cls := 0, unitType := utChannel, unitIndex := c, cause := 0x0007, status := stPermission, tenant := windowTenant s w,
    agent := a, addr := some addr, info := 0 }

/-- Channel commands and CHN_TCTL (R142, R166, R167, R298, R450, Tables 7.9, 7.12, 7.14): CREATE makes the channel of CHN_ENTRY,
DESTROY removes a DISABLED one, QUERY shows one, ENABLE, RESUME and RESET change its state, SET_SCHED its priority and weight; a
reset is done once nothing is live; a tenant acts through its window on its own channels only. -/
def Sys2Proof.Claims.channelCommandsChangeTheirEntry : Prop :=
  ∀ (s : State) (x : Chan), let c := s.get CHN_CMD_CHANNEL
    let bytes := entryBytes s
    let new := chanOfEntry bytes
    let cmd := s.get CHN_CMD_BUSY = 0 ∧ chanOf' s c = some x
    let refused := fun (i : Instr) (de : Nat) => Does i s fun t => EndedRefused s t CHN_CMD_STATUS CHN_CMD_DETAIL de
    let becomes := fun (i : Instr) (y : Chan) => Does i s fun t => Sys2Proof.Claims.chanIs s t c (some y) ∧
      Ended s t CHN_CMD_STATUS CHN_CMD_DETAIL [] ∧ Sys2Proof.Claims.chansOnly s t
    let aborts := fun (t : State) (k : Nat) => (∃ y, Sys2Proof.Claims.chanIs s t k (some y) ∧ y.st = 4 ∧ y.rings = [] ∧
        (∀ l ∈ y.live, ∃ m ∈ x.live, l.idx = m.idx ∧ (m.started = true ∨ m.ended.isSome = true) ∧
          (l.stop.isSome = true ∨ l.ended.isSome = true))) ∧
      (∀ q, t.chn.sel = some q → q.ch ≠ k) ∧ (∀ b ∈ t.chn.bells, b.ch ≠ k) ∧ t.mem = s.mem ∧ t.eng = s.eng
    let quiet := fun (k : Nat) => (∀ n ∈ s.eng.launches, n.ch ≠ k)
    (s.get CHN_CMD_BUSY = 0 → chanOf' s c = none → configured s new.tenant = true →
      (new.ctx = 0 ∨ ∃ k, NMap.find s.xlt.ctxs new.ctx = some k ∧ k.tenant = new.tenant) → badEntry bytes new = false →
      ringOk s new.tenant new.sqBase (128 * 2 ^ new.sqLog) rtRead = true → ringOk s new.tenant new.cqBase (32 * 2 ^ new.cqLog) rtWrite = true →
      becomes .chnCreate new) ∧
    (cmd → refused .chnCreate 1) ∧
    (cmd → x.st = 0 → Does .chnDestroy s fun t => Sys2Proof.Claims.chanIs s t c none ∧ Ended s t CHN_CMD_STATUS CHN_CMD_DETAIL [] ∧
      t = { s with regs := t.regs, chn := { s.chn with
        chans := t.chn.chans
        cache := s.chn.cache.filter (· ≠ c)
        bells := s.chn.bells.filter fun b => b.ch ≠ c } }) ∧
    (cmd → x.st ≠ 0 → refused .chnDestroy 2 ∧ refused .chnEnable 2) ∧
    (cmd → Does .chnQuery s fun t => (∀ n < 16, t.get (CHN_ENTRY_DATA n) = fieldLe (chanBytes x) (8 * n) 8) ∧
      Ended s t CHN_CMD_STATUS CHN_CMD_DETAIL ((List.range 16).map CHN_ENTRY_DATA) ∧ t = { s with regs := t.regs }) ∧
    (cmd → x.st = 0 → becomes .chnEnable { x with st := 1 } ∧ refused .chnReset 2) ∧
    (cmd → x.st = 2 → becomes .chnResume { x with st := 1 }) ∧
    (cmd → x.st ≠ 2 → refused .chnResume 2) ∧
    (cmd → x.st ≠ 0 → x.st ≠ 4 → quiet c → Does .chnReset s fun t => aborts t c ∧ t.get CHN_CMD_BUSY = 1 ∧ RegsKept s t [CHN_CMD_BUSY]) ∧
    (cmd → fieldLe bytes 0x19 1 ≤ 3 → fieldLe bytes 0x1a 1 ≠ 0 →
      becomes .setSched { x with prio := fieldLe bytes 0x19 1, weight := fieldLe bytes 0x1a 1 }) ∧
    (cmd → (3 < fieldLe bytes 0x19 1 ∨ fieldLe bytes 0x1a 1 = 0) → refused .setSched 4) ∧
    (∀ i ∈ ([.chnDestroy, .chnQuery, .chnEnable, .chnReset, .chnResume, .setSched] : List Instr),
      s.get CHN_CMD_BUSY = 0 → chanOf' s c = none → refused i 1) ∧
    (∀ w k a, chanOf' s k = some x → windowTenant s w = some x.tenant →
      (x.st = 0 → Does (.tctlEnable w k a) s fun t => Sys2Proof.Claims.chanIs s t k (some { x with st := 1 }) ∧
        t = { s with chn := { s.chn with chans := t.chn.chans } }) ∧
      (x.st ≠ 0 → Does (.tctlEnable w k a) s fun t => t = s) ∧
      (x.st = 2 → Does (.tctlResume w k a) s fun t => Sys2Proof.Claims.chanIs s t k (some { x with st := 1 }) ∧
        t = { s with chn := { s.chn with chans := t.chn.chans } }) ∧
      (x.st ≠ 2 → Does (.tctlResume w k a) s fun t => t = s) ∧
      (x.st ≠ 0 → x.st ≠ 4 → quiet k → Does (.tctlReset w k a) s fun t => aborts t k ∧ t.regs = s.regs) ∧
      ((x.st = 0 ∨ x.st = 4) → Does (.tctlReset w k a) s fun t => t = s)) ∧
    (∀ w k a, k < 4096 → (∀ y, chanOf' s k = some y → windowTenant s w ≠ some y.tenant) →
      Plain s (Sys2Proof.Claims.badNote s w k a (0x8000200 + 0x10000 * w)) →
      ∀ i ∈ ([.tctlEnable w k a, .tctlReset w k a, .tctlResume w k a] : List Instr), Does i s fun t => t.chn = s.chn ∧
      Raised s t CHN_EVENT_DOORBELL_BAD ∧ t.get CHN_EVENT_LAST_CHANNEL = k ∧
      Reports s t (Sys2Proof.Claims.badNote s w k a (0x8000200 + 0x10000 * w))) ∧
    (∀ k, chanOf' s k = some x → x.st = 4 → x.live = [] → (∀ r ∈ s.err.openRecs, r.unitType ≠ utChannel ∨ r.unitIndex ≠ k) →
      Does (.channelResetDone k) s fun t => Sys2Proof.Claims.chanIs s t k (some { x with
        st := 0, sqHead := 0, sqTail := 0, cqTail := 0, cqHead := 0, phase := true, fStatus := 0, fDetail := 0, fIndex := 0 }) ∧
      Sys2Proof.Claims.chansOnly s t ∧ (if s.get CHN_CMD_BUSY ≠ 0 ∧ c = k then t.get CHN_CMD_BUSY = 0 ∧
        Ended s t CHN_CMD_STATUS CHN_CMD_DETAIL [CHN_CMD_BUSY] else t.regs = s.regs)) ∧
    (∀ k, chanOf' s k = some x → (x.st ≠ 4 ∨ x.live ≠ []) → Does (.channelResetDone k) s fun t => t = s)

/-- A doorbell's pointers are within the ring (R143 steps 2 and 3). -/
def Sys2Proof.Claims.inRing (x : Chan) (v : Nat) : Prop :=
  (bit v 31 = true → ahead (v % 65536) x.sqTail ≤ ahead (v % 65536) x.sqHead ∧ ahead (v % 65536) x.sqHead ≤ 2 ^ x.sqLog) ∧
  (bit v 63 = true → ahead x.cqTail (bits v 47 32) ≤ ahead x.cqTail x.cqHead)

/-- The channel after a doorbell: the new tail and the new completion head. -/
def Sys2Proof.Claims.rung (s : State) (x : Chan) (v : Nat) : Chan :=
  { x with
    sqTail := if bit v 31 then v % 65536 else x.sqTail
    rings := if bit v 31 then x.rings ++ [(v % 65536, s.now)] else x.rings
    cqHead := if bit v 63 then bits v 47 32 else x.cqHead }

/-- Doorbells (R141, R143): of a tenant's own RUNNING or PAUSED channel they move the pointers they name, and fault the channel
where these leave the ring; a channel that is not cached keeps its doorbells until CDT_LOAD; one of another tenant is ignored
with an event and a record; all of them are while the front end is off. A load for which no cached entry can make room waits,
with CACHE_WAIT. -/
def Sys2Proof.Claims.doorbellsMoveTheRings : Prop :=
  ∀ (s : State) (w c a : Nat) (v : Word64) (x : Chan), c < 4096 → let d := bits v.toNat
    let own := s.get CHN_CFG_ENABLE = 1 ∧ chanOf' s c = some x ∧ windowTenant s w = some x.tenant ∧ (x.st = 1 ∨ x.st = 2)
    let cached := s.chn.cache.filter (· ≠ c) ++ [c]
    let faulted := fun (t : State) (de : Nat) => Sys2Proof.Claims.chanIs s t c (some { x with
        st := 3, fStatus := stPermission, fDetail := de, fIndex := 0 }) ∧ t.chn.cache = cached ∧
      Raised s t CHN_EVENT_CH_FAULT ∧ t.get CHN_EVENT_LAST_CHANNEL = c ∧ t.mem = s.mem
    (s.get CHN_CFG_ENABLE = 0 → Does (.doorbell w c a v) s fun t => t = s) ∧
    (own → c ∈ s.chn.cache → Sys2Proof.Claims.inRing x v.toNat → Does (.doorbell w c a v) s fun t =>
      Sys2Proof.Claims.chanIs s t c (some (Sys2Proof.Claims.rung s x v.toNat)) ∧
      t = { s with chn := { s.chn with chans := t.chn.chans, cache := cached } }) ∧
    (own → c ∈ s.chn.cache → bit v.toNat 31 = true → 2 ^ x.sqLog < ahead (d 15 0) x.sqHead → inRecovery s utChannel c = false →
      Does (.doorbell w c a v) s fun t => faulted t 4) ∧
    (own → c ∈ s.chn.cache → bit v.toNat 31 = false → bit v.toNat 63 = true → ahead x.cqTail x.cqHead < ahead x.cqTail (d 47 32) →
      inRecovery s utChannel c = false → Does (.doorbell w c a v) s fun t => faulted t 5) ∧
    (own → c ∉ s.chn.cache → (s.chn.cache.length < 512 ∨ replaceable s ≠ none) → Does (.doorbell w c a v) s fun t =>
      t = { s with chn := { s.chn with bells := s.chn.bells ++ [⟨w, c, v.toNat, a⟩] } }) ∧
    (own → c ∉ s.chn.cache → 512 ≤ s.chn.cache.length → replaceable s = none → Does (.doorbell w c a v) s fun t =>
      Raised s t CHN_EVENT_CACHE_WAIT ∧ t.get CHN_EVENT_LAST_CHANNEL = c ∧
      RegsKept s t [CHN_EVENT_CACHE_WAIT, CHN_EVENT_LAST_CHANNEL, MGT_NOTIFY_PENDING] ∧
      t = { s with regs := t.regs, chn := { s.chn with bells := s.chn.bells ++ [⟨w, c, v.toNat, a⟩] } }) ∧
    (s.get CHN_CFG_ENABLE = 1 → bellOk s w c = false → Plain s (Sys2Proof.Claims.badNote s w c a (0x8008000 + 0x10000 * w + 8 * c)) →
      Does (.doorbell w c a v) s fun t => t.chn = s.chn ∧ Raised s t CHN_EVENT_DOORBELL_BAD ∧ t.get CHN_EVENT_LAST_CHANNEL = c ∧
        Reports s t (Sys2Proof.Claims.badNote s w c a (0x8008000 + 0x10000 * w + 8 * c)) ∧
        RegsKept s t ([CHN_EVENT_DOORBELL_BAD, CHN_EVENT_LAST_CHANNEL] ++ reportRegs s (windowTenant s w))) ∧
    (own → (s.chn.bells.filter fun b => b.ch = c) = [⟨w, c, v.toNat, a⟩] → Sys2Proof.Claims.inRing x v.toNat →
      (s.chn.cache.length < 512 ∨ c ∈ s.chn.cache) → Does (.cdtLoad c) s fun t =>
      Sys2Proof.Claims.chanIs s t c (some (Sys2Proof.Claims.rung s x v.toNat)) ∧ t = { s with chn := { s.chn with
        chans := t.chn.chans, cache := cached, bells := s.chn.bells.filter fun b => b.ch ≠ c } }) ∧
    (∀ r, (s.chn.bells.filter fun b => b.ch = c) ≠ [] → c ∉ s.chn.cache → 512 ≤ s.chn.cache.length → replaceable s = some r →
      Does (.cdtLoad c) s fun t => t.chn.cache = (s.chn.cache.filter (· ≠ r)).filter (· ≠ c) ++ [c]) ∧
    ((s.chn.bells.filter fun b => b.ch = c) ≠ [] → c ∉ s.chn.cache → 512 ≤ s.chn.cache.length → replaceable s = none →
      Does (.cdtLoad c) s fun t => Raised s t CHN_EVENT_CACHE_WAIT ∧ t.get CHN_EVENT_LAST_CHANNEL = c ∧
        RegsKept s t [CHN_EVENT_CACHE_WAIT, CHN_EVENT_LAST_CHANNEL, MGT_NOTIFY_PENDING] ∧ t = { s with regs := t.regs }) ∧
    ((∀ b ∈ s.chn.bells, b.ch ≠ c) → Does (.cdtLoad c) s fun t => t = s)

/-- Acceptance, selection and start (R130, R144, R145, R149 to R152, R295, R298): the next descriptor is read from its ring slot,
checked and translated, or ends with PERMISSION and the first check that it fails; a unit of the highest backlogged level is
selected; the selected descriptor starts, with its first tile where it has tiles, and the selected tile starts; while the
front end is off, or the channel is not RUNNING, no descriptor starts. -/
def Obligations.DescriptorsAreAcceptedAndStarted : Prop :=
  ∀ (s : State) (c : Nat) (x : Chan), chanOf' s c = some x →
    let off := x.sqBase + 128 * (x.sqHead % 2 ^ x.sqLog)
    let d := descOf (rdBytes s.mem off 128)
    let engs := if d.op = opLaunch then (List.range 256).filter fun e =>
        bit d.imm (e / 16) && bit d.imm (16 + e % 16) && s.get (ENG_CTL_OFFLINE e) == 0 else []
    let read := stagedOf x = none ∧ mayRead s c x = true ∧ x.sqBase % 128 = 0 ∧ NMap.wf s.chn.chans = true ∧ (∀ l ∈ x.live, l.idx ≠ x.sqHead) ∧
      (∃ id y, admitOff s x.tenant off 128 .engRead rtRead = .ok id y) ∧ Sys2Proof.Claims.free s off 128 ∧
      (∀ l ∈ linesOf off 128, needHeal s l = false) ∧ poisonedIn s off 128 = false ∧ (NMap.find s.sec.tenants x.tenant).all fun r => r.st = .live
    let accepted := fun (t : State) (l : LiveDesc) => Sys2Proof.Claims.chanIs s t c (some { x with
      sqHead := (x.sqHead + 1) % 65536, live := x.live ++ [{ l with idx := x.sqHead, read := true, d := d }] }) ∧ t.mem = s.mem
    let started := fun (t : State) (l : LiveDesc) (col : Nat) => ∃ tile, liveOf t c l.idx = some { l with
        next := l.next + 1, tiles := l.tiles ++ [tile] } ∧ tile.ord = l.next ∧ tile.colour = col ∧ tile.performed = false ∧
        tile.began = s.now ∧ t.chn.sel = none
    (∀ xl, read → descRefusal s x.tenant x.ctx d = none → d.op ≠ opGather → d.op ≠ opScatter → d.op ≠ opFlush →
      xlSegs s x.ctx x.tenant d.conv (d.allSegs []) [] = .ok xl → onNode s xl = true → slabUsed s + xl.length ≤ 1048576 →
      Does (.descriptorAccept c) s fun t => ∃ handle, accepted t { LiveDesc.blank 0 with
        xl := xl
        pinned := true
        ready := true
        next := d.first
        result := if d.op = opCompare then 2 ^ 64 - 1 else 0
        engines := engs
        xlate := some (handle, xl.length) }) ∧
    (∀ de, read → descRefusal s x.tenant x.ctx d = some de → Does (.descriptorAccept c) s fun t =>
      accepted t { LiveDesc.blank 0 with ended := some ⟨stPermission, de⟩, engines := engs } ∧ t.xlt = s.xlt) ∧
    (stagedOf x = none → mayRead s c x = false → Does (.descriptorAccept c) s fun t => t = s) ∧
    (s.chn.chans = [(c, x)] → s.chn.sel = none → s.get CHN_CFG_ENABLE = 1 → chanBacklogged s c x = true → x.prio ≤ 3 →
      (tagOf s c).backlogged = false → (policerOf s c).algo = 0 → Does .channelSchedSelect s fun t =>
      ∃ l b, unitOfChan s x = some (l, b) ∧ t.chn = { s.chn with sel := some ⟨c, if b then some l.idx else none, 0⟩ } ∧
        t = { s with regs := t.regs, chn := t.chn, qos := t.qos, dbg := t.dbg }) ∧
    (selStands s = true → Does .channelSchedSelect s fun t => t = s) ∧
    (∀ slot q l, s.chn.sel = some q → q.ch = c → liveOf s c slot = some l → l.stop = none → l.ended = none →
      (q.tileOf = none → s.get CHN_CFG_ENABLE = 1 → x.st = 1 → l.ready = true → l.started = false →
        (l.d.tiled = false → Does (.descriptorStart c slot) s fun t => t.chn.sel = none ∧
          (∃ cov, liveOf t c slot = some { l with started := true, covers := cov } ∧ (l.d.op ≠ opFlush → cov = [])) ∧
          (∀ k, k ≠ c → chanOf' t k = chanOf' s k) ∧ RegsKept s t [DBG_TSTAT_SOURCE_DROPS] ∧
          t = { s with regs := t.regs, chn := t.chn, dbg := t.dbg }) ∧
        (l.d.tiled = true → (∀ r, NMap.find s.sec.tenants x.tenant = some r → r.st = .live) →
          admitTile s x.tenant (tilePieces l l.next) = none →
          Does (.descriptorStart c slot) s fun t => started t { l with started := true, covers := [] } q.colour)) ∧
      (q.tileOf = some slot → l.hasTile = true → s.get MIR_STATUS_STATE ≠ 5 →
        (∀ r, NMap.find s.sec.tenants x.tenant = some r → r.st = .live) →
        (admitTile s x.tenant (tilePieces l l.next) = none → Does (.tileStart c slot) s fun t => started t l q.colour) ∧
        (∀ st mm o, admitTile s x.tenant (tilePieces l l.next) = some (st, mm, o) → Does (.tileStart c slot) s fun t =>
          liveOf t c slot = some { l with stop := some ⟨st, 0⟩ } ∧ t.chn.sel = none ∧ t.mem = s.mem))) ∧
    (∀ slot q l, s.chn.sel = some q → q.ch = c → q.tileOf = none → liveOf s c slot = some l → (s.get CHN_CFG_ENABLE = 0 ∨ x.st ≠ 1) →
      Does (.descriptorStart c slot) s fun t => t = { s with chn := { s.chn with sel := none } }) ∧
    (∀ slot, s.chn.sel = none → Does (.descriptorStart c slot) s (fun t => t = s) ∧ Does (.tileStart c slot) s (fun t => t = s))

/-- The statements above: channel commands change their entry, doorbells move the rings. -/
def Obligations.ChannelsAndTheirDoorbells : Prop :=
  Sys2Proof.Claims.channelCommandsChangeTheirEntry ∧
  Sys2Proof.Claims.doorbellsMoveTheRings

/-! Work descriptors: what tiles do (chapter 07). -/

/-- The pool offset behind an address of a descriptor. -/
def Sys2Proof.Claims.byteAt (l : LiveDesc) (a : Nat) : Nat := rpaOff ((xlAt l.xl a).getD 0)

/-- Rows as addresses with their bytes. -/
def Sys2Proof.Claims.rowBytes (rows : List (Nat × List Byte)) : List (Nat × Byte) :=
  rows.flatMap fun r => (r.2.zip (List.range r.2.length)).map fun b => (r.1 + b.2, b.1)

/-- The bytes of a range of a descriptor's addresses. -/
def Sys2Proof.Claims.src (s : State) (l : LiveDesc) (a n : Nat) : List Byte :=
  (List.range n).map fun i => rdByte s.mem (Sys2Proof.Claims.byteAt l (a + i))

/-- A tile whose work can be done now: it is the next one of its descriptor, its pages are aligned, nothing waits at the home
slices, and what it touches is on this node's memory, neither lost nor mirrored. -/
def Sys2Proof.Claims.works (s : State) (c slot op : Nat) (x : Chan) (l : LiveDesc) (q : Tile) : Prop :=
  chanOf' s c = some x ∧ liveOf s c slot = some l ∧ l.d.op = op ∧ nextWork s l = some q ∧ s.dir.txns = [] ∧
  (∀ r ∈ l.xl, r.rpa % (if r.small then 65536 else 0x200000) = 0) ∧
  ∀ p ∈ tilePieces l q.ord, lostIn s p.1 p.2.1 = false ∧
    ∀ i < p.2.1, heldAt s (p.1 + i) = false ∧ (frameAt s (p.1 + i)).tier ≠ .remote

/-- Every byte of a range is translated. -/
def Sys2Proof.Claims.mappedAt (l : LiveDesc) (a n : Nat) : Prop := ∀ i < n, (xlAt l.xl (a + i)).isSome = true

/-- Rows that are translated and of which no two bytes fall on one offset. -/
def Sys2Proof.Claims.placed (l : LiveDesc) (rows : List (Nat × List Byte)) : Prop :=
  (∀ p ∈ Sys2Proof.Claims.rowBytes rows, (xlAt l.xl p.1).isSome = true) ∧
  ((Sys2Proof.Claims.rowBytes rows).map fun p => Sys2Proof.Claims.byteAt l p.1).Nodup

/-- Afterwards the rows stand in memory and every other byte is as before. -/
def Sys2Proof.Claims.wrote (s t : State) (l : LiveDesc) (rows : List (Nat × List Byte)) : Prop :=
  (∀ p ∈ Sys2Proof.Claims.rowBytes rows, rdByte t.mem (Sys2Proof.Claims.byteAt l p.1) = p.2) ∧
  ∀ q, (∀ p ∈ Sys2Proof.Claims.rowBytes rows, q ≠ Sys2Proof.Claims.byteAt l p.1) → rdByte t.mem q = rdByte s.mem q

/-- The tile's work is done: it adds `res` to RESULT once delivered, `due` packets of it wait, the descriptor keeps that it met
poison; other channels, other tiles and the registers are as before. Lines that a FILTER opens reach the sampling and the
queues of their controllers. -/
def Sys2Proof.Claims.worked (s t : State) (c : Nat) (x : Chan) (l : LiveDesc) (q : Tile) (res due : Nat) (bad : Bool)
    (f : LiveDesc → LiveDesc) : Prop :=
  let q' := { q with performed := true, res := res, due := due, accs := [], out := [] }
  let l' := f { l with poison := l.poison || bad, tiles := l.tiles.map fun y => if y.ord = q.ord then q' else y }
  chanOf' t c = some { x with live := x.live.map fun y => if y.idx = l.idx then l' else y } ∧
  (∀ d, d ≠ c → chanOf' t d = chanOf' s d) ∧ RegsKept s t [ERR_CNT1_POISON_CONSUMED] ∧
  t = { s with regs := t.regs, mem := t.mem, poison := t.poison, chn := t.chn, dbg := t.dbg
               dir := { s.dir with accs := t.dir.accs, nextAcc := t.dir.nextAcc }, ext := { s.ext with inflight := t.ext.inflight }
               fab := { s.fab with tx := t.fab.tx, psn := t.fab.psn, reqs := t.fab.reqs, waitTag := t.fab.waitTag }
               plc := { s.plc with drawn := t.plc.drawn, samples := t.plc.samples }, mch := { s.mch with ctl := t.mch.ctl } }

/-- Tiles of FILL, COPY, REDUCE, GATHER and SCATTER (R155, R157, R159, R160, R211): the tile's destination rows hold the pattern
of IMM, the source rows, their combination element by element (rows are combined in turn: here none reads what an earlier one
writes), or the listed rows, and no other byte of memory changes. -/
def Sys2Proof.Claims.tilesWriteTheirRows : Prop :=
  ∀ (s : State) (c slot : Nat) (x : Chan) (l : LiveDesc) (q : Tile), let d := l.d
    let o := q.ord
    let n := d.c 0
    let idx := List.range (d.c 1)
    let dst := fun i => d.rowAt d.dst d.ds o i
    let src := fun i => d.rowAt d.src d.ss o i
    let list := fun i => l.rows.getD (o * d.c 1 + i) 0
    let flags := fun a => rdRange s l.xl a (d.srcRow)
    let does := fun (i : Instr) (op res : Nat) (rows : List (Nat × List Byte)) (bad : Bool) =>
      Sys2Proof.Claims.works s c slot op x l q → Sys2Proof.Claims.placed l rows → Does i s fun t =>
        Sys2Proof.Claims.wrote s t l rows ∧ Sys2Proof.Claims.worked s t c x l q res 0 bad id
    let poison := fun (as : List Nat) => anyBad (as.map fun a => rdRange s l.xl a n)
    does (.dFill c slot) 0x01 (n * d.c 1) (idx.map fun i => (dst i, (List.range n).map fun j =>
      (natLe 8 d.imm).getD (j % 2 ^ (d.opx % 4)) 0#8)) false ∧
    ((∀ i < d.c 1, Sys2Proof.Claims.mappedAt l (src i) n) →
      does (.dCopy c slot) 0x02 (n * d.c 1) (idx.map fun i => (dst i, Sys2Proof.Claims.src s l (src i) n)) (poison (idx.map src))) ∧
    ((∀ i < d.c 1, Sys2Proof.Claims.mappedAt l (list i) n) → (o + 1) * d.c 1 ≤ l.rows.length →
      does (.dGather c slot) 0x05 (n * d.c 1) (idx.map fun i => (dst i, Sys2Proof.Claims.src s l (list i) n)) (poison (idx.map list))) ∧
    ((∀ i < d.c 1, Sys2Proof.Claims.mappedAt l (src i) n) → (o + 1) * d.c 1 ≤ l.rows.length →
      does (.dScatter c slot) 0x06 (n * d.c 1) (idx.map fun i => (list i, Sys2Proof.Claims.src s l (src i) n)) (poison (idx.map src))) ∧
    (let other := fun i => if d.aux = 0 then dst i else d.rowAt d.aux d.ss o i
      let w := fmtBits d.srcFmt
      let two := fun (a b : Nat) => if d.aux = 0 then (decodeF d.dstFmt b, decodeF d.dstFmt a) else (decodeF d.dstFmt a, decodeF d.dstFmt b)
      let apart := fun (i k : Nat) => ∀ a ∈ [src k, other k], ∀ j < d.srcRow, ∀ j' < d.srcRow,
        Sys2Proof.Claims.byteAt l (dst i + j) ≠ Sys2Proof.Claims.byteAt l (a + j')
      d.srcFmt < 5 → d.dstFmt = d.srcFmt → (∀ k < d.c 1, ∀ i < k, apart i k) → (∀ i < d.c 1, Sys2Proof.Claims.mappedAt l (src i) d.srcRow ∧ Sys2Proof.Claims.mappedAt l (other i) d.srcRow) →
      does (.dReduce c slot) 0x04 (d.srcRow * d.c 1) (idx.map fun i => (dst i, natLe d.srcRow (packElems w ((List.range n).map fun j =>
        let e := fun a => elemAt w (leNat (Sys2Proof.Claims.src s l a d.srcRow)) j
        let v := two (e (src i)) (e (other i))
        encodeF .rne d.dstFmt (combine32 (d.opx % 4) v.1 v.2)))))
        (anyBad (idx.map fun i => flags (src i)) || anyBad (idx.map fun i => flags (other i))))

/-- Tiles of COMPARE, FILTER, CONVERT and PUSH_STREAM (R155, R158, R161, R162, R164): COMPARE keeps the index of its first
different byte and ends there; FILTER writes the elements that pass densely, and its mask, at once where their lines are free
and else once they are ready; CONVERT writes the converted rows and
their scales; PUSH_STREAM sends its rows to the agent. -/
def Sys2Proof.Claims.tilesComputeTheirResult : Prop :=
  ∀ (s : State) (c slot : Nat) (x : Chan) (l : LiveDesc) (q : Tile), let d := l.d
    let o := q.ord
    let idx := List.range (d.c 1)
    let src := fun i => d.rowAt d.src d.ss o i
    let dst := fun i => d.rowAt d.dst d.ds o i
    let rd := fun a => rdRange s l.xl a d.srcRow
    let rows := idx.map fun i => rd (src i)
    let a := rows.flatten
    let b := (idx.map fun i => rdRange s l.xl (dst i) d.dstRow).flatten
    let differs := fun (i : Nat) => (a[i]?.map Prod.fst) ≠ (b[i]?.map Prod.fst)
    let strip := List.map (Prod.map id (List.map (Prod.fst (α := Byte) (β := Bool))))
    (Sys2Proof.Claims.works s c slot 0x03 x l q → l.ended = none → l.stop = none → a.length = b.length →
      (a.any Prod.snd || b.any Prod.snd) = false →
      ((∀ i < a.length, ¬ differs i) → Does (.dCompare c slot) s fun t => Sys2Proof.Claims.worked s t c x l q 0 0 false id ∧ t.mem = s.mem) ∧
      (∀ i, i < a.length → differs i → (∀ j < i, ¬ differs j) → l.result = 2 ^ 64 - 1 → Does (.dCompare c slot) s fun t => t.mem = s.mem ∧
        Sys2Proof.Claims.worked s t c x l q 0 0 false fun y => { y with result := o * d.c 0 * d.c 1 + i, ended := some ⟨stOK, 0⟩ })) ∧
    (Sys2Proof.Claims.works s c slot 0x03 x l q → l.ended = none → l.stop = none → (a.any Prod.snd || b.any Prod.snd) = true →
      Does (.dCompare c slot) s fun t => t.mem = s.mem ∧ ∃ r, Sys2Proof.Claims.worked s t c x l q 0 0 true fun y =>
        { y with result := r, ended := some ⟨stPoisoned, 0⟩ }) ∧
    (let es := rows.flatMap fun r => rowElems d.srcBits (d.c 0) r
      let tests := es.map fun e => filterTest (d.opx % 8) (decodeAny d.srcFmt e.1) (decodeAny d.srcFmt (d.imm % 2 ^ d.srcBits))
      let kept := ((es.zip tests).filter Prod.snd).map Prod.fst
      let earlier := l.result + ((l.tiles.filter fun u => u.performed).map Tile.res).sum
      let out := (if kept = [] then [] else [(d.dst + earlier * d.srcBits / 8, packRow d.srcBits kept)]) ++
        (if d.aux = 0 then [] else [(d.aux + (o - d.first) * d.maskBytes, (packBits d.maskBytes tests).map fun b => (b, false))])
      let plain := fun (out : List (Nat × List (Byte × Bool))) => ∀ r ∈ out, ∀ i < r.2.length, let b := Sys2Proof.Claims.byteAt l (r.1 + i)
        lostIn s b 1 = false ∧ heldAt s b = false ∧ (frameAt s b).tier ≠ .remote
      Sys2Proof.Claims.works s c slot 0x07 x l q → l.poison = false →
      (q.taken = false → (rows.any fun r => r.any Prod.snd) = false → Sys2Proof.Claims.placed l (strip out) → plain out →
        (∀ p ∈ s.dir.accs, p.1 ∈ q.accs) →
        (∀ r ∈ out, ∀ i < r.2.length, let b := Sys2Proof.Claims.byteAt l (r.1 + i)
          inCoherent s (b / 128) = false ∧ (frameAt s b).zero = false) →
        Does (.dFilter c slot) s fun t => Sys2Proof.Claims.wrote s t l (strip out) ∧
          Sys2Proof.Claims.worked s t c x l { q with taken := true } kept.length 0 false id) ∧
      (q.taken = true → Sys2Proof.Claims.placed l (strip q.out) → plain q.out →
        Does (.dFilter c slot) s fun t => Sys2Proof.Claims.wrote s t l (strip q.out) ∧
          Sys2Proof.Claims.worked s t c x l q q.res 0 false id)) ∧
    (bit d.opx 1 = false → bit d.opx 2 = false →
      let out := (idx.map fun i => dst i).zip (rows.zip (List.range (d.c 1)) |>.map fun r =>
        let skip := (rows.take r.2).foldl (fun g r => (convertRow d r [] g).2.2) (seedOf (Nat.xor d.imm o))
        packRow d.dstBits (convertRow d r.1 [] skip).1)
      Sys2Proof.Claims.works s c slot 0x08 x l q → Sys2Proof.Claims.placed l (strip out) → Does (.dConvert c slot) s fun t =>
        Sys2Proof.Claims.wrote s t l (strip out) ∧ Sys2Proof.Claims.worked s t c x l q (d.dstRow * d.c 1) 0 (anyBad rows) id) ∧
    (∀ tag, Sys2Proof.Claims.works s c slot 0x11 x l q → l.ctrAccs = [] → d.c 1 = 1 → 1 ≤ d.c 0 → d.c 0 ≤ 1024 → freeTag s (d.imm2 % 4096) = some tag →
      Does (.dPushStream c slot) s fun t => Sys2Proof.Claims.worked s t c x l q 0 1 (anyBad rows) id ∧ t.mem = s.mem ∧
        Sends s t { pushPkt s x (d.imm2 % 4096) (dst 0) q.colour (rd (src 0)) with
          tag := tag
          psn := NMap.getD s.fab.psn (8 * (d.imm2 % 4096)) 0 })

/-- The statements above: tiles write their rows, tiles compute their result. -/
def Obligations.TilesOfDescriptors : Prop :=
  Sys2Proof.Claims.tilesWriteTheirRows ∧
  Sys2Proof.Claims.tilesComputeTheirResult

/-! Work descriptors without tiles, completion, and launches (chapters 07 and 08). -/

/-- A live descriptor becomes `l'`; every other descriptor and channel is as before. -/
def Sys2Proof.Claims.liveIs (s t : State) (c : Nat) (x : Chan) (l l' : LiveDesc) : Prop :=
  Sys2Proof.Claims.chanIs s t c (some { x with live := x.live.map fun y => if y.idx = l.idx then l' else y })

/-- LAUNCH, PUBLISH, FLUSH, MARK and FENCE once started (R70, R74, R163, R164): a LAUNCH asks for the engines selected when it was read, a PUBLISH goes to
its region's home, a FLUSH ends once no posted write that it covers is left, MARK ends with its trace record and the rack time, a
FENCE ends. -/
def Sys2Proof.Claims.plainDescriptorsAct : Prop :=
  ∀ (s : State) (c slot : Nat) (x : Chan) (l : LiveDesc), let d := l.d
    let src := NMap.getD s.dbg.srcs (unitKey utChannel c) ⟨[], 0, 0⟩
    let runs := fun (op : Nat) => chanOf' s c = some x ∧ liveOf s c slot = some l ∧ d.op = op ∧ l.started = true ∧ l.ended = none ∧ l.stop = none
    let done := { l with ended := some ⟨stOK, 0⟩, accs := [] }
    (runs 0x10 → (∀ y ∈ s.eng.launches, ¬ (y.ch = c ∧ y.idx = slot)) → Does (.dLaunch c slot) s fun t =>
      t = { s with eng := { s.eng with launches := s.eng.launches ++
        [⟨c, slot, x.tenant, x.ctx, l.engines, false, false, []⟩] } }) ∧
    (runs 0x20 → (∀ p ∈ s.dir.pubs, ¬ (p.ch = c ∧ p.slot = slot)) → Does (.dPublish c slot) s fun t =>
      t = { s with dir := { s.dir with pubs := s.dir.pubs ++
        [⟨d.imm / 2 ^ 32, d.imm % 2 ^ 32, d.imm2 % 2 ^ 32, c, slot, false, 0⟩] } }) ∧
    (runs 0x21 → (∀ id ∈ l.covers, NMap.find s.dir.accs id = none ∧ id ∉ heldIds s fun _ => true) → Does (.dFlush c slot) s fun t =>
      Sys2Proof.Claims.liveIs s t c x l done ∧ t = { s with chn := { s.chn with chans := t.chn.chans } }) ∧
    (∀ id, runs 0x21 → id ∈ l.covers → (NMap.find s.dir.accs id ≠ none ∨ id ∈ heldIds s fun _ => true) → Does (.dFlush c slot) s fun t => t = s) ∧
    (runs 0x30 → Does (.dMark c slot) s fun t => Sys2Proof.Claims.liveIs s t c x l { done with result := s.now } ∧
      RegsKept s t [DBG_TSTAT_SOURCE_DROPS] ∧
      (traceOn s (1 + d.opx) = true → src.drops = 0 → src.queue.length < 64 →
        (NMap.getD t.dbg.srcs (unitKey utChannel c) ⟨[], 0, 0⟩).queue = src.queue ++
          [⟨s.now, 1 + d.opx, utChannel, c, some x.tenant, d.imm, slot⟩]) ∧
      t = { s with regs := t.regs, dbg := t.dbg, chn := { s.chn with chans := t.chn.chans } }) ∧
    (runs 0x31 → Does (.dFence c slot) s fun t =>
      Sys2Proof.Claims.liveIs s t c x l done ∧ t = { s with chn := { s.chn with chans := t.chn.chans } }) ∧
    (∀ i ∈ ([.dLaunch c slot, .dPublish c slot, .dFlush c slot, .dMark c slot, .dFence c slot] : List Instr),
      liveOf s c slot = none → Does i s fun t => t = s)

/-- Delivery and completion (R146, R152 to R156, R165, Tables 7.5 and 7.6): a delivered tile at the front adds to RESULT; a
PUSH_WR not acknowledged in time stops its descriptor with DEVICE_ERROR; a finished descriptor's record goes to its slot of the
completion ring, and the channel's tail, phase and counts move; one record of a channel is written at a time. -/
def Sys2Proof.Claims.descriptorsComplete : Prop :=
  ∀ (s : State) (c slot : Nat) (x : Chan) (l : LiveDesc), chanOf' s c = some x → liveOf s c slot = some l →
    let off := x.cqBase + 32 * (x.cqTail % 2 ^ x.cqLog)
    let o := l.outcome
    (∀ q, l.tiles = [q] → q.performed = true → q.due = 0 → heldFor s (.tile c slot q.ord) = false →
      (q.ord = l.d.first + l.delivered → l.d.op ≠ opPush → Does (.tileDelivered c slot q.ord) s fun t =>
        Sys2Proof.Claims.liveIs s t c x l { l with tiles := [], delivered := l.delivered + 1, result := l.result + q.res } ∧
        t = { s with chn := { s.chn with chans := t.chn.chans }, ext := { s.ext with inflight := t.ext.inflight } }) ∧
      (q.ord ≠ l.d.first + l.delivered → Does (.tileDelivered c slot q.ord) s fun t =>
        Sys2Proof.Claims.liveIs s t c x l { l with tiles := [{ q with delivered := true }] } ∧
        t = { s with chn := { s.chn with chans := t.chn.chans } })) ∧
    (∀ q, (∀ u ∈ l.tiles, u.ord = q → u.performed = false ∨ u.due ≠ 0) → Does (.tileDelivered c slot q) s fun t => t = s) ∧
    (∀ q, l.d.op = opPush → l.tiles = [q] → q.performed = true → q.due ≠ 0 → q.began + 1000000 ≤ s.now → q.accs = [] → l.ctrAccs = [] →
      l.stop = none → l.ended = none → Does (.pushAckTimeout c slot) s fun t =>
      Sys2Proof.Claims.liveIs s t c x l { l with tiles := [], ctrDue := 0, stop := some ⟨stDevErr, 0⟩ } ∧
      t = { s with chn := { s.chn with chans := t.chn.chans }, ext := { s.ext with inflight := t.ext.inflight } }) ∧
    ((∀ q ∈ l.tiles, q.due = 0 ∨ s.now < q.began + 1000000) → l.ctrDue = 0 → Does (.pushAckTimeout c slot) s fun t => t = s) ∧
    (l.over s c = true → l.accs = [] → l.pinned = false → o.1 ≠ stDevErr → (x.stopOnErr = false ∨ o.1 = stOK) →
      x.cqBase % 32 = 0 → (∀ y ∈ x.live, y.recording = true → y.idx = slot) →
      (∃ id y, admitOff s x.tenant off 32 .engWrite rtWrite = .ok id y) → Sys2Proof.Claims.free s off 32 →
      Does (.completionRecord c slot) s fun t =>
      (∀ q, rdByte t.mem q = if off ≤ q ∧ q < off + 32 then (recordBytes x l).getD (q - off) 0#8 else rdByte s.mem q) ∧
      Sys2Proof.Claims.chanIs s t c (some { x with
        live := x.live.filter fun y => y.idx ≠ l.idx
        cqTail := (x.cqTail + 1) % 65536
        phase := if (x.cqTail + 1) % 65536 % 2 ^ x.cqLog = 0 then !x.phase else x.phase
        descDone := (x.descDone + 1) % 2 ^ 64
        bytesDone := if countsBytes l.d.op then (x.bytesDone + l.result) % 2 ^ 64 else x.bytesDone }) ∧
      RegsKept s t [DBG_TSTAT_SOURCE_DROPS]) ∧
    (fieldLe (recordBytes x l) 0 1 = o.1 % 256 ∧ fieldLe (recordBytes x l) 1 1 = o.2.1 % 256 ∧ fieldLe (recordBytes x l) 2 1 = o.2.2 % 256 ∧
      fieldLe (recordBytes x l) 3 1 = b2n x.phase + 2 * b2n l.poison ∧ fieldLe (recordBytes x l) 4 2 = l.idx % 65536 ∧
      fieldLe (recordBytes x l) 8 8 = l.d.userTag % 2 ^ 64 ∧ fieldLe (recordBytes x l) 16 8 = l.result % 2 ^ 64 ∧
      (recordBytes x l).length = 32) ∧
    ((l.over s c = false ∨ ∃ y ∈ x.live, y.recording = true ∧ y.idx ≠ slot) → Does (.completionRecord c slot) s fun t => t = s)

/-- Launches (R163, R184 to R190, Table 8.5): LAUNCH_START takes idle engines and loads program, arguments and first registers;
an engine that has gone OFFLINE is left out, and with none left the LAUNCH is refused; ENGINE_START runs every loaded engine of a
cirque; once all have ended LAUNCH_COMPLETE ends the descriptor with the first engine's exit value, and the status of the first
engine that faulted, if any did. -/
def Obligations.LaunchesRunTheirEngines : Prop :=
  ∀ (s : State) (c slot : Nat) (x : Chan) (l : LiveDesc) (n : Launch),
    let prog := rdRange s l.xl l.d.src (l.d.c 0)
    let args := rdRange s l.xl l.d.aux (l.d.c 1)
    let ps := piecesOf l.xl l.d.src (l.d.c 0) ++ piecesOf l.xl l.d.aux (l.d.c 1)
    let words := wordsOf (l.d.c 0 / 8) (prog.map Prod.fst)
    (chanOf' s c = some x → liveOf s c slot = some l → launchOfDesc s c slot = some n → n.ch = c → n.idx = slot →
      n.loaded = false → n.held = false → l.stop = none → l.ended = none → l.accs = [] → l.pinned = false → s.get CLK_CMD_BUSY = 0 →
      n.engines ≠ [] → n.engines.Nodup →
      (∀ e ∈ n.engines, e < 256 ∧ engSt s e = 0 ∧ s.get (ENG_CTL_OFFLINE e) = 0 ∧ s.get (CIRQ_STATUS_BUSY (e / 16)) = 0) →
      admitSegs s x.tenant .engRead (rtRead + rtEngine) ps = none → s.dir.txns = [] → (∀ p ∈ ps, Sys2Proof.Claims.free s p.1 p.2) →
      (∀ p ∈ ps, ∀ k ∈ linesOf p.1 p.2, needHeal s k = false) → (prog.any Prod.snd || args.any Prod.snd) = false → args.length ≤ 4096 →
      Does (.launchStart c slot) s fun t =>
      (∀ (i e : Nat), n.engines[i]? = some e → let y := engOf t e
        engSt t e = 1 ∧ y.pc = 0 ∧ y.imem = words ∧ y.prog = words.length ∧ y.tags = [] ∧ y.wait = none ∧
        sreg y 1 = args.length ∧ sreg y 2 = e ∧ sreg y 3 = i ∧ sreg y 4 = n.engines.length ∧ sreg y 5 = maskIn n.engines (e / 16) ∧
        (∀ r, 5 < r → sreg y r = 0) ∧ (∀ r, vreg y r = 0) ∧ (∀ a < args.length, rdByte y.neve a = (args.map Prod.fst).getD a 0#8) ∧
        t.get (ENG_STATUS_TENANT e) = n.tenant % 1024 ∧ t.get (CIRQ_STATUS_BUSY (e / 16)) = 1) ∧
      (∀ o, o < 256 → o ∉ n.engines → engSt t o = engSt s o) ∧ t.mem = s.mem ∧
      launchOfDesc t c slot = some { n with held := true, loaded := true } ∧ liveOf t c slot = some { l with xl := [] }) ∧
    (chanOf' s c = some x → liveOf s c slot = some l → launchOfDesc s c slot = some n → n.loaded = false → n.held = false →
      (∃ e ∈ n.engines, s.get (ENG_CTL_OFFLINE e) = 0 ∧ (engSt s e ≠ 0 ∨ s.get (CIRQ_STATUS_BUSY (e / 16)) ≠ 0)) →
      Does (.launchStart c slot) s fun t => t = s) ∧
    (chanOf' s c = some x → liveOf s c slot = some l → launchOfDesc s c slot = some n → (l.stop ≠ none ∨ l.ended ≠ none) →
      Does (.launchStart c slot) s fun t => t = s) ∧
    (chanOf' s c = some x → liveOf s c slot = some l → launchOfDesc s c slot = some n → n.loaded = false → l.stop = none → l.ended = none →
      l.accs = [] → l.pinned = false → (∀ e ∈ n.engines, s.get (ENG_CTL_OFFLINE e) ≠ 0) → Does (.launchStart c slot) s fun t =>
      Sys2Proof.Claims.liveIs s t c x l { l with ended := some ⟨stPermission, 0x0a⟩, xl := [] } ∧ launchOfDesc t c slot = none ∧
      t.mem = s.mem ∧ t.eng.engs = s.eng.engs) ∧
    (∀ q, q < 16 → Does (.engineStart q) s fun t =>
      (∀ e, e < 256 → engSt t e = if e / 16 = q ∧ engSt s e = 1 then 2 else engSt s e) ∧ (∀ e, engOf t e = engOf s e) ∧
      t = { s with regs := t.regs, dbg := t.dbg }) ∧
    (∀ e0 rest, chanOf' s c = some x → liveOf s c slot = some l → launchOfDesc s c slot = some n → n.ch = c → n.idx = slot → n.loaded = true → n.held = true →
      n.engines = e0 :: rest → (∀ e ∈ n.engines, NMap.find n.ends e ≠ none) →
      let how := fun e => (NMap.find n.ends e).getD ⟨0, 0, 0⟩
      let first := n.engines.find? fun e => (how e).cause ≠ 0 ∧ (how e).cause ≠ ecAborted
      let ends := fun (st de : Nat) => Does (.launchComplete c slot) s fun t =>
        Sys2Proof.Claims.liveIs s t c x l { l with ended := some ⟨st, de⟩, accs := [], result := s.get (ENG_EXIT_EXIT e0) } ∧
        (∀ e ∈ n.engines, t.get (CIRQ_STATUS_BUSY (e / 16)) = 0) ∧ launchOfDesc t c slot = none ∧ t.eng.engs = s.eng.engs
      ((∀ e ∈ n.engines, (how e).cause = 0) → ends stOK 0) ∧
      (∀ e, first = some e → ends (how e).status (if (how e).status = stXlate then (how e).detail else 0)) ∧
      (first = none → (∃ e ∈ n.engines, (how e).cause = ecAborted) → ends stAborted 0)) ∧
    (chanOf' s c = some x → liveOf s c slot = some l → launchOfDesc s c slot = some n →
      (n.loaded = false ∨ ∃ e ∈ n.engines, NMap.find n.ends e = none) → Does (.launchComplete c slot) s fun t => t = s)

/-- The statements above: plain descriptors act, descriptors complete. -/
def Obligations.PlainDescriptorsRunAndComplete : Prop :=
  Sys2Proof.Claims.plainDescriptorsAct ∧
  Sys2Proof.Claims.descriptorsComplete

/-! The Psiop links (chapter 13). -/

/-- A link taken down (R265, R266, Table 13.8): STATE DOWN with its cause, event and count; the packets that waited for the port
are back at the inputs and nothing is held for replay. -/
def Sys2Proof.Claims.downed (s t : State) (p cause : Nat) (stay : Bool) : Prop :=
  let x := lnkOf s p
  lnkSt t p = lkDown ∧ t.get (LNK_EVENT_DOWN_CAUSE p) = cause ∧ Raised s t (LNK_EVENT_DOWN p) ∧ Counts s t (LNK_CNT1_LINK_DOWNS p) 1 ∧
  t.get (LNK_STATUS_LANES_UP p) = 0 ∧ NMap.find t.fab.sel p = none ∧ (∀ k, k / 8 = p → NMap.find t.fab.outq k = none) ∧
  lnkOf t p = { LnkPort.idle with
    fails := x.fails
    idleAt := if s.get (LNK_CTL_AUTO_RETRAIN p) ≠ 0 ∧ stay = false then some s.now else none
    out := (lnkOf t p).out } ∧
  (∀ o, o ≠ p → lnkOf t o = lnkOf s o) ∧ t.mem = s.mem

/-- A port's link state changes to `x`, every other port and, but for the listed ones, every register is as before. -/
def Sys2Proof.Claims.portIs (s t : State) (p : Nat) (x : LnkPort) (l : List Fld) : Prop :=
  lnkOf t p = x ∧ (∀ o, o ≠ p → lnkOf t o = lnkOf s o) ∧ RegsKept s t l

/-- A port enters UP (step 7 of Table 13.10). -/
def Sys2Proof.Claims.upped (s t : State) (p : Nat) : Prop :=
  lnkSt t p = lkUp ∧ Raised s t (LNK_EVENT_UP p) ∧ (lnkOf t p).step = 0 ∧ (lnkOf t p).fails = 0 ∧ (lnkOf t p).good = s.now ∧
  (s.get (LNK_STATUS_WIDTH p) < 2 → Raised s t (LNK_EVENT_DEGRADED p)) ∧ (∀ o, o ≠ p → lnkOf t o = lnkOf s o) ∧ t.mem = s.mem

/-- The steps of training begin (Table 13.10 step 1), with the settings that wait for a link reset. -/
def Sys2Proof.Claims.trains (s t : State) (p fails : Nat) : Prop :=
  lnkSt t p = lkTraining ∧ (lnkOf t p).step = 1 ∧ (lnkOf t p).began = s.now ∧ (lnkOf t p).fails = fails ∧ (lnkOf t p).buf = [] ∧
  (lnkOf t p).mask = s.get (LNK_CTL_LANE_MASK p) ∧ (lnkOf t p).minW = s.get (LNK_CTL_MIN_WIDTH p) ∧
  (lnkOf t p).speed = s.get (LNK_CTL_SPEED p) ∧ t.get (LNK_STATUS_LANES_UP p) = 0 ∧
  (lnkOf t p).alloc = [s.get (LNK_CREDIT_VC0 p), s.get (LNK_CREDIT_VC1 p), s.get (LNK_CREDIT_VC2 p), s.get (LNK_CREDIT_VC3 p), 16, 16]

/-- Graupels received (R257, R259 to R261, R264, R268, R269, Tables 13.6 and 13.7). On a port that is UP a good graupel gives its
acknowledgement and credits; a bad one is counted and discarded; DATA in sequence is accepted, a duplicate or one ahead counted and
dropped, one out of the window takes the link down; the control messages exchange parameters, set credits, and bring Sleep or the
link's end. -/
def Sys2Proof.Claims.linksReceiveGraupels : Prop :=
  ∀ (s : State) (p : Nat) (r : Rx), hasPort s p = true → let g := graupelOf r.bytes
    let x := lnkOf s p
    let fec := [LNK_CNT1_FEC_CORR p, LNK_CNT1_FEC_UNCORR p]
    let acked := s.get (LNK_TXSTATE_ACKED p)
    let out := s.get (LNK_TXSTATE_OUTSTANDING p)
    let good := r.bad = false ∧ g.crcOk = true
    let up := good ∧ lnkSt s p = lkUp
    let noCredit := (∀ k ∈ [g.crA, g.crB], 6 ≤ k.1 ∨ k.2 = x.seen.getD k.1 0)
    let silent := g.ackV = false ∧ noCredit
    let y := { x with good := s.now, out := [] }
    let d := (g.seq + 4096 - s.get (LNK_RXSTATE_EXP p)) % 4096
    let creds := (List.range 6).map (credF p)
    let msg := leNat (g.payload.take 1)
    let ctrl := g.type = 2 ∧ good
    let training := fun (k : Nat) => lnkSt s p = lkTraining ∧ x.step = k
    ((lnkSt s p = lkUp ∨ lnkSt s p = lkTraining) → ¬ good →
      ∀ i : Instr, ((g.type = 0 ∧ i = .idleGraupel p r) ∨ (g.type ≠ 0 ∧ g.type ≠ 2 ∧ i = .dataGraupel p r)) → Does i s fun t =>
      Counts s t (LNK_CNT0_BAD p) 1 ∧ Sys2Proof.Claims.portIs s t p { x with out := [] } (LNK_CNT0_BAD p :: fec)) ∧
    (up → g.type = 0 → silent → Does (.idleGraupel p r) s fun t =>
      Sys2Proof.Claims.portIs s t p y (fec ++ creds) ∧ Counts s t (LNK_CNT1_FEC_CORR p) r.corr) ∧
    (up → g.type = 0 → noCredit → g.ackV = true → x.sleepReq = false →
      let n := (g.ack + 1 + 4096 - acked) % 4096
      1 ≤ n → n ≤ out → out ≤ 2047 → Does (.idleGraupel p r) s fun t => t.get (LNK_TXSTATE_ACKED p) = (g.ack + 1) % 4096 ∧
      t.get (LNK_TXSTATE_OUTSTANDING p) = out - n ∧ Sys2Proof.Claims.portIs s t p
        { y with
          buf := x.buf.filter (unacked ((g.ack + 1) % 4096))
          timer := s.now
          replay := if n = out then none else x.replay.map fun q => if 2048 ≤ (q + 4095 - g.ack) % 4096 then (g.ack + 1) % 4096 else q }
        ([LNK_TXSTATE_ACKED p, LNK_TXSTATE_OUTSTANDING p] ++ fec ++ creds)) ∧
    (up → g.type = 0 → g.ackV = true → out < (g.ack + 1 + 4096 - acked) % 4096 → Does (.idleGraupel p r) s fun t =>
      Sys2Proof.Claims.downed s t p 5 false) ∧
    (let c := g.crA.1
      let new := (g.crA.2 + 4096 - x.seen.getD c 0) % 4096
      up → g.type = 0 → g.ackV = false → 6 ≤ g.crB.1 → c < 6 → new ≤ x.used.getD c 0 → Does (.idleGraupel p r) s fun t =>
        t.get (credF p c) = (s.get (credF p c) + new) % 2 ^ (credF p c).width ∧ Sys2Proof.Claims.portIs s t p
          { y with used := x.used.set c (x.used.getD c 0 - new), seen := x.seen.set c g.crA.2 } (credF p c :: fec)) ∧
    (up → g.type = 1 → silent → d = 0 → g.cls < 6 → x.rx = none → g.sop = true → x.occ.getD g.cls 0 < x.alloc.getD g.cls 0 →
      x.sincePub + 1 < s.get (LNK_TIMERS_ACK_COUNT p) → Does (.dataGraupel p r) s fun t =>
      let bytes := g.payload.take g.len
      t.get (LNK_RXSTATE_EXP p) = (g.seq + 1) % 4096 ∧ (lnkOf t p).occ = x.occ.set g.cls (x.occ.getD g.cls 0 + 1) ∧
      (g.eop = false → (lnkOf t p).rx = some ⟨g.cls, bytes⟩ ∧ t.fab = s.fab) ∧
      (g.eop = true → (lnkOf t p).rx = none ∧ t.fab = { s.fab with inq := s.fab.inq ++
        [⟨pktOf bytes, p, s.now, false, none, g.cls, divUp bytes.length 240⟩] })) ∧
    (up → g.type = 1 → silent → 2049 ≤ d → Does (.dataGraupel p r) s fun t => Counts s t (LNK_CNT2_DUP p) 1 ∧
      t.get (LNK_RXSTATE_PUB_V p) = 1 ∧ t.get (LNK_RXSTATE_PUBLISHED p) = (s.get (LNK_RXSTATE_EXP p) + 4095) % 4096 ∧ t.fab = s.fab ∧
      Sys2Proof.Claims.portIs s t p { y with sincePub := 0, oldest := none }
        ([LNK_CNT2_DUP p, LNK_RXSTATE_PUB_V p, LNK_RXSTATE_PUBLISHED p] ++ fec ++ creds)) ∧
    (up → g.type = 1 → silent → 1 ≤ d → d < 2047 → Does (.dataGraupel p r) s fun t => Counts s t (LNK_CNT2_AHEAD p) 1 ∧
      Sys2Proof.Claims.portIs s t p y (LNK_CNT2_AHEAD p :: fec ++ creds) ∧ t.fab = s.fab) ∧
    (up → g.type = 1 → silent → (d = 2047 ∨ d = 2048 ∨ (d = 0 ∧ 6 ≤ g.cls)) → Does (.dataGraupel p r) s fun t => Sys2Proof.Claims.downed s t p 5 false) ∧
    (ctrl → msg = 1 → (training 4 ∨ training 5) → Does (.lnkParam p r) s fun t => Sys2Proof.Claims.portIs s t p
      { y with partner := some (leNat (slice g.payload 1 1) % 16, leNat (slice g.payload 2 1), leNat (slice g.payload 3 1)) } fec) ∧
    (ctrl → msg = 2 → (training 4 ∨ training 5) → Does (.lnkInit p r) s fun t => (lnkOf t p).gotInit = true ∧
      (lnkOf t p).out.length = 1 ∧ lnkSt t p = lkTraining ∧
      (∀ c < 6, t.get (credF p c) = leNat (slice g.payload (4 + 2 * c) 2) % 2 ^ (credF p c).width) ∧ RegsKept s t (fec ++ creds)) ∧
    (ctrl → msg = 3 → (training 4 ∨ training 5) → Does (.initAck p r) s fun t => Sys2Proof.Claims.portIs s t p { y with gotAck := true } fec) ∧
    (ctrl → msg = 3 → training 6 → silent → x.gotInit = true → Does (.initAck p r) s fun t => Sys2Proof.Claims.upped s t p) ∧
    (ctrl → msg = 2 → training 6 → silent → x.gotAck = true → Does (.lnkInit p r) s fun t => Sys2Proof.Claims.upped s t p) ∧
    (ctrl → up → silent → msg = 4 → out = 0 → Does (.sleepReq p r) s fun t => lnkSt t p = lkSleep ∧ (lnkOf t p).out.length = 1 ∧
      (lnkOf t p).sleepReq = false ∧ t.fab = s.fab) ∧
    (ctrl → up → silent → msg = 4 → out ≠ 0 → Does (.sleepReq p r) s fun t =>
      Sys2Proof.Claims.portIs s t p { y with sleepReq := true } (fec ++ creds)) ∧
    (ctrl → up → silent → msg = 5 → x.sleepSent = true → Does (.sleepAck p r) s fun t => lnkSt t p = lkSleep ∧
      Sys2Proof.Claims.portIs s t p { y with
        sleepSent := false
        waking := if s.get PWR_STATE_STATE = 0 ∧ x.waking = none then some s.now else x.waking } ([LNK_STATUS_STATE p, DBG_TSTAT_SOURCE_DROPS] ++ fec ++ creds)) ∧
    (ctrl → up → silent → msg = 6 → Does (.goingDown p r) s fun t => Sys2Proof.Claims.downed s t p 8 false)

/-- The sender, the timers and the states of a link (R255, R260 to R263, R265 to R267, R269, Tables 13.9, 13.10, 13.14). A port
that is UP puts IDLE graupels on its lanes while it has no packet; a replay holds new packets back until it is through. -/
def Sys2Proof.Claims.linksSendTrainAndFail : Prop :=
  ∀ (s : State) (p : Nat), hasPort s p = true → let x := lnkOf s p
    let st := lnkSt s p
    let out := s.get (LNK_TXSTATE_OUTSTANDING p)
    let acked := s.get (LNK_TXSTATE_ACKED p)
    let recent := s.now :: x.replays.filter fun t => s.now < t + 100000000
    let cmd := s.get (LNK_CMD_BUSY p) = 0
    let refused := fun (i : Instr) (de : Nat) => Does i s fun t => EndedRefused s t (LNK_CMD_STATUS p) (LNK_CMD_DETAIL p) de
    let ended := fun (t : State) => t.get (LNK_CMD_STATUS p) = stOK ∧ t.get (LNK_CMD_DETAIL p) = 0
    let nothing := fun (i : Instr) => Does i s fun t => t = s
    (s.pending = [] → counting s = true → pwrSt s ≠ pwEnterSleep → st = lkUp → x.replay = none → ∃ t, step s = .next t ∧
      (lnkOf t p).out.length = 4 ∧ ∀ b ∈ (lnkOf t p).out, (graupelOf b).type = 0) ∧
    (∀ q, st = lkUp → NMap.find s.fab.sel p = some q → let c := pktClass q.pkt
      let k := graupels q.pkt
      (out + k ≤ 2047 → x.replay = none → k ≤ s.get (credF p c) → s.get (credF p c) < 2 ^ (credF p c).width → c < 6 → Does (.sendPacket p) s fun t =>
        NMap.find t.fab.sel p = none ∧ t.get (credF p c) = s.get (credF p c) - k ∧
        t.get (LNK_TXSTATE_NEXT_SEQ p) = (s.get (LNK_TXSTATE_NEXT_SEQ p) + k) % 4096 ∧
        t.get (LNK_TXSTATE_OUTSTANDING p) = out + k ∧ (lnkOf t p).buf = x.buf ++ [⟨q.pkt, c, s.get (LNK_TXSTATE_NEXT_SEQ p), k⟩] ∧
        (lnkOf t p).used = x.used.set c (x.used.getD c 0 + k) ∧ (lnkOf t p).out.length = k ∧
        RegsKept s t [credF p c, LNK_TXSTATE_NEXT_SEQ p, LNK_TXSTATE_OUTSTANDING p] ∧
        t = { s with regs := t.regs, lnk := t.lnk, fab := { s.fab with sel := t.fab.sel } }) ∧
      (2047 < out + k → Does (.sendPacket p) s fun t => Raised s t (LNK_EVENT_WINDOW_FULL p) ∧
        RegsKept s t [LNK_EVENT_WINDOW_FULL p, MGT_NOTIFY_PENDING] ∧ t = { s with regs := t.regs }) ∧
      (out + k ≤ 2047 → (s.get (credF p c) < k ∨ x.replay ≠ none) → nothing (.sendPacket p))) ∧
    (NMap.find s.fab.sel p = none → nothing (.sendPacket p)) ∧
    (st = lkUp → out ≠ 0 → x.timer + 100 * s.get (LNK_TIMERS_REPLAY_TMO_100NS p) ≤ s.now →
      let few := (recent.filter fun t => s.now < t + 100000).length ≤ s.get (LNK_TIMERS_DOWN_SHORT p)
      (few → recent.length ≤ s.get (LNK_TIMERS_DOWN_LONG p) → Does (.replayTimeout p) s fun t => Counts s t (LNK_CNT0_REPLAYS p) 1 ∧
        (lnkOf t p).replays = recent ∧ (lnkOf t p).timer = s.now ∧ (lnkOf t p).buf = x.buf ∧
        (lnkOf t p).replay = (if (acked + 1) % 4096 = s.get (LNK_TXSTATE_NEXT_SEQ p) then none else some ((acked + 1) % 4096)) ∧
        (lnkOf t p).out.length = (if x.buf.any fun u => (acked + 4096 - u.seq) % 4096 < u.k then 1 else 0) ∧
        RegsKept s t [LNK_CNT0_REPLAYS p] ∧ t = { s with regs := t.regs, lnk := t.lnk }) ∧
      (¬ few → Does (.replayTimeout p) s fun t => Sys2Proof.Claims.downed s t p 1 false) ∧
      (few → s.get (LNK_TIMERS_DOWN_LONG p) < recent.length → Does (.replayTimeout p) s fun t => Sys2Proof.Claims.downed s t p 2 false)) ∧
    ((out = 0 ∨ s.now < x.timer + 100 * s.get (LNK_TIMERS_REPLAY_TMO_100NS p)) → nothing (.replayTimeout p)) ∧
    (∀ n, st = lkUp → x.oldest = some n → n + 10 * s.get (LNK_TIMERS_ACK_TMO_10NS p) ≤ s.now → Does (.ackTimer p) s fun t =>
      t.get (LNK_RXSTATE_PUB_V p) = 1 ∧ t.get (LNK_RXSTATE_PUBLISHED p) = (s.get (LNK_RXSTATE_EXP p) + 4095) % 4096 ∧
      Sys2Proof.Claims.portIs s t p { x with sincePub := 0, oldest := none } [LNK_RXSTATE_PUB_V p, LNK_RXSTATE_PUBLISHED p] ∧
      t = { s with regs := t.regs, lnk := t.lnk }) ∧
    (st = lkTraining → x.step = 6 → x.gotAck = false → x.sentInit + 10000 ≤ s.now → Does (.initResend p) s fun t =>
      (lnkOf t p).sentInit = s.now ∧ (lnkOf t p).out.length = 1 ∧ t.regs = s.regs ∧ t = { s with lnk := t.lnk }) ∧
    ((x.gotAck = true ∨ s.now < x.sentInit + 10000) → nothing (.initResend p)) ∧
    (st = lkUp → Does (.lockLost p) s fun t => Sys2Proof.Claims.downed s t p 3 false) ∧
    (∀ n, st = lkSleep → x.waking = some n → n + 5000 < s.now → Does (.lockLost p) s fun t => Sys2Proof.Claims.downed s t p 3 false) ∧
    (st ≠ lkUp → (st ≠ lkSleep ∨ ∀ n, x.waking = some n → s.now ≤ n + 5000) → nothing (.lockLost p)) ∧
    (st = lkUp → x.good + 10000 ≤ s.now → Does (.rxSilent p) s fun t => Sys2Proof.Claims.downed s t p 4 false) ∧
    (s.now < x.good + 10000 → nothing (.rxSilent p)) ∧
    (∀ n, x.idleAt = some n → st = lkDown → s.get (LNK_CTL_ENABLE p) ≠ 0 → n + 1000000 ≤ s.now → Does (.autoRetrain p) s fun t =>
      Sys2Proof.Claims.trains s t p x.fails) ∧
    (x.idleAt = none → nothing (.autoRetrain p)) ∧
    (∀ lanes, st = lkTraining → (x.step = 1 ∨ x.step = 2) → Does (.trainingStepDone p lanes) s fun t =>
      Sys2Proof.Claims.portIs s t p { x with step := x.step + 1, out := [] } []) ∧
    (∀ lanes, st = lkTraining → x.step = 3 → Does (.trainingStepDone p lanes) s fun t => (lnkOf t p).step = 4 ∧
      (lnkOf t p).trained = Nat.land (lanes % 16) x.mask ∧ (lnkOf t p).out.length = 1 ∧ t = { s with lnk := t.lnk }) ∧
    (∀ lanes q, st = lkTraining → x.step = 4 → x.partner = some q → Nat.land x.trained q.1 % 16 = 15 → Does (.trainingStepDone p lanes) s fun t =>
      t.get (LNK_STATUS_WIDTH p) = 2 ∧ t.get (LNK_STATUS_LANES_UP p) = 15 ∧
      t.get (LNK_STATUS_SPEED_NOW p) = max x.speed q.2.1 % 2 ^ (LNK_STATUS_SPEED_NOW p).width ∧ Sys2Proof.Claims.portIs s t p
        { x with step := 5, out := [] } [LNK_STATUS_WIDTH p, LNK_STATUS_LANES_UP p, LNK_STATUS_SPEED_NOW p]) ∧
    (∀ lanes, st = lkTraining → x.step = 5 → (x.gotInit = false ∨ x.gotAck = false) → Does (.trainingStepDone p lanes) s fun t =>
      (lnkOf t p).step = 6 ∧ (lnkOf t p).out.length = 1 ∧ (∀ f ∈ [LNK_TXSTATE_NEXT_SEQ p, LNK_TXSTATE_ACKED p, LNK_TXSTATE_OUTSTANDING p,
        LNK_RXSTATE_EXP p, LNK_RXSTATE_PUB_V p, LNK_RXSTATE_PUBLISHED p], t.get f = 0) ∧ t = { s with regs := t.regs, lnk := t.lnk }) ∧
    (st = lkTraining → x.began + 500000000 ≤ s.now → x.fails < 2 → Does (.trainFail p) s fun t =>
      Raised s t (LNK_EVENT_TRAIN_FAIL p) ∧ Sys2Proof.Claims.trains s t p (x.fails + 1)) ∧
    (st = lkTraining → x.began + 500000000 ≤ s.now → 2 ≤ x.fails → Does (.trainFail p) s fun t =>
      Raised s t (LNK_EVENT_TRAIN_FAIL p) ∧ lnkSt t p = lkFailed ∧ lnkOf t p = LnkPort.idle) ∧
    (∀ n, x.waking = some n → st = lkSleep → (s.now ≤ n + 5000 → Does (.framingRelock p) s fun t => lnkSt t p = lkUp ∧
        Sys2Proof.Claims.portIs s t p { x with waking := none, good := s.now, out := [] } [LNK_STATUS_STATE p, DBG_TSTAT_SOURCE_DROPS]) ∧
      (n + 5000 < s.now → Does (.framingRelock p) s fun t => Sys2Proof.Claims.downed s t p 3 false)) ∧
    (x.waking = none → st = lkSleep → (s.get PWR_STATE_STATE = 2 → nothing (.framingRelock p)) ∧
      (s.get PWR_STATE_STATE ≠ 2 → Does (.framingRelock p) s fun t => lnkSt t p = lkUp ∧
        Sys2Proof.Claims.portIs s t p { x with good := s.now, out := [] } [LNK_STATUS_STATE p, DBG_TSTAT_SOURCE_DROPS])) ∧
    (cmd → st = lkDisabled → refused (.lnkReset p) 1 ∧ refused (.lnkDown p) 1) ∧
    (cmd → s.get (LNK_CTL_ENABLE p) = 0 → refused (.lnkReset p) 1) ∧
    (cmd → st ≠ lkDisabled → s.get (LNK_CTL_ENABLE p) ≠ 0 → Does (.lnkReset p) s fun t => Sys2Proof.Claims.trains s t p 0 ∧ ended t) ∧
    (cmd → (st = lkUp ∨ st = lkSleep) → Does (.lnkDown p) s fun t => Sys2Proof.Claims.downed s t p 6 true ∧ ended t) ∧
    (cmd → st ≠ lkDisabled → st ≠ lkUp → st ≠ lkSleep → refused (.lnkDown p) 2) ∧
    (∀ v, st = lkFailed → Does (.lnkEnable p v) s fun t => t.get (LNK_CTL_ENABLE p) = b2n v ∧ RegsKept s t [LNK_CTL_ENABLE p] ∧
      t = { s with regs := t.regs }) ∧
    (s.get (LNK_CTL_ENABLE p) = 0 → st ≠ lkFailed → Does (.lnkEnable p true) s fun t => t.get (LNK_CTL_ENABLE p) = 1 ∧ Sys2Proof.Claims.trains s t p x.fails) ∧
    (s.get (LNK_CTL_ENABLE p) ≠ 0 → st ≠ lkFailed → Does (.lnkEnable p false) s fun t => t.get (LNK_CTL_ENABLE p) = 0 ∧ lnkSt t p = lkDisabled ∧
      (lnkOf t p).step = 0 ∧ (lnkOf t p).buf = [])

/-- The statements above: links receive graupels, links send train and fail. -/
def Obligations.LinksCarryGraupels : Prop :=
  Sys2Proof.Claims.linksReceiveGraupels ∧
  Sys2Proof.Claims.linksSendTrainAndFail

/-! The floe switch (chapter 14) and its schedulers (chapter 15). -/

/-- A packet stands at the end of an output queue, and every other output queue is as before. -/
def Sys2Proof.Claims.queued (s t : State) (port : Nat) (q : QPkt) : Prop :=
  let k := 8 * port + pktClass q.pkt
  NMap.getD t.fab.outq k [] = NMap.getD s.fab.outq k [] ++ [q] ∧ OthersKept s.fab.outq t.fab.outq k

/-- A packet has left an output queue for its link. -/
def Sys2Proof.Claims.chosen (s t : State) (port cls : Nat) (q : QPkt) : Prop :=
  let k := 8 * port + cls
  NMap.find t.fab.sel port = some q ∧ OthersKept s.fab.sel t.fab.sel port ∧
  NMap.getD t.fab.outq k [] = (NMap.getD s.fab.outq k []).erase q ∧ OthersKept s.fab.outq t.fab.outq k

/-- PACKET_FORWARD, ROUTE_WAIT_EXPIRY and FAB_RT_DATA_WRITE (R276 to R278, R284, R292, R296, R299, R304): a packet past its hop limit is
dropped and counted; one for this node goes to the tile of its line; any other leaves on a usable port of its entry with the most
credits, or waits at the inputs, and after ROUTE_WAIT_US is answered DEVICE_ERROR; this node's own packets enter at the tile that
they come from (R18), and a packet keeps its receive slots until the next hop takes it (R271); a filter rule's DROP answers
PERMISSION, and a tenant policer writes the packet's colour; a table takes an entry only while no packet uses it. -/
def Sys2Proof.Claims.packetsAreRouted : Prop :=
  ∀ (s : State) (n : Nat), let after := fun (p : Pkt) => { p with
      hops := p.hops + 1
      colour := min p.colour 2 }
    let ports := fun (p : Pkt) => usablePorts s (rtEntry s (tableOf p) p.dst) (pktClass p)
    let best := fun (p : Pkt) (o : Nat) => o ∈ ports p ∧ ∀ r ∈ ports p, s.get (credF r (pktClass p)) ≤ s.get (credF o (pktClass p))
    (∀ p, s.fab.tx[n]? = some p → p.tblEpoch < 2 → movesNow s p = true → behind p (s.fab.tx.take n) = false →
      let q : QPkt := ⟨after p, 72 + sourceTile s p, s.now, true, none, pktClass p, 0⟩
      let ent := FAB_EPOCH_ENTERED p.tblEpoch
      let only := fun (t : State) (l : List Fld) => t.fab.tx = s.fab.tx.eraseIdx n ∧ RegsKept s t (ent :: l) ∧
        t.get ent = (if epochCounted p then (s.get ent + 1) % 2 ^ 32 else s.get ent) ∧
        t = { s with
          regs := t.regs
          fab := { s.fab with
            tx := t.fab.tx
            inq := t.fab.inq
            outq := t.fab.outq
            rot := t.fab.rot } }
      (s.get FAB_CFG_HOP_LIMIT < p.hops + 1 → Does (.packetForward true n) s fun t => Counts s t FAB_CNT0_HOP_DROP 1 ∧
        only t [FAB_CNT0_HOP_DROP] ∧ t.fab.inq = s.fab.inq ∧ t.fab.outq = s.fab.outq) ∧
      (p.hops + 1 ≤ s.get FAB_CFG_HOP_LIMIT → forUs s p = true → Does (.packetForward true n) s fun t =>
        Sys2Proof.Claims.queued s t (72 + tileFor s p) q ∧ only t [] ∧ t.fab.inq = s.fab.inq) ∧
      (p.hops + 1 ≤ s.get FAB_CFG_HOP_LIMIT → forUs s p = false → takingGroup s p = none → ports p ≠ [] →
        Does (.packetForward true n) s fun t => (∃ o, best p o ∧ Sys2Proof.Claims.queued s t o q) ∧ only t [] ∧ t.fab.inq = s.fab.inq) ∧
      (p.hops + 1 ≤ s.get FAB_CFG_HOP_LIMIT → forUs s p = false → takingGroup s p = none → ports p = [] →
        Does (.packetForward true n) s fun t => t.fab.inq = s.fab.inq ++ [{ q with noRoute := some s.now }] ∧ only t [] ∧
          t.fab.outq = s.fab.outq)) ∧
    (∀ p, s.fab.tx[n]? = some p → (movesNow s p = false ∨ behind p (s.fab.tx.take n) = true) → Does (.packetForward true n) s fun t => t = s) ∧
    (∀ q, s.fab.inq[n]? = some q → q.seen = true → q.port < 72 → movesNow s q.pkt = true → forUs s q.pkt = false →
      behind q.pkt (((s.fab.inq.take n).filter fun r => r.port = q.port).map QPkt.pkt) = false → takingGroup s q.pkt = none →
      let only := fun (t : State) => t = { s with fab := { s.fab with
        inq := t.fab.inq
        outq := t.fab.outq
        rot := t.fab.rot } }
      (ports q.pkt ≠ [] → Does (.packetForward false n) s fun t => t.fab.inq = s.fab.inq.eraseIdx n ∧ only t ∧
        ∃ o, best q.pkt o ∧ Sys2Proof.Claims.queued s t o { q with noRoute := none }) ∧
      (ports q.pkt = [] → Does (.packetForward false n) s fun t => only t ∧ t.fab.outq = s.fab.outq ∧
        t.fab.inq = s.fab.inq.set n { q with noRoute := some (q.noRoute.getD s.now) })) ∧
    (∀ q, s.fab.inq[n]? = some q → q.seen = false → q.port < 72 → movesNow s q.pkt = true → q.pkt.hops + 1 ≤ s.get FAB_CFG_HOP_LIMIT →
      behind q.pkt (((s.fab.inq.take n).filter fun r => r.port = q.port).map QPkt.pkt) = false → takingGroup s q.pkt = none →
      let p := after q.pkt
      let only := fun (t : State) => t.fab.inq = s.fab.inq.eraseIdx n ∧ t = { s with
        regs := t.regs
        lnk := t.lnk
        fab := { s.fab with
          inq := t.fab.inq
          outq := t.fab.outq
          tx := t.fab.tx } }
      (∀ r, fltExempt p = false → (List.range 64).find? (fltMatches s p) = some r → s.get (FAB_FLT_CTL_ACTION r) = 1 →
        ∀ op, replyOp p.opcode = some op → Does (.packetForward false n) s fun t =>
          Sends s t (replyTo s p op stPermission) ∧ Counts s t (FAB_FLT_HITS_HITS r) 1 ∧ RegsKept s t [FAB_FLT_HITS_HITS r] ∧ only t) ∧
      (fltExempt p = true → metered p = false → forUs s p = true → Does (.packetForward false n) s fun t =>
        Sys2Proof.Claims.queued s t (72 + tileFor s p) { q with
          pkt := p
          seen := true
          noRoute := none } ∧ only t ∧ RegsKept s t [] ∧ t.lnk = s.lnk) ∧
      (∀ m, (List.range 64).find? (fltMatches s p) = none → metered p = true → tmapOf s p.tenant = some m → forUs s p = true →
        epochGate s p = .pass → m < 64 → let k := 4096 + m
        let r := mark (policerOf s k) (buckets s k).1 (buckets s k).2 (64 + p.len) p.colour
        (policerOf s k).algo ≠ 0 → (r.1 ≠ 2 ∨ s.get (POLA_RED_ACT (polBank k)) ≠ 1) → Does (.packetForward false n) s fun t =>
        Sys2Proof.Claims.queued s t (72 + tileFor s p) { q with
          pkt := { p with colour := r.1 }
          seen := true
          noRoute := none } ∧ only t ∧ buckets t k = (r.2.1 % 2 ^ 24, r.2.2 % 2 ^ 24) ∧
        Counts s t (if r.1 = 0 then POLCNT0_GREEN (polBank k) else if r.1 = 1 then POLCNT0_YELLOW (polBank k) else POLCNT1_RED (polBank k)) 1)) ∧
    (∀ q since, s.fab.inq[n]? = some q → q.noRoute = some since →
      (since + 1000 * s.get FAB_TIMERS_ROUTE_WAIT_US ≤ s.now → Does (.routeWaitExpiry n) s fun t =>
        Counts s t FAB_CNT0_NO_ROUTE 1 ∧ Raised s t FAB_EVENT_NO_ROUTE ∧
        RegsKept s t [FAB_CNT0_NO_ROUTE, FAB_EVENT_NO_ROUTE, MGT_NOTIFY_PENDING] ∧ t.fab.inq = s.fab.inq.eraseIdx n ∧
        (match replyOp q.pkt.opcode with
          | some op => Sends s t (replyTo s q.pkt op stDevErr)
          | none => t.fab.tx = s.fab.tx) ∧
        (q.port < 72 → q.slots ≠ 0 → let x := lnkOf s q.port
          lnkOf t q.port = { x with
            ret := x.ret.set q.cls ((x.ret.getD q.cls 0 + q.slots) % 4096)
            occ := x.occ.set q.cls (x.occ.getD q.cls 0 - q.slots) }) ∧
        t = { s with
          regs := t.regs
          lnk := t.lnk
          fab := { s.fab with
            inq := t.fab.inq
            tx := t.fab.tx } }) ∧
      (s.now < since + 1000 * s.get FAB_TIMERS_ROUTE_WAIT_US → Does (.routeWaitExpiry n) s fun t => t = s)) ∧
    (∀ q, s.fab.inq[n]? = some q → q.noRoute = none → Does (.routeWaitExpiry n) s fun t => t = s) ∧
    (∀ v : Word64, let e := setBits v.toNat 62 60 0
      let tb := s.get FAB_RT_SEL_TABLE
      let k := 4096 * tb + s.get FAB_RT_SEL_AGENT
      let unused := (tb ≠ 2 ∧ s.get FAB_CFG_TX_EPOCH ≠ tb ∧ epochCount s tb = 0) ∨ (tb = 2 ∧ s.get FAB_CFG_PUSH_HOLD ≠ 0 ∧ pushCount s = 0)
      (unused → rtStorable s e = true → Does (.fabRtDataWrite v) s fun t => NMap.getD t.fab.rt k 0 = e ∧ OthersKept s.fab.rt t.fab.rt k ∧
        t.get FAB_RT_SEL_STATUS = stOK ∧ RegsKept s t [FAB_RT_SEL_STATUS] ∧
        t = { s with regs := t.regs, fab := { s.fab with rt := t.fab.rt } }) ∧
      (¬ (unused ∧ rtStorable s e = true) → Does (.fabRtDataWrite v) s fun t => t.get FAB_RT_SEL_STATUS = stPermission ∧
        RegsKept s t [FAB_RT_SEL_STATUS] ∧ t = { s with regs := t.regs }))

/-- PORT_SCHED_SELECT and REORDER_SKIP (R280, R281, R283, R297, R299, R364): a port takes a waiting management packet first, replies
before requests, then a backlogged data class, whose start tag moves by the packet's cost over its weight; an internal port holds a
packet that is ahead in its sequence, and after REORDER_US goes on past the numbers that are missing. -/
def Sys2Proof.Claims.portsChooseAndReorder : Prop :=
  ∀ (s : State) (port : Nat),
    let ready := shut s = false ∧ NMap.find s.dbg.stopped 2 = none ∧ port < 72 ∧ portUp s port = true ∧
      NMap.find s.fab.sel port = none
    let takes := fun (c : Nat) (q : QPkt) => headOf s port c = some q ∧ portTakes s port c q.pkt = true
    let waits := fun (c : Nat) => ∃ q, takes c q
    let only := fun (t : State) => RegsKept s t [LNK_EVENT_WINDOW_FULL port, MGT_NOTIFY_PENDING] ∧
      t = { s with regs := t.regs, fab := { s.fab with sel := t.fab.sel, outq := t.fab.outq } }
    (∀ q, ready → takes 5 q → Does (.portSchedSelect port) s fun t => Sys2Proof.Claims.chosen s t port 5 q ∧ only t) ∧
    (∀ q, ready → ¬ waits 5 → takes 4 q → Does (.portSchedSelect port) s fun t => Sys2Proof.Claims.chosen s t port 4 q ∧ only t) ∧
    (∀ c q, ready → ¬ waits 5 → ¬ waits 4 → c < 4 → headOf s port c = some q → clsBacklogged s port c = true →
      (∀ o < 4, o ≠ c → clsBacklogged s port o = false) → Does (.portSchedSelect port) s fun t =>
      let u := tagOf s (clsKey port c)
      let start := if u.backlogged then u.start else if tagGe (vtOf s (4 + port)) u.finish then vtOf s (4 + port) else u.finish
      let stop := (start + 256 * graupels q.pkt * 4096 / max 1 (portWeight s port c)) % 2 ^ 64
      Sys2Proof.Claims.chosen s t port c q ∧ vtOf t (4 + port) = start ∧ (tagOf t (clsKey port c)).start = stop ∧
      (tagOf t (clsKey port c)).finish = stop ∧ OthersKept s.qos.vt t.qos.vt (4 + port) ∧
      RegsKept s t [LNK_EVENT_WINDOW_FULL port, QOS_SHSTATE_TOKENS (portBank port), MGT_NOTIFY_PENDING] ∧
      t = { s with
        regs := t.regs
        qos := { s.qos with vt := t.qos.vt, tags := t.qos.tags }
        fab := { s.fab with sel := t.fab.sel, outq := t.fab.outq } }) ∧
    ((shut s = true ∨ 88 ≤ port ∨ (port < 72 ∧ (portUp s port = false ∨ NMap.find s.fab.sel port ≠ none))) →
      Does (.portSchedSelect port) s fun t => t = s) ∧
    (∀ q, shut s = false → NMap.find s.dbg.stopped 2 = none → 72 ≤ port → port < 88 → ¬ waits 5 → takes 4 q → pktClass q.pkt = 4 →
      let k := domKey q.pkt
      let ahead := (q.pkt.psn + 65536 - (NMap.getD s.fab.expect k 0) % 65536) % 65536
      NMap.find s.fab.expect k ≠ none →
      (NMap.find s.fab.incs q.pkt.src = some q.pkt.srcInc → q.pkt.srcInc < 65536 → 0 < ahead → ahead < 32768 →
        (∀ h ∈ s.fab.held, ¬ (domKey h.pkt = k ∧ h.pkt.psn = q.pkt.psn)) → Does (.portSchedSelect port) s fun t =>
        t.fab.held = s.fab.held ++ [{ q with
          at_ := s.now
          slots := 0 }] ∧
        NMap.getD t.fab.outq (8 * port + 4) [] = (NMap.getD s.fab.outq (8 * port + 4) []).erase q ∧
        (q.port < 72 → q.slots ≠ 0 → let x := lnkOf s q.port
          lnkOf t q.port = { x with
            ret := x.ret.set q.cls ((x.ret.getD q.cls 0 + q.slots) % 4096)
            occ := x.occ.set q.cls (x.occ.getD q.cls 0 - q.slots) }) ∧
        t = { s with lnk := t.lnk, fab := { s.fab with held := t.fab.held, outq := t.fab.outq } }) ∧
      (∀ r, NMap.find s.fab.incs q.pkt.src = some r → 32768 ≤ (q.pkt.srcInc + 65536 - r % 65536) % 65536 →
        Does (.portSchedSelect port) s fun t => Counts s t FAB_CNT0_HDR_BAD 1 ∧ RegsKept s t [FAB_CNT0_HDR_BAD] ∧
          t = { s with regs := t.regs, lnk := t.lnk, fab := { s.fab with outq := t.fab.outq } })) ∧
    (∀ src dom q, let k := 8 * src + dom
      let e := NMap.getD s.fab.expect k 0
      let gap := (q.pkt.psn + 65536 - e) % 65536
      dom < 8 → (s.fab.held.filter fun h => domKey h.pkt = k) = [q] →
      (s.now < q.at_ + 1000 * s.get FAB_TIMERS_REORDER_US → Does (.reorderSkip src dom) s fun t => t = s) ∧
      (q.at_ + 1000 * s.get FAB_TIMERS_REORDER_US ≤ s.now → e < 65536 → q.pkt.psn < 65536 → q.pkt.opcode = 0x28 → headerBad q.pkt = false →
        fabricGate s q.pkt = .pass → Does (.reorderSkip src dom) s fun t =>
        Raised s t FAB_EVENT_REORDER_SKIP ∧ NMap.find t.fab.expect k = some ((q.pkt.psn + 1) % 65536) ∧ t.fab.held = s.fab.held.erase q ∧
        (∀ i < gap, (e + i) % 65536 ∈ NMap.getD t.fab.skipped k []) ∧ (postedBad s k = stOK → postedBad t k = stAborted) ∧
        Sends s t (replyTo s q.pkt 0x29 stPermission) ∧ RegsKept s t [FAB_EVENT_REORDER_SKIP, MGT_NOTIFY_PENDING] ∧
        t = { s with
          regs := t.regs
          dir := { s.dir with posted := t.dir.posted }
          fab := { s.fab with
            expect := t.fab.expect
            held := t.fab.held
            skipped := t.fab.skipped
            tx := t.fab.tx
            first := t.fab.first } })) ∧
    (∀ src dom, (∀ h ∈ s.fab.held, domKey h.pkt ≠ 8 * src + dom) → Does (.reorderSkip src dom) s fun t => t = s)

/-- The replies of the fabric's requests, by reply opcode (Table 14.2). -/
def Sys2Proof.Claims.replyForm (mk : Pkt → Instr) (op : Nat) : Prop := (mk, op) ∈ ([(.rdData, 0x03), (.wrAck, 0x04), (.atomicRsp, 0x09),
  (.redResult, 0x11), (.gathAck, 0x13), (.plData, 0x22), (.plAck, 0x23), (.pushAck, 0x29)] : List ((Pkt → Instr) × Nat))

/-- A request sent once more with RETRY set. -/
def Sys2Proof.Claims.resent (s t : State) (k : Nat) (r : OwnReq) : Prop :=
  NMap.find t.fab.reqs k = some { r with
    tries := r.tries + 1
    sent := s.now } ∧ OthersKept s.fab.reqs t.fab.reqs k ∧ Sends s t { r.pkt with retry := true } ∧
  t = { s with fab := { s.fab with reqs := t.fab.reqs, tx := t.fab.tx } }

/-- Replies (R164, R182, R246, R248, R273, R274, R279, R282, R289, R291, R335): a reply ends the request of this node that it
names, and what it brings goes to the unit that asked: an engine's line is done with its status and bytes, a tile's or mirrored
write's acknowledgements are one fewer, a page's line is filled, a group's contributors are answered. A request not answered in time,
or doubted, is sent again with RETRY set, and after RETRY_MAX tries ends with a record. Statuses kept for duplicates lapse. -/
def Obligations.RepliesEndTheirRequests : Prop :=
  ∀ (s : State) (p : Pkt) (mk : Pkt → Instr) (op : Nat), Sys2Proof.Claims.replyForm mk op → let k := 4096 * p.src + p.tag
    let ended := fun (t : State) => NMap.find t.fab.reqs k = none ∧ OthersKept s.fab.reqs t.fab.reqs k
    let fabOnly := fun (t : State) => { s.fab with reqs := t.fab.reqs }
    let plcOnly := fun (t : State) => { s.plc with silent := t.plc.silent }
    let code := statusRead p.status
    let good := p.opcode = op ∧ shut s = false ∧ headerBad p = false
    (p.opcode ≠ op → Does (mk p) s fun t => t = s) ∧
    (p.opcode = op → shut s = false → headerBad p = true → Does (mk p) s fun t =>
      Counts s t FAB_CNT0_HDR_BAD 1 ∧ RegsKept s t [FAB_CNT0_HDR_BAD] ∧ t = { s with regs := t.regs }) ∧
    (good → NMap.find s.fab.reqs k = none → Does (mk p) s fun t => t = s) ∧
    (∀ r, good → NMap.find s.fab.reqs k = some r → replyOp r.pkt.opcode = some op → (∀ w ∈ s.fab.waitTag, w.1.dst ≠ r.pkt.dst) →
      (r.purpose = .mgmt → Does (mk p) s fun t => ended t ∧ t = { s with plc := plcOnly t, fab := fabOnly t }) ∧
      (∀ e q pos a, r.purpose = .engine e q pos → reqOf s e q = some a → q < 512 → let bad := p.poison || code == stPoisoned
        let n := p.payload.length
        let fits := code = stOK ∨ code = stPoisoned ∨ code = stDuplicate ∨ code = stUncertain
        let done := fun (t : State) => ended t ∧ reqOf t e q = some (a.setLine pos fun y => { y with
            st := .done (if code = stPoisoned then stOK else code) 0
            poison := bad }) ∧ (∀ o, o ≠ e → engOf t o = engOf s o) ∧ KeepsS (engOf s e) (engOf t e) ∧ KeepsP (engOf s e) (engOf t e) ∧
          KeepsV (engOf s e) (engOf t e) ∧ KeepsT (engOf s e) (engOf t e) ∧ (engOf t e).pc = (engOf s e).pc ∧
          t = { s with eng := t.eng, dbg := t.dbg, plc := plcOnly t, fab := fabOnly t }
        let stores := fun (t : State) (base : Nat) => ∀ x, rdByte (engOf t e).neve x =
          if base ≤ x ∧ x < base + n then p.payload.getD (x - base) 0#8 else rdByte (engOf s e).neve x
        let store := fun (t : State) => (engOf t e).neve = (engOf s e).neve
        (op = 0x03 → a.kind = .get → fits → n ≤ 128 → Does (mk p) s fun t => done t ∧ stores t (a.loc + pos)) ∧
        (op = 0x04 → a.kind = .put → fits → Does (mk p) s fun t => done t ∧ store t) ∧
        (∀ g x, op = 0x09 → a.kind = .atom g x true → fits → n = 8 → Does (mk p) s fun t => done t ∧ stores t a.loc) ∧
        (∀ g c f, op = 0x11 → a.kind = .cred g c f → fits → n = a.len → n ≤ 1024 → Does (mk p) s fun t => done t ∧ stores t a.loc) ∧
        (∀ g c, op = 0x13 → a.kind = .cgath g c → fits → Does (mk p) s fun t => done t ∧ store t) ∧
        (¬ fits → Does (mk p) s fun t => done t ∧ store t)) ∧
      (∀ pg line, r.purpose = .place pg line → r.pkt.opcode = 0x20 → needFetch s line = true → extAt s (128 * line) = none →
        p.payload.length = 128 → Does (mk p) s fun t => ended t ∧ line ∈ t.plc.filled ∧
        (∀ x, rdByte t.mem x = if 128 * line ≤ x ∧ x < 128 * line + 128 then p.payload.getD (x - 128 * line) 0#8 else rdByte s.mem x) ∧
        t = { s with mem := t.mem, poison := t.poison, plc := { s.plc with filled := t.plc.filled, silent := t.plc.silent }, fab := fabOnly t }) ∧
      (∀ id h, r.purpose = .mirror id → p.status = stOK → NMap.find s.mir.held id = some h →
        (2 ≤ h.due → Does (mk p) s fun t => ended t ∧ NMap.find t.mir.held id = some { h with due := h.due - 1 } ∧
          OthersKept s.mir.held t.mir.held id ∧ t = { s with mir := { s.mir with held := t.mir.held }, plc := plcOnly t, fab := fabOnly t }) ∧
        (∀ x g, h.due ≤ 1 → h.forWhom = .reply x g → s.err.waitDup = [] → Does (mk p) s fun t => ended t ∧ Sends s t x ∧
          NMap.find t.mir.held id = none ∧ t.mem = s.mem ∧ t.regs = s.regs)) ∧
      (∀ c i ord ch l, r.purpose = .tile c i ord → chanOf' s c = some ch → liveOf s c i = some l → p.status = stOK →
        (ord ≠ ctrTile → Does (mk p) s fun t => ended t ∧ Sys2Proof.Claims.liveIs s t c ch l { l with
          tiles := l.tiles.map fun u => if u.ord = ord then { u with due := u.due - 1 } else u }) ∧
        (ord = ctrTile → Does (mk p) s fun t => ended t ∧ Sys2Proof.Claims.liveIs s t c ch l { l with ctrDue := 0 })) ∧
      (∀ g c gr ck, r.purpose = .parent g c → NMap.find s.fab.groups g = some gr → NMap.find s.fab.chunks (slotKey gr g c) = some ck →
        ck.chunk = c → ck.sent = true → Does (mk p) s fun t => ended t ∧ NMap.find t.fab.chunks (slotKey gr g c) = none ∧
        OthersKept s.fab.chunks t.fab.chunks (slotKey gr g c) ∧
        t.fab.tx = s.fab.tx ++ ck.taken.map (fun u => contribReply s u.pkt code p.payload) ∧ t.regs = s.regs ∧ t.mem = s.mem) ∧
      (∀ g c i gr ck, r.purpose = .gather g c i → NMap.find s.fab.groups g = some gr → NMap.find s.fab.chunks (slotKey gr g c) = some ck →
        ck.chunk = c → let all := ∀ x ∈ gr.expect, ∃ u ∈ ck.taken, u.index = x
        let left := ck.writing.filter (· ≠ i)
        (¬ (all ∧ left = []) → Does (mk p) s fun t => ended t ∧ NMap.find t.fab.chunks (slotKey gr g c) = some { ck with writing := left } ∧
          t.fab.tx = s.fab.tx ∧ t.regs = s.regs ∧ t.mem = s.mem) ∧
        (all → left = [] → Does (mk p) s fun t => ended t ∧ NMap.find t.fab.chunks (slotKey gr g c) = none ∧ t.fab.tx = s.fab.tx))) ∧
    (∀ dst tag r, NMap.find s.fab.reqs (4096 * dst + tag) = some r → let late := r.sent + 1000 * s.get FAB_TIMERS_RETRY_US ≤ s.now
      let note : ErrIn := { cls := 1, unitType := utSwitch, unitIndex := 0, cause := 0x0006, status := stDevErr,
                            tenant := some r.pkt.tenant, agent := r.pkt.dst, addr := some r.pkt.addr, info := 0 }
      (late → r.tries < s.get FAB_TIMERS_RETRY_MAX → Does (.retryTimer dst tag) s fun t =>
        Sys2Proof.Claims.resent s t (4096 * dst + tag) r) ∧
      (late → s.get FAB_TIMERS_RETRY_MAX ≤ r.tries → r.purpose = .mgmt → Plain s note → (∀ w ∈ s.fab.waitTag, w.1.dst ≠ r.pkt.dst) →
        Does (.retryTimer dst tag) s fun t => NMap.find t.fab.reqs (4096 * dst + tag) = none ∧ Reports s t note ∧ t.fab.tx = s.fab.tx) ∧
      (¬ late → Does (.retryTimer dst tag) s fun t => t = s)) ∧
    (∀ n r, p.opcode = 0x0e → headerBad p = false →
      s.fab.reqs.find? (fun x => x.2.pkt.tag = p.tag && x.2.pkt.psn = p.psn && x.2.pkt.dst = p.src) = some (n, r) →
      r.tries < s.get FAB_TIMERS_RETRY_MAX → Does (.fabDoubt p) s fun t => Sys2Proof.Claims.resent s t n r) ∧
    (p.opcode = 0x0e → headerBad p = true → Does (.fabDoubt p) s fun t =>
      Counts s t FAB_CNT0_HDR_BAD 1 ∧ RegsKept s t [FAB_CNT0_HDR_BAD] ∧ t = { s with regs := t.regs }) ∧
    (∀ src, Does (.firstDeliveryStatusExpiry src) s fun t => OthersKept s.fab.first t.fab.first src ∧ OthersKept s.fab.coh t.fab.coh src ∧
      NMap.getD t.fab.first src [] = (NMap.getD s.fab.first src []).filter (fun x => s.now < x.time + 200000) ∧
      NMap.getD t.fab.coh src [] = (NMap.getD s.fab.coh src []).filter (fun x => s.now < x.time + 200000) ∧
      t = { s with fab := { s.fab with first := t.fab.first, coh := t.fab.coh } }) ∧
    (∀ src, Does (.retentionExpiry src) s fun t => OthersKept s.err.retention t.err.retention src ∧
      NMap.getD t.err.retention src [] = (NMap.getD s.err.retention src []).filter (fun x => s.now < x.time + 200000) ∧
      t = { s with err := { s.err with retention := t.err.retention } })

/-- SHAPER_REFILL, POLICER_REFILL, HIST_SAMPLE and QOS_HIST_SEL_WRITE (R301 to R303, R305, R308, R309, Tables 15.2, 15.3): at each whole
microsecond a shaper's tokens rise by RATE up to BURST, a policer's buckets by its rates up to their sizes, and every
histogram counts its queue's bin; writing QOS_HIST_SEL shows a histogram and, with SNAP, clears it. -/
def Obligations.RefillsAndHistograms : Prop :=
  ∀ s : State, let next := fun (at_ : Nat) => at_ / 1000 < s.now / 1000
    (next s.qos.shapedAt → Does .shaperRefill s fun t => (∀ k < 4168, let rate := s.get (QOS_SHAPE_RATE (shBank k))
        let burst := s.get (QOS_SHAPE_BURST (shBank k))
        rate < 2 ^ 20 → burst < 2 ^ 24 → s.get (QOS_SHSTATE_TOKENS (shBank k)) < 2 ^ 32 →
        tokens t k = (if tokens s k < burst then min (burst : Int) (tokens s k + rate) else tokens s k) ∧
        NMap.getD t.qos.shape k (0, 0) = (rate, burst)) ∧
      (∀ f : Fld, (∀ k, f.key ≠ (QOS_SHSTATE_TOKENS (shBank k)).key) → t.get f = s.get f) ∧ t.qos.shapedAt = s.now ∧
      t = { s with regs := t.regs, qos := { s.qos with shape := t.qos.shape, shapedAt := t.qos.shapedAt } }) ∧
    (¬ next s.qos.shapedAt → Does .shaperRefill s fun t => t = s) ∧
    (next s.qos.policedAt → Does .policerRefill s fun t => (∀ k < 4160, let u := polBank k
        let algo := s.get (POLA_ALGO u)
        let cbs := s.get (POLA_CBS u)
        let ebs := s.get (POLB_EBS_PBS u)
        let cir := s.get (POLA_CIR u)
        let tc := (buckets s k).1
        let te := (buckets s k).2
        let a := min cir (cbs - tc)
        cbs < 2 ^ 24 → ebs < 2 ^ 24 → tc < 2 ^ 24 → te < 2 ^ 24 →
        buckets t k = if algo = 0 then (tc, te) else if (policerOf s k).algo = 0 then (cbs, ebs)
          else if algo = 1 then (tc + a, max te (min ebs (te + (cir - a))))
          else (max tc (min cbs (tc + cir)), max te (min ebs (te + s.get (POLB_PIR u))))) ∧
      t.qos.deferred = [] ∧ t.qos.policedAt = s.now ∧ t = { s with
        regs := t.regs
        qos := { s.qos with
          police := t.qos.police
          policedAt := t.qos.policedAt
          deferred := [] } }) ∧
    (¬ next s.qos.policedAt → Does .policerRefill s fun t => t = s) ∧
    (s.get QOS_CFG_HIST_EN ≠ 0 → next s.qos.sampledAt → Does .histSample s fun t => (∀ k ∈ histKeys, ∀ b,
        NMap.getD (NMap.getD t.qos.hist k []) b 0 = if b = binOf (sampleOf s k) then min (NMap.getD (NMap.getD s.qos.hist k []) b 0 + 1) 0xffffffff
          else NMap.getD (NMap.getD s.qos.hist k []) b 0) ∧ t.qos.sampledAt = s.now ∧
      ((∃ k ∈ histKeys, NMap.getD (NMap.getD t.qos.hist k []) (binOf (sampleOf s k)) 0 = 0xffffffff) → Raised s t QOS_EVENT_HIST_SAT) ∧
      RegsKept s t [QOS_EVENT_HIST_SAT, MGT_NOTIFY_PENDING] ∧
      t = { s with regs := t.regs, qos := { s.qos with hist := t.qos.hist, sampledAt := t.qos.sampledAt } }) ∧
    ((s.get QOS_CFG_HIST_EN = 0 ∨ ¬ next s.qos.sampledAt) → Does .histSample s fun t => t = s) ∧
    (∀ v : Word64, let w := v.toNat
      let cls := if bits w 14 12 ≤ 5 then bits w 14 12 else s.get QOS_HIST_SEL_CLASS
      let kind := bits w 17 16
      let k := 65536 * kind + (if kind < 2 then bits w 11 0 else 8 * bits w 11 0 + cls)
      let h := NMap.getD s.qos.hist k []
      (∀ b, NMap.getD h b 0 < 2 ^ 32) → Does (.qosHistSelWrite v) s fun t =>
      t.get QOS_HIST_SEL_KIND = kind ∧ t.get QOS_HIST_SEL_CLASS = cls ∧ t.get QOS_HIST_SEL_INDEX = bits w 11 0 ∧
      (∀ n < 8, t.get (QOS_HIST_DATA_BIN_LO n) = NMap.getD h (2 * n) 0 ∧ t.get (QOS_HIST_DATA_BIN_HI n) = NMap.getD h (2 * n + 1) 0) ∧
      (bit w 63 = true → NMap.find t.qos.hist k = none ∧ OthersKept s.qos.hist t.qos.hist k) ∧ (bit w 63 = false → t.qos.hist = s.qos.hist) ∧
      RegsKept s t ([QOS_HIST_SEL_KIND, QOS_HIST_SEL_CLASS, QOS_HIST_SEL_INDEX] ++ (List.range 8).flatMap fun n =>
        [QOS_HIST_DATA_BIN_LO n, QOS_HIST_DATA_BIN_HI n]) ∧
      t = { s with regs := t.regs, qos := { s.qos with hist := t.qos.hist } })

/-- The statements above: packets are routed, ports choose and reorder. -/
def Obligations.TheSwitchRoutesAndOrders : Prop :=
  Sys2Proof.Claims.packetsAreRouted ∧
  Sys2Proof.Claims.portsChooseAndReorder

/-- RED_CONTRIB, GATH_CONTRIB, CHUNK_TIMEOUT and the group commands (R212, R288 to R291, R294, Tables 14.6 and 14.7). A contribution
of an expected index is combined element by element into its chunk; the last one makes a root answer every contributor with the
result and a non-root send it on; a duplicate is counted, one that does not fit its group is refused; a gather's contribution is
acknowledged and written, or sent on; a chunk not complete in time is given up with ABORTED. GRP_CREATE, GRP_DESTROY and GRP_QUERY
write, remove and read a group's record. -/
def Obligations.GroupsCombineContributions : Prop :=
  ∀ (s : State) (port : Nat) (p : Pkt),
    let mkOf := fun (i : Instr) (op : Nat) => (i = .redContrib port p ∧ op = 0x10) ∨ (i = .gathContrib port p ∧ op = 0x12)
    let refused := fun (t : State) => Counts s t FAB_CNT1_CONTRIB_REFUSED 1 ∧ RegsKept s t [FAB_CNT1_CONTRIB_REFUSED] ∧
      Sends s t (contribReply s p stPermission []) ∧ t = { s with regs := t.regs, fab := { s.fab with tx := t.fab.tx } }
    let idx := ctIndex p
    (∀ i op, mkOf i op → p.opcode ≠ op → Does i s fun t => t = s) ∧
    (∀ i op, mkOf i op → p.opcode = op → contribGate s p = .pass → takingGroup s p = none → Does i s fun t => refused t) ∧
    (∀ i op g, mkOf i op → p.opcode = op → contribGate s p = .pass → takingGroup s p = some g →
      let k := slotKey g (ctGroup p) (ctChunk p)
      let chunkIs := fun (t : State) (c : Chunk) => NMap.find t.fab.chunks k = some c ∧ OthersKept s.fab.chunks t.fab.chunks k
      let freed := fun (t : State) => NMap.find t.fab.chunks k = none ∧ OthersKept s.fab.chunks t.fab.chunks k
      let only := fun (t : State) (l : List Fld) => RegsKept s t l ∧ t = { s with
        regs := t.regs
        dbg := t.dbg
        fab := { s.fab with
          chunks := t.fab.chunks
          tx := t.fab.tx
          psn := t.fab.psn
          reqs := t.fab.reqs } }
      let fits := p.tenant = g.tenant ∧ p.opcode = (if g.kind = 0 then 0x10 else 0x12) ∧ (g.kind = 1 → p.payload.length = g.chunkBytes)
      let vs := contribVals g.fmt p.payload
      let good := p.poison = false ∧ ctFmt p = g.fmt
      (¬ fits → Does i s fun t => refused t) ∧
      (∀ c, fits → NMap.find s.fab.chunks k = some c → c.chunk ≠ ctChunk p → Does i s fun t => refused t) ∧
      (∀ c, fits → NMap.find s.fab.chunks k = some c → c.chunk = ctChunk p → (∃ u ∈ c.taken, u.index = idx) → Does i s fun t =>
        Counts s t FAB_CNT1_CONTRIB_DUP 1 ∧ only t [FAB_CNT1_CONTRIB_DUP] ∧ t.fab = s.fab) ∧
      (fits → g.kind = 0 → good → NMap.find s.fab.chunks k = none → (∃ x ∈ g.expect, x ≠ idx) → Does i s fun t =>
        chunkIs t ⟨ctChunk p, vs, [⟨idx, p⟩], false, s.now, false, []⟩ ∧ only t [] ∧ t.fab.tx = s.fab.tx) ∧
      (∀ c, fits → g.kind = 0 → NMap.find s.fab.chunks k = some c → c.chunk = ctChunk p → (∀ u ∈ c.taken, u.index ≠ idx) →
        c.taken ≠ [] → c.acc.length = vs.length →
        let acc := List.zipWith (fun a b => Sys2Proof.Machine.encodeF .rne 0 (combine32 g.op (decodeF 0 a) (decodeF 0 b))) c.acc vs
        let taken := c.taken ++ [⟨idx, p⟩]
        let all := ∀ x ∈ g.expect, ∃ u ∈ taken, u.index = x
        (good → ¬ all → Does i s fun t => chunkIs t { c with acc := acc, taken := taken } ∧ only t [] ∧ t.fab.tx = s.fab.tx) ∧
        (¬ good → ¬ all → c.acc ≠ [] → Does i s fun t => chunkIs t { c with taken := taken, bad := true } ∧ Counts s t FAB_CNT1_CONTRIB_POISONED 1 ∧
          only t [FAB_CNT1_CONTRIB_POISONED] ∧ t.fab.tx = s.fab.tx) ∧
        (good → all → g.root = true → Does i s fun t => freed t ∧ only t [] ∧
          t.fab.tx = s.fab.tx ++ taken.map fun u => contribReply s u.pkt (if c.bad then stPoisoned else stOK) (resultBytes g acc)) ∧
        (good → all → g.root = false → freeTag s g.rootAgent ≠ none → Does i s fun t =>
          chunkIs t { c with acc := acc, taken := taken, sent := true } ∧ only t [] ∧
          ∃ q, Sends s t q ∧ q.opcode = 0x10 ∧ q.mclass = 3 ∧ q.dst = g.rootAgent ∧ q.tenant = g.tenant ∧ q.payload = resultBytes g acc ∧
            q.poison = c.bad ∧ q.arg = ctGroup p + ctChunk p * 2 ^ 16 + g.parentIndex * 2 ^ 32 + g.fmt * 2 ^ 40 ∧
            NMap.find t.fab.reqs (4096 * g.rootAgent + q.tag) = some ⟨q, s.now, 0, .parent (ctGroup p) (ctChunk p)⟩)) ∧
      (fits → g.kind = 1 → NMap.find s.fab.chunks k = none → let taken : List Taken := [⟨idx, p⟩]
        let ack := contribReply s p stOK []
        let others := ∃ x ∈ g.expect, x ≠ idx
        (g.root = false → others → Does i s fun t => chunkIs t ⟨ctChunk p, [], taken, false, s.now, false, []⟩ ∧ only t [] ∧
          t.fab.tx = s.fab.tx ++ [ack, p]) ∧
        (g.root = false → ¬ others → Does i s fun t => freed t ∧ only t [] ∧ t.fab.tx = s.fab.tx ++ [ack, p]) ∧
        (g.root = true → freeTag s g.gatherAgent ≠ none → Does i s fun t =>
          chunkIs t ⟨ctChunk p, [], taken, false, s.now, false, [idx]⟩ ∧ only t [] ∧
          ∃ q, t.fab.tx = s.fab.tx ++ [ack, q] ∧ q.opcode = 0x02 ∧ q.mclass = 3 ∧ q.dst = g.gatherAgent ∧ q.tenant = g.tenant ∧
            q.payload = p.payload ∧ q.poison = p.poison ∧ q.addr = g.gatherAddr + (ctChunk p * 256 + idx) * g.chunkBytes ∧
            NMap.find t.fab.reqs (4096 * g.gatherAgent + q.tag) = some ⟨q, s.now, 0, .gather (ctGroup p) (ctChunk p) idx⟩))) ∧
    (∀ n slot g c, NMap.find s.fab.groups n = some g → slot < 64 → NMap.find s.fab.chunks (64 * n + slot) = some c →
      (c.began + 1000 * g.timeout ≤ s.now → Does (.chunkTimeout n slot) s fun t => Counts s t FAB_CNT1_CHUNK_TIMEOUTS 1 ∧
        Raised s t FAB_EVENT_GRP_TIMEOUT ∧ RegsKept s t [FAB_CNT1_CHUNK_TIMEOUTS, FAB_EVENT_GRP_TIMEOUT, MGT_NOTIFY_PENDING] ∧
        NMap.find t.fab.chunks (64 * n + slot) = none ∧ OthersKept s.fab.chunks t.fab.chunks (64 * n + slot) ∧
        t.fab.tx = s.fab.tx ++ (if g.kind = 0 then c.taken.map fun u => contribReply s u.pkt stAborted [] else []) ∧
        t = { s with regs := t.regs, fab := { s.fab with chunks := t.fab.chunks, tx := t.fab.tx } }) ∧
      (s.now < c.began + 1000 * g.timeout → Does (.chunkTimeout n slot) s fun t => t = s)) ∧
    (∀ n slot, NMap.find s.fab.chunks (64 * n + slot % 64) = none → Does (.chunkTimeout n slot) s fun t => t = s) ∧
    (s.get FAB_GRP_CMD_BUSY = 0 → let n := s.get FAB_GRP_CMD_GROUP
      let st := fun (t : State) (c : Nat) => t.get FAB_GRP_CMD_STATUS = c
      let recs := fun (t : State) => RegsKept s t [FAB_GRP_CMD_STATUS] ∧
        t = { s with regs := t.regs, fab := { s.fab with groups := t.fab.groups } }
      (∀ g, NMap.find s.fab.groups n = none → groupOfRec (grpBytes s) = some g → Does .grpCreate s fun t =>
        NMap.find t.fab.groups n = some g ∧ OthersKept s.fab.groups t.fab.groups n ∧ st t stOK ∧ recs t) ∧
      ((NMap.find s.fab.groups n ≠ none ∨ groupOfRec (grpBytes s) = none) → Does .grpCreate s fun t =>
        st t stPermission ∧ recs t ∧ t.fab = s.fab) ∧
      (grpBusy s n = false → Does .grpDestroy s fun t => NMap.find t.fab.groups n = none ∧ OthersKept s.fab.groups t.fab.groups n ∧ st t stOK ∧ recs t) ∧
      (grpBusy s n = true → Does .grpDestroy s fun t => st t stPermission ∧ recs t ∧ t.fab = s.fab) ∧
      (Does .grpQuery s fun t => st t stOK ∧ (∀ i < 8, t.get (FAB_GRP_DATA i) =
          leNat (slice (match NMap.find s.fab.groups n with | some g => recOfGroup n g | none => natLe 64 n) (8 * i) 8)) ∧
        RegsKept s t (FAB_GRP_CMD_STATUS :: (List.range 8).map FAB_GRP_DATA) ∧ t = { s with regs := t.regs }))

/-! Control space, the mailbox, placement and management packets (chapters 05, 14, 21, 22). -/

/-- Registers whose writes do no more than store their fields. -/
def Sys2Proof.Claims.plainRegs : List (List Fld) :=
  [CLK_CTL, CLK_EVENT, CLK_GATE, PWR_WAKE_EN, PWR_WAKE_TIME, PWR_EVENT, PWR_CFG, PLC_CFG, PLC_PEERS, PLC_EVENT, DIR_CFG, DIR_EVENT, XLT_CFG,
   LEASE_SEL, CHN_CFG, CHN_EVENT, FAB_SPARE0, FAB_SPARE1, FAB_EVENT, FAB_RT_SEL, FAB_FLT_SEL, QOS_CFG, QOS_EVENT, SEC_EVENT, SEC_RT_SEL,
   SEC_AGENT_SEL, MIR_EVENT, MIR_OWN_SEL, ERR_CFG, DBG_TBUF, MGT_ETH, MGT_EVENT, MGT_CAL_SEL, MGT_METER_SEL, MGT_TELEM1]

/-- A field after a write of its register (R7, R424): RW and RWS take the written value where it lies in their range, W1C loses the
bits written as 1, any other field keeps its value. -/
def Sys2Proof.Claims.stored (s t : State) (v : Nat) (f : Fld) : Prop :=
  t.get f = match f.acc with
    | .rw | .rws => if f.rng.ok (f.of v) then f.of v else s.get f
    | .w1c => if f.of v = 0 then s.get f else (Nat.xor (s.get f) (Nat.land (s.get f) (f.of v))) % 2 ^ f.width
    | _ => s.get f

/-- Register writes and the mailbox (R7, R391, R403, R413, R416, R424): a write from the management cores, or from a session that has
proved itself, stores each field by its access type and nothing else; one at an offset that is unaligned or that no register has, or from
any other path, changes nothing; in Deep an access to a stopped block wakes the node and waits. A mailbox request performs its operations in
order and answers their results; a repeated TAG is answered as before. -/
def Obligations.RegisterAccess : Prop :=
  ∀ (s : State) (p : Path) (off : Nat) (v : Word64), let awake := NMap.find s.dbg.stopped 1 = none
    let runs := p = .device ∨ s.get MGT_STATUS_STATE = 2
    let may := p = .device ∨ ∃ n c, p = .session n ∧ NMap.find s.sec.sess n = some c ∧ c.up = true ∧ c.admin = true
    (∀ fs f, fs ∈ Sys2Proof.Claims.plainRegs → f ∈ fs → off = f.off → awake → runs →
      (may → Does (.registerWrite p off v) s fun t => (∀ g ∈ fs, Sys2Proof.Claims.stored s t v.toNat g) ∧ RegsKept s t fs ∧
        t = { s with regs := t.regs }) ∧
      (¬ may → Does (.registerWrite p off v) s fun t => t = s)) ∧
    (∀ k < 128, off = (QOS_TMAP_MAP k).off → awake → runs → may → Does (.registerWrite p off v) s fun t =>
      (∀ i < 64, bit (t.get (QOS_TMAP_MAP k)) i = if i % 8 = 6 then false else bit v.toNat i) ∧ RegsKept s t [QOS_TMAP_MAP k] ∧
      t = { s with regs := t.regs }) ∧
    ((off % 8 ≠ 0 ∨ assigned off = false ∨ (0x10000 ≤ off ∧ fieldsAt s off = none)) → awake → Does (.registerWrite p off v) s fun t => t = s) ∧
    (¬ runs → Does (.registerWrite p off v) s fun t => t = s) ∧
    (runs → NMap.find s.dbg.stopped 1 ≠ none → awakeBlock off = false → s.get PWR_STATE_STATE = 5 → Does (.registerWrite p off v) s fun t =>
      t = { s with mgt := { s.mgt with waits := s.mgt.waits ++ [.write p off v] } }) ∧
    (∀ tag n c q, awake → s.get MGT_STATUS_STATE = 2 → NMap.find s.sec.sess n = some c → c.up = true →
      let answered := fun (t : State) (b : List Byte) => let l := mgtFrame s 0x06 (Config.sessionSeal n true b)
        Sends s t { replyTo s q 0x39 stOK with
          len := l.length
          payload := l }
      let req : List MboxOp → MboxReq := fun ops => ⟨some q, some n, tag, ops⟩
      let fresh := ∀ k ∈ s.mgt.kept, ¬ (k.agent = some q.src ∧ k.sess = some n ∧ k.tag = tag ∧ s.now < k.time + 1000000000)
      let hdr := natLe 4 tag ++ natLe 1 1 ++ natLe 3 0 ++ natLe 4 off
      let kept := fun (t : State) (b : List Byte) => t.mgt.kept.head? = some ⟨some q.src, some n, tag, s.now, b⟩ ∧
        NMap.find t.sec.sess n = some { c with heard := s.now }
      (∀ fs f, fs ∈ Sys2Proof.Claims.plainRegs → f ∈ fs → off = f.off → c.admin = true → fresh →
        Does (.mboxReq (req [⟨off, true, v⟩])) s fun t => let b := hdr ++ natLe 4 1 ++ natLe 8 v.toNat
          answered t b ∧ kept t b ∧ (∀ g ∈ fs, Sys2Proof.Claims.stored s t v.toNat g) ∧ RegsKept s t fs) ∧
      (∀ w, c.admin = false → 0x10000 ≤ off → off < 0x8000000 → fresh → Does (.mboxReq (req [⟨off, true, w⟩])) s fun t =>
        let b := hdr ++ natLe 4 (1 + 256 * stPermission) ++ natLe 8 w.toNat
        answered t b ∧ kept t b ∧ t.regs = s.regs) ∧
      (fresh → off = 0 → Does (.mboxReq (req [⟨off, false, v⟩])) s fun t => let b := hdr ++ natLe 4 0 ++ natLe 8 (regVal s GLB_ID)
        answered t b ∧ kept t b ∧ t.regs = s.regs) ∧
      (∀ k ops, s.mgt.kept = [k] → k.agent = some q.src → k.sess = some n → k.tag = tag → s.now < k.time + 1000000000 → ops ≠ [] →
        ops.length ≤ 60 → Does (.mboxReq (req ops)) s fun t => answered t k.resp ∧ t = { s with fab := { s.fab with tx := t.fab.tx } })) ∧
    (∀ r, s.get MGT_STATUS_STATE ≠ 2 → Does (.mboxReq r) s fun t => t = s)

/-- CTL_RD, CTL_WR, PL_RD, PL_WR and MGMT (R109, R113, R274, R312, R313, R336, R337, R339, R422): a control access of an agent reaches its own
tenant's window only, and is answered CTL_RSP; a placement packet reads or writes the ciphertext of a line that this node holds for
another, or keeps as a standby in its service epoch, poisoned or DEVICE_ERROR where the unit that keeps it has FAILED; a pair or ownership message does what its own command does, and a reserved one is counted. -/
def Obligations.ControlAndPlacementPackets : Prop :=
  ∀ (s : State) (port : Nat) (p : Pkt), let off := p.addr % 2 ^ 50
    let w := windowOf (p.addr % 2 ^ 32)
    let ctl := ctlGate s p = .pass
    let at_ := fun (fs : List Fld) => ∃ f ∈ fs, f.off = p.addr % 2 ^ 32
    let rsp := { replyTo s p 0x32 stOK with
      len := 8
      payload := natLe 8 (tenId s w) }
    let sent := fun (t : State) (q : Pkt) => Sends s t q ∧ t = { s with fab := { s.fab with tx := t.fab.tx } }
    let answered := fun (t : State) (q : Pkt) => Sends s t q ∧ t.mem = s.mem ∧ t.dev = s.dev ∧ t = { s with
      regs := t.regs
      plc := t.plc
      mir := t.mir
      mch := { s.mch with ctl := t.mch.ctl }
      fab := { s.fab with tx := t.fab.tx, first := t.fab.first } }
    let line := fun (m : NMap CLine) (k : Nat) => some (NMap.getD m k ⟨List.replicate 128 0#8, false⟩)
    let cell : CLine := ⟨fitBytes 128 p.payload, p.poison⟩
    let mine := lodgeFrame s (p.addr / 2 ^ 50 % 64) (off / 2097152)
    (p.opcode = 0x30 → ctl → at_ (TEN_ID w) → Does (.ctlRd port p) s fun t => sent t rsp) ∧
    (p.opcode = 0x31 → ctl → at_ (CHN_TSEL w) → Does (.ctlWr port p) s fun t => answered t (replyTo s p 0x32 stOK) ∧
      t.get (CHN_TSEL_CHANNEL w) = (CHN_TSEL_CHANNEL w).of (leNat (slice p.payload 0 8) % 2 ^ 64) ∧ RegsKept s t (CHN_TSEL w) ∧
      t.plc = s.plc ∧ t.mir = s.mir) ∧
    (p.opcode = 0x31 → ctl → windowRegs (p.addr % 2 ^ 32) = none → Does (.ctlWr port p) s fun t => answered t (replyTo s p 0x32 stOK) ∧
      RegsKept s t [] ∧ t.plc = s.plc ∧ t.mir = s.mir) ∧
    (∀ c ∈ ([.ctlRd port p, .ctlWr port p] : List Instr), (p.opcode = 0x30 ∨ p.opcode = 0x31) → ctlGate s p = .refuse stPermission →
      headerBad p = false → Does c s fun t => answered t (replyTo s p 0x32 stPermission) ∧ RegsKept s t [] ∧ t.plc = s.plc ∧ t.mir = s.mir) ∧
    (p.opcode = 0x20 → placeGate s p = .pass → fromActive s p = false → (∀ f, mine = some f →
        let c := NMap.getD s.plc.lodgedMem (16384 * f + off % 2097152 / 128) ⟨List.replicate 128 0#8, false⟩
        Does (.plRd port p) s fun t => Sends s t (plReply s p stOK (some { c with poison := c.poison || lodgedLost s f off })) ∧
          t = { s with mch := { s.mch with ctl := t.mch.ctl }, fab := { s.fab with tx := t.fab.tx } }) ∧
      (mine = none → Does (.plRd port p) s fun t => sent t (plReply s p stPermission none))) ∧
    (p.opcode = 0x20 → placeGate s p = .pass → fromActive s p = true → (p.svcEpoch = s.get MIR_STATUS_SVC_EPOCH → Does (.plRd port p) s fun t =>
        sent t (plReply s p stOK (line s.mir.cipher (off / 128)))) ∧
      (p.svcEpoch ≠ s.get MIR_STATUS_SVC_EPOCH → Does (.plRd port p) s fun t => sent t (plReply s p stEpoch none))) ∧
    (p.opcode = 0x21 → placeGate s p = .pass → fromActive s p = false →
      (∀ f, mine = some f → lodgedLost s f off = true → Does (.plWr port p) s fun t =>
        answered t (plReply s p stDevErr none) ∧ t.regs = s.regs ∧ t.plc = s.plc ∧ t.mir = s.mir) ∧
      (∀ f, mine = some f → lodgedLost s f off = false → let k := 16384 * f + off % 2097152 / 128
        Does (.plWr port p) s fun t => answered t (plReply s p stOK none) ∧ NMap.find t.plc.lodgedMem k = some cell ∧
          OthersKept s.plc.lodgedMem t.plc.lodgedMem k ∧ t.plc = { s.plc with lodgedMem := t.plc.lodgedMem } ∧ t.regs = s.regs ∧ t.mir = s.mir) ∧
      (mine = none → takesLodging s (p.addr / 2 ^ 50 % 64) = false → Does (.plWr port p) s fun t =>
        answered t (plReply s p stPermission none) ∧ t.regs = s.regs ∧ t.plc = s.plc ∧ t.mir = s.mir)) ∧
    (p.opcode = 0x21 → placeGate s p = .pass → fromActive s p = true → (p.svcEpoch = s.get MIR_STATUS_SVC_EPOCH → Does (.plWr port p) s fun t =>
        answered t (plReply s p stOK none) ∧ NMap.find t.mir.cipher (off / 128) = some cell ∧ OthersKept s.mir.cipher t.mir.cipher (off / 128) ∧
        t.mir = { s.mir with
          cipher := t.mir.cipher
          peerSeen := s.now
          beatAt := s.now
          denied := false } ∧
        t.get MIR_SEQ_WRITE_SEQ = (s.get MIR_SEQ_WRITE_SEQ + 1) % 2 ^ 64 ∧ RegsKept s t [MIR_SEQ_WRITE_SEQ] ∧ t.plc = s.plc) ∧
      (p.svcEpoch ≠ s.get MIR_STATUS_SVC_EPOCH → Does (.plWr port p) s fun t =>
        answered t (plReply s p stEpoch none) ∧ t.regs = s.regs ∧ t.plc = s.plc ∧ t.mir = s.mir)) ∧
    (p.opcode ≠ 0x20 → Does (.plRd port p) s fun t => t = s) ∧ (p.opcode ≠ 0x21 → Does (.plWr port p) s fun t => t = s) ∧
    (p.opcode ≠ 0x38 → Does (.mgmtPkt port p) s fun t => t = s) ∧
    (p.opcode = 0x38 → headerBad p = true → Does (.mgmtPkt port p) s fun t => Sends s t (replyTo s p 0x39 stPermission) ∧
      Counts s t FAB_CNT0_HDR_BAD 1 ∧ RegsKept s t [FAB_CNT0_HDR_BAD] ∧ t = { s with regs := t.regs, fab := { s.fab with tx := t.fab.tx } }) ∧
    (p.opcode = 0x38 → headerBad p = false → leNat (p.payload.take 1) = 0xe7 → let m := leNat (slice p.payload 1 1)
      (∀ k mk, (k, mk) ∈ ([(2, .renewGrant), (4, .takeoverGrant), (6, .soloGrant), (7, .mirDeny), (8, .mirHeartbeat), (0x10, .ownQuery),
        (0x11, .ownTransfer), (0x12, .ownClaimMsg), (0x13, .ownReply), (0x14, .ownReturn)] : List (Nat × (Pkt → Instr))) → m = k →
        Does (.mgmtPkt port p) s fun t => Sys2Proof.Machine.exec (mk p) s = .next t) ∧
      ((m = 0 ∨ (8 < m ∧ m < 0x10) ∨ 0x14 < m) → Does (.mgmtPkt port p) s fun t => Counts s t MIR_CNT_BAD_MSG 1 ∧
        RegsKept s t [MIR_CNT_BAD_MSG] ∧ t = { s with regs := t.regs }))

/-! Tenants, keys and removal (chapter 16). -/

/-- The record of a tenant is `r`, and every other tenant's is as before. -/
def Sys2Proof.Claims.tenIs (s t : State) (n : Nat) (r : TenRec) : Prop :=
  NMap.find t.sec.tenants n = some r ∧ OthersKept s.sec.tenants t.sec.tenants n

/-- Tenants made, keyed, reset and mapped (R311, R312, R315 to R319, R324, R331, Tables 16.1 to 16.3): TENANT_CREATE gives a free slot to a tenant
with a newer epoch; LOAD_KEY and GEN_KEY make it LIVE; RESET stops its channels, and ends once they have; ERASE drops its key; SVN_COMMIT
raises the security versions; SEC_AGENT_DATA maps an agent unless a lease or the directory still needs its tenant. -/
def Sys2Proof.Claims.tenantCommandsChangeTheirRecord : Prop :=
  ∀ (s : State), let slot := s.get SEC_CMD0_SLOT
    let n := s.get SEC_CMD0_RACK_TENANT
    let e := s.get SEC_CMD2_EPOCH
    let old := NMap.find s.sec.tenants n
    let ahead := (e + 65536 - old.elim 0 TenRec.floor) % 65536
    let busy := s.get SEC_CMD_CTL_BUSY ≠ 0
    let ended := fun (t : State) (l : List Fld) => Ended s t SEC_CMD_CTL_STATUS SEC_CMD_CTL_DETAIL l
    let refused := fun (i : Instr) (de : Nat) => Does i s fun t => EndedRefused s t SEC_CMD_CTL_STATUS SEC_CMD_CTL_DETAIL de
    let secOnly := fun (t : State) => t = { s with regs := t.regs, sec := { s.sec with tenants := t.sec.tenants, keys := t.sec.keys } }
    (∀ i ∈ ([.tenantCreate, .loadKey, .genKey, .tenantReset, .tenantFence, .secErase, .secUnseal, .svnCommit] : List Instr),
      busy → Does i s fun t => t = s) ∧
    (¬ busy → slotRec s slot ≠ none → refused .tenantCreate 1) ∧
    (¬ busy → slotRec s slot = none → ((∃ r, old = some r ∧ r.st ≠ .none) ∨ ahead = 0 ∨ 32768 ≤ ahead) → refused .tenantCreate 2) ∧
    (¬ busy → slotRec s slot = none → (∀ r, old = some r → r.st = .none) → 1 ≤ ahead → ahead < 32768 → Does .tenantCreate s fun t =>
      Sys2Proof.Claims.tenIs s t n ⟨.keyless, slot, e, e⟩ ∧ ended t [] ∧ NMap.find t.dbg.tenCnt n = some [] ∧
      t = { s with
        regs := t.regs
        sec := { s.sec with tenants := t.sec.tenants }
        dbg := { s.dbg with tenCnt := t.dbg.tenCnt } }) ∧
    (∀ i ∈ ([.loadKey, .genKey, .tenantReset, .tenantFence, .secErase, .secUnseal] : List Instr), ¬ busy → slotRec s slot = none → refused i 1) ∧
    (∀ m r, ¬ busy → slotRec s slot = some (m, r) →
      let keyed := fun (t : State) (k : List Byte) => NMap.find t.sec.keys m = some k ∧
        OthersKept s.sec.keys t.sec.keys m ∧ Sys2Proof.Claims.tenIs s t m { r with st := .live } ∧ ended t []
      let src := Sys2Proof.Machine.readable s (s.get SEC_CMD1_ADDR) 196
      let opens := fun (b : List Byte) => Config.gcmOpen (wrapKey (slice b 0x28 64) (slice b 8 32) (ascii "halhild tenant key" ++ natLe 2 m))
        (slice b 0x68 12) (b.take 0x68) (slice b 0x74 80)
      (r.st ≠ .keyless → refused .loadKey 3 ∧ refused .genKey 3) ∧ (r.st ≠ .live → refused .tenantReset 3 ∧ refused .secUnseal 3) ∧
      (r.st ≠ .keyless → r.st ≠ .live → refused .tenantFence 3) ∧ (r.st ≠ .drained → refused .secErase 3) ∧
      (r.st = .keyless → src = none → refused .loadKey 7) ∧
      (∀ b, r.st = .keyless → src = some b → (slice b 8 32 ≠ idHash s → refused .loadKey 4) ∧
        (slice b 8 32 = idHash s → opens b = none → refused .loadKey 5) ∧
        (∀ k, slice b 8 32 = idHash s → opens b = some k → leNat (b.take 2) = 1 → Does .loadKey s fun t => keyed t (fitBytes 64 k) ∧ secOnly t)) ∧
      (r.st = .keyless → Does .genKey s fun t => keyed t (Config.randomKey s.fresh).toList ∧ t.fresh = s.fresh + 1) ∧
      (r.st = .live → (∀ x ∈ s.chn.chans, x.2.tenant ≠ m) → (∀ l ∈ s.eng.launches, l.tenant ≠ m) → s.fab.chunks = [] → Does .tenantReset s fun t =>
        Sys2Proof.Claims.tenIs s t m { r with st := .resetting } ∧ t.get SEC_CMD_CTL_BUSY = 1 ∧ RegsKept s t [SEC_CMD_CTL_BUSY] ∧ secOnly t) ∧
      (r.st = .drained → Does .secErase s fun t => Sys2Proof.Claims.tenIs s t m { r with st := .erased } ∧ NMap.find t.sec.keys m = none ∧
        OthersKept s.sec.keys t.sec.keys m ∧ Raised s t SEC_EVENT_ERASE_DONE ∧ t.get SEC_EVENT_LAST_SLOT = r.slot % 64 ∧
        ended t [SEC_EVENT_ERASE_DONE, SEC_EVENT_LAST_SLOT, MGT_NOTIFY_PENDING] ∧ (∀ l ∈ t.plc.filled, l ∈ s.plc.filled ∧ pageOf s m (l / 16384) = false) ∧
        (∀ q, (engOf t q).neve = if NMap.find s.eng.lastTen (q / 16) = some m then [] else (engOf s q).neve) ∧ t.mem = s.mem)) ∧
    (∀ w m r, slotRec s w = some (m, r) → (r.st ≠ .live → Does (.tenCtlReset w) s fun t => t = s) ∧
      (r.st = .live → (∀ x ∈ s.chn.chans, x.2.tenant ≠ m) → (∀ l ∈ s.eng.launches, l.tenant ≠ m) → s.fab.chunks = [] → Does (.tenCtlReset w) s fun t =>
        Sys2Proof.Claims.tenIs s t m { r with st := .resetting } ∧ t.regs = s.regs ∧ secOnly t)) ∧
    (∀ w, slotRec s w = none → Does (.tenCtlReset w) s fun t => t = s) ∧
    (∀ m r, NMap.find s.sec.tenants m = some r → r.slot < 64 → (r.st = .resetting → tenantStopped s m = true → Does (.tenantResetDone m) s fun t =>
        Sys2Proof.Claims.tenIs s t m { r with st := .live } ∧ t.get (TEN_FAULT_FAULT r.slot) = 0 ∧ Raised s t SEC_EVENT_RESET_DONE ∧
        t.get SEC_EVENT_LAST_SLOT = r.slot ∧ (busy → slot = r.slot → t.get SEC_CMD_CTL_BUSY = 0 ∧ t.get SEC_CMD_CTL_STATUS = stOK) ∧
        RegsKept s t [TEN_FAULT_FAULT r.slot, SEC_EVENT_RESET_DONE, SEC_EVENT_LAST_SLOT, MGT_NOTIFY_PENDING, SEC_CMD_CTL_BUSY, SEC_CMD_CTL_STATUS,
          SEC_CMD_CTL_DETAIL] ∧ secOnly t) ∧
      ((r.st ≠ .resetting ∨ tenantStopped s m = false) → Does (.tenantResetDone m) s fun t => t = s)) ∧
    (¬ busy → let up := fun (k v : Nat) => max v ((NMap.find s.mgt.images k).elim 0 Image.svn)
      Does .svnCommit s fun t => t.dev = { s.dev with
          svnMgmt := up 1 s.dev.svnMgmt
          svnMicrocode := up 2 s.dev.svnMicrocode
          svnHbm := up 3 s.dev.svnHbm
          svnDdr5 := up 4 s.dev.svnDdr5
          svnSerdes := up 5 s.dev.svnSerdes } ∧ t.get SEC_CMD_CTL_STATUS = stOK ∧ t = { s with regs := t.regs, dev := t.dev }) ∧
    (∀ v : Word64, let a := s.get SEC_AGENT_SEL_AGENT
      let new := if bit v.toNat 10 then some (v.toNat % 1024) else none
      let was := NMap.find s.sec.agents a
      let held := (NMap.find s.ext.leases a).isSome = true ∨ mapped s a = true
      (was ≠ none → was ≠ new → held → Does (.secAgentDataWrite v) s fun t => t = s) ∧
      ((was = none ∨ was = new ∨ ¬ held) → Does (.secAgentDataWrite v) s fun t => NMap.find t.sec.agents a = new ∧
        OthersKept s.sec.agents t.sec.agents a ∧ (was ≠ new → NMap.find t.err.retention a = none) ∧
        OthersKept s.err.retention t.err.retention a ∧ (was = new → t.err = s.err) ∧ t.regs = s.regs ∧ t.mem = s.mem))

/-- Removal of a tenant (R327 to R330, Table 16.7): TENANT_FENCE raises its epoch, fences its extents and sends PURGE to the holders of its lodged pages,
every 1 ms until they acknowledge, when its moves are aborted and its frames on them released; a holder drops the pages, scrubs their frames and acknowledges; once all has drained the tenant is DRAINED, and
after ERASE and the scrub of its extents it is gone with its counters. -/
def Sys2Proof.Claims.tenantsAreRemoved : Prop :=
  ∀ (s : State) (n : Nat) (r : TenRec),
    let event := fun (t : State) (f : Fld) => Raised s t f ∧ t.get SEC_EVENT_LAST_SLOT = r.slot % 64
    let purge := fun (q : Pkt) (dst ten epoch : Nat) => q.opcode = 0x38 ∧ q.mclass = 4 ∧ q.dst = dst ∧ q.tenant = ten ∧ q.tenEpoch = epoch ∧
      q.addr = s.node * 2 ^ 50 ∧ q.payload = [0#8]
    (s.get SEC_CMD_CTL_BUSY = 0 → slotRec s (s.get SEC_CMD0_SLOT) = some (n, r) → (r.st = .keyless ∨ r.st = .live) →
      (∀ x ∈ s.chn.chans, x.2.tenant ≠ n) → (∀ l ∈ s.eng.launches, l.tenant ≠ n) → s.fab.chunks = [] → s.plc.map = [] → s.plc.moves = [] →
      (∀ x ∈ s.ext.table, x.2.tenant ≠ n) → s.plc.cmd = .none → Does .tenantFence s fun t => let e := (r.cur + 1) % 65536
      Sys2Proof.Claims.tenIs s t n ⟨.fenced, r.slot, e, e⟩ ∧ NMap.find t.sec.purges n = some ⟨[], s.now, true⟩ ∧ t.mem = s.mem ∧ t.fab.tx = s.fab.tx ∧
      Ended s t SEC_CMD_CTL_STATUS SEC_CMD_CTL_DETAIL []) ∧
    (∀ p, p.opcode = 0x38 → p.tenant = n → s.sec.purgeDue = [] →
      let frames := (s.plc.lodgedIn.filter fun l => l.2.owner = p.addr / 2 ^ 50 % 64 && l.2.tenant = n).map Prod.fst
      let floor := (NMap.find s.sec.tenants n).elim 0 TenRec.floor
      let d := (p.tenEpoch + 65536 - floor) % 65536
      Does (.secPurge p) s fun t => (1 ≤ d → d < 32768 → ∃ q, NMap.find t.sec.tenants n = some q ∧ q.floor = p.tenEpoch) ∧
        (∀ f ∈ frames, NMap.find t.plc.lodgedIn f = none ∧ ⟨.hbm, 0, f⟩ ∈ t.plc.scrub) ∧
        (frames ≠ [] → t.sec.purgeDue = [⟨p.src, p.addr / 2 ^ 50 % 64, n, frames.map fun f => ⟨.hbm, 0, f⟩⟩] ∧ t.fab.tx = s.fab.tx) ∧
        (frames = [] → t.sec.purgeDue = [] ∧ ∃ q, Sends s t q ∧ purge q p.src n 0) ∧ t.mem = s.mem ∧ t.regs = s.regs) ∧
    (∀ g, NMap.find s.sec.purges n = some g → NMap.find s.sec.tenants n = some r → let left := g.waits.filter fun k => !s.plc.lost.contains k
      (left ≠ [] → g.sent + 1000000 ≤ s.now → Does (.purgeResend n) s fun t => (∃ qs, t.fab.tx = s.fab.tx ++ qs ∧ qs.length = left.length ∧
          ∀ (i : Nat) (k : Nat) (q : Pkt), left[i]? = some k → qs[i]? = some q → purge q (Config.nodeAgent k % 4096) n r.cur) ∧
        NMap.find t.sec.purges n = some { g with sent := s.now } ∧ t.regs = s.regs ∧ t.mem = s.mem) ∧
      (left ≠ [] → s.now < g.sent + 1000000 → Does (.purgeResend n) s fun t => t = s) ∧
      (left = [] → g.ended = true → Does (.purgeResend n) s fun t => t = s) ∧
      (left = [] → g.ended = false → Does (.purgeResend n) s fun t => NMap.find t.sec.purges n = some { g with ended := true } ∧
        OthersKept s.sec.purges t.sec.purges n ∧ (∀ m ∈ s.plc.moves, pageOf s n m.1 = true → NMap.find t.plc.moves m.1 = none) ∧
        ((∀ m ∈ s.plc.moves, pageOf s n m.1 = false) → ∀ x ∈ s.plc.map, x.2.tier = .remote → pageOf s n x.1 = true →
          .release x.2.holder x.1 ∈ t.plc.notices) ∧ t.mem = s.mem)) ∧
    (∀ p g, p.tenant = n → NMap.find s.sec.purges n = some g → p.opcode = 0x38 → let k := p.addr / 2 ^ 50 % 64
      let rest := g.waits.filter (· ≠ k)
      (k ∈ g.waits → (∃ j ∈ rest, j ∉ s.plc.lost) → Does (.purgeAck p) s fun t => NMap.find t.sec.purges n = some { g with waits := rest } ∧
        OthersKept s.sec.purges t.sec.purges n ∧ t = { s with sec := { s.sec with purges := t.sec.purges } }) ∧
      (k ∈ g.waits → (∀ j ∈ rest, j ∈ s.plc.lost) → Does (.purgeAck p) s fun t => NMap.find t.sec.purges n = some { g with
          waits := rest
          ended := true } ∧ OthersKept s.sec.purges t.sec.purges n ∧ t.mem = s.mem) ∧
      (k ∉ g.waits → Does (.purgeAck p) s fun t => t = s)) ∧
    (NMap.find s.sec.tenants n = some r → r.st = .fenced → tenantDrained s n = true → Does (.tenantDrained n) s fun t =>
      Sys2Proof.Claims.tenIs s t n { r with st := .drained } ∧ NMap.find t.sec.purges n = none ∧ event t SEC_EVENT_FENCE_DONE ∧
      RegsKept s t [SEC_EVENT_FENCE_DONE, SEC_EVENT_LAST_SLOT, MGT_NOTIFY_PENDING] ∧
      t = { s with regs := t.regs, sec := { s.sec with tenants := t.sec.tenants, purges := t.sec.purges } }) ∧
    (NMap.find s.sec.tenants n = some r → (r.st ≠ .fenced ∨ tenantDrained s n = false) → Does (.tenantDrained n) s fun t => t = s) ∧
    (NMap.find s.sec.tenants n = some r → r.st = .erased → (∀ x ∈ s.ext.table, x.2.tenant ≠ n) → NMap.find s.mgt.meters r.slot = none →
      Does (.tenantRemoved n) s fun t => Sys2Proof.Claims.tenIs s t n { r with st := .none } ∧ NMap.find t.dbg.tenCnt n = none ∧
      event t SEC_EVENT_REMOVE_DONE ∧ RegsKept s t [SEC_EVENT_REMOVE_DONE, SEC_EVENT_LAST_SLOT, MGT_NOTIFY_PENDING] ∧
      t = { s with
        regs := t.regs
        sec := { s.sec with tenants := t.sec.tenants }
        dbg := { s.dbg with tenCnt := t.dbg.tenCnt } }) ∧
    (NMap.find s.sec.tenants n = some r → (r.st ≠ .erased ∨ ∃ x ∈ s.ext.table, x.2.tenant = n) → Does (.tenantRemoved n) s fun t => t = s)

/-- UNSEAL of a weight package of one chunk (R325, R326): the member whose identity hash is this device's opens the package key, the key opens
the chunk, and its bytes stand in the extent; a package that names no such member, does not open, or has no place ends with UNSEAL_FAIL and
its detail. -/
def Obligations.WeightPackagesAreUnsealed : Prop :=
  ∀ (s : State) (m : Nat) (r : TenRec) (h b : List Byte), let a := s.get SEC_CMD1_ADDR
    let n := leNat (slice h 2 2)
    let len := leNat (slice h 0x18 8)
    let content := 0x70 + 80 * n
    let member := ((List.range n).map fun i => slice b (0x70 + 80 * i) 80).find? fun x => x.take 32 = idHash s
    let package := fun (x : List Byte) => Config.gcmOpen (wrapKey (slice h 0x30 64) (slice h 8 16) (ascii "halhild weight package"))
      (List.replicate 12 0#8) (b.take 0x68) (x.drop 32)
    let chunk := fun (pk : List Byte) => Config.gcmOpen pk (chunkNonce (slice h 0x20 12) 0) ((Config.sha256 (b.take content)).toList ++ natLe 4 0)
      (rdBytes s.mem (rpaOff a + content) (len + 16))
    let fails := fun (de : Nat) => Does .secUnseal s fun t => t.get SEC_CMD_CTL_STATUS = stPermission ∧ t.get SEC_CMD_CTL_DETAIL = de ∧
      Raised s t SEC_EVENT_UNSEAL_FAIL ∧ t.get SEC_EVENT_LAST_SLOT = r.slot % 64 ∧ t.mem = s.mem ∧
      RegsKept s t [SEC_CMD_CTL_STATUS, SEC_CMD_CTL_DETAIL, SEC_EVENT_UNSEAL_FAIL, SEC_EVENT_LAST_SLOT, MGT_NOTIFY_PENDING]
    s.get SEC_CMD_CTL_BUSY = 0 → slotRec s (s.get SEC_CMD0_SLOT) = some (m, r) → r.st = .live → readable s a 0x70 = some h →
    leNat (h.take 2) = 1 → 1 ≤ n → n ≤ 256 → 1 ≤ len → len ≤ 65536 → readable s a (content + len + 16) = some b →
    (member = none → fails 4) ∧
    (∀ x, member = some x → package x = none → fails 5) ∧
    (∀ x pk, member = some x → package x = some pk → unsealDest s m len = none → fails 6) ∧
    (∀ x pk dst, member = some x → package x = some pk → unsealDest s m len = some dst →
      (chunk pk = none → fails 5) ∧
      (∀ plain, chunk pk = some plain → plain.length = len → (∀ l ∈ linesOf dst len, (frameAt s (128 * l)).tier ≠ .remote) →
        (∀ e ∈ s.ext.table, e.2.mirrored = false) → Does .secUnseal s fun t =>
        (∀ q, rdByte t.mem q = if dst ≤ q ∧ q < dst + len then plain.getD (q - dst) 0#8 else rdByte s.mem q) ∧
        Raised s t SEC_EVENT_UNSEAL_DONE ∧ t.get SEC_EVENT_LAST_SLOT = r.slot % 64 ∧
        Ended s t SEC_CMD_CTL_STATUS SEC_CMD_CTL_DETAIL [SEC_EVENT_UNSEAL_DONE, SEC_EVENT_LAST_SLOT, MGT_NOTIFY_PENDING]))

/-- An SPDM message answered on its transport, sealed where it stands in a session (R322). -/
def Sys2Proof.Claims.spdmSent (s t : State) (m : SpdmIn) (b : List Byte) : Prop :=
  let l := match m.sess with
    | some n => Config.sessionSeal n false b
    | none => b
  match m.via with
  | some p => Sends s t { replyTo s p 0x39 stOK with
      len := l.length
      payload := l } ∧ t.mgt = s.mgt
  | none => t.fab = s.fab ∧ (s.get MGT_ETH_LINK_UP ≠ 0 → ∃ mac, t.mgt.eth = s.mgt.eth ++ [(mac, mgtFrame s 0x06 l)])

/-- SPDM and the rack-admin proof (R322, R399, R419 to R421, Tables 16.4 and 22.5): a request of the responder is answered by its message, in a session
that is heard of; KEY_EXCHANGE opens a session, or is answered Busy with eight held; FINISH makes it stand, END_SESSION, a missed
heartbeat and the eighth failed proof end it; AUTH_NONCE draws a fresh nonce, and PROVE with it makes the session the rack admin's or is refused. -/
def Obligations.SpdmSessionsAndProof : Prop :=
  ∀ (s : State) (m : SpdmIn), let code := leNat (slice m.data 1 1)
    let hears := fun (t : State) => ∀ n, m.sess = some n → NMap.find t.sec.sess n = (NMap.find s.sec.sess n).map fun c => { c with heard := s.now }
    let others := fun (t : State) => ∀ n, m.sess ≠ some n → NMap.find t.sec.sess n = NMap.find s.sec.sess n
    let answers := fun (t : State) => Sys2Proof.Claims.spdmSent s t m (Config.spdmResponse s.fresh m.data) ∧ t.regs = s.regs ∧ t.mem = s.mem
    let one := fun (t : State) (n : Nat) (c : Session) => NMap.find t.sec.sess n = some c ∧ OthersKept s.sec.sess t.sec.sess n
    (∀ mk k, (mk, k) ∈ ([(.getVersion, 0x84), (.getCapabilities, 0xe1), (.negotiateAlgorithms, 0xe3), (.getDigests, 0x81), (.getCertificate, 0x82),
      (.spdmChallenge, 0x83), (.getMeasurements, 0xe0), (.keyUpdate, 0xe9)] : List ((SpdmIn → Instr) × Nat)) →
      (spdmOn s m k = true → Does (mk m) s fun t => answers t ∧ hears t ∧ others t ∧ t.fresh = s.fresh + 1) ∧
      ((code ≠ k ∨ spdmOn s m k = false) → Does (mk m) s fun t => t = s)) ∧
    (spdmOn s m 0xe8 = true → m.sess ≠ none → Does (.spdmHeartbeat m) s fun t => answers t ∧ hears t ∧ others t) ∧
    (m.sess = none → Does (.spdmHeartbeat m) s fun t => t = s) ∧
    (spdmOn s m 0xe4 = true → s.sec.sess.length < 8 → let mine := (s.sec.lastSess + 1) % 65536
      Does (.keyExchange m) s fun t => answers t ∧ one t (leNat (slice m.data 4 2) + 65536 * mine) ⟨false, none, [], [], 0, false, 0, s.now⟩ ∧
        t.sec.lastSess = mine) ∧
    (spdmOn s m 0xe4 = true → 8 ≤ s.sec.sess.length → Does (.keyExchange m) s fun t => t.sec = s.sec ∧ t.regs = s.regs ∧
      Sys2Proof.Claims.spdmSent s t m (m.data.take 1 ++ [0x7f#8, 0x03#8, 0#8])) ∧
    (∀ n c, m.sess = some n → NMap.find s.sec.sess n = some c → spdmOn s m 0xe5 = true → Does (.spdmFinish m) s fun t =>
      answers t ∧ one t n { c with up := true, heard := s.now }) ∧
    (∀ n, m.sess = some n → spdmOn s m 0xec = true → Does (.endSession m) s fun t => answers t ∧ NMap.find t.sec.sess n = none ∧
      OthersKept s.sec.sess t.sec.sess n) ∧
    (m.sess = none → Does (.spdmFinish m) s (· = s) ∧ Does (.endSession m) s (· = s)) ∧
    (∀ n, Does (.sessionHeartbeatTimeout n) s fun t => NMap.find t.sec.sess n = none ∧ OthersKept s.sec.sess t.sec.sess n ∧
      t = { s with sec := { s.sec with sess := t.sec.sess } }) ∧
    (∀ n c, NMap.find s.sec.sess n = some c → c.up = true →
      let proved := proofOk s n c
      (Does (.authNonceRead n) s fun t => one t n { c with nonce := some ((List.range 4).map fun i => (Config.freeValue (s.fresh + i)).toNat) } ∧
        t.fresh = s.fresh + 4 ∧ t.regs = s.regs) ∧
      (proved = true → Does (.authProve n) s fun t => one t n { c with nonce := none, status := stOK, admin := true } ∧
        t = { s with sec := { s.sec with sess := t.sec.sess } }) ∧
      (proved = false → c.fails < 7 → Does (.authProve n) s fun t =>
        one t n { c with nonce := none, status := stPermission, fails := c.fails + 1 } ∧ t = { s with sec := { s.sec with sess := t.sec.sess } }) ∧
      (proved = false → 7 ≤ c.fails → Does (.authProve n) s fun t => NMap.find t.sec.sess n = none ∧ OthersKept s.sec.sess t.sec.sess n ∧
        t = { s with sec := { s.sec with sess := t.sec.sess } }) ∧
      (c.nonce = none ∨ s.get GLB_ADMIN_CTL_LOCK = 0 → proved = false)) ∧
    (∀ n, (∀ c, NMap.find s.sec.sess n = some c → c.up = false) → Does (.authNonceRead n) s (· = s) ∧ Does (.authProve n) s (· = s))

/-- The statements above: tenant commands change their record, tenants are removed. -/
def Obligations.TenantsAreKeyedResetAndRemoved : Prop :=
  Sys2Proof.Claims.tenantCommandsChangeTheirRecord ∧
  Sys2Proof.Claims.tenantsAreRemoved

/-! The mirror pair and ownership tokens (chapter 17). -/

/-- The 64 bytes of a pair or ownership message of this node (Table 17.2). -/
def Sys2Proof.Claims.pairBody (s : State) (msg result subject epoch gen time id : Nat) : List Byte :=
  natLe 1 0xe7 ++ natLe 1 msg ++ natLe 1 result ++ natLe 1 (if s.mir.synced then 1 else 0) ++ natLe 2 (s.get MIR_CFG_SVC_AGENT) ++
    natLe 2 subject ++ natLe 4 epoch ++ natLe 4 gen ++ natLe 8 time ++ natLe 8 (s.get MIR_SEQ_WRITE_SEQ) ++ natLe 8 id ++
    List.replicate 24 0#8

/-- A message handed to the switch for an agent in a MGMT packet, with the next PSN toward it (R281, R339). -/
def Sys2Proof.Claims.tells (s t : State) (dst : Nat) (body : List Byte) : Prop :=
  let n := NMap.getD s.fab.psn (8 * dst) 0
  Sends s t { request s 0x38 4 dst 0 with
    len := 64
    payload := body
    psn := n
    srcInc := s.get FAB_CFG_INCARN } ∧
  NMap.find t.fab.psn (8 * dst) = some ((n + 1) % 65536) ∧ OthersKept s.fab.psn t.fab.psn (8 * dst) ∧
  t.fab = { s.fab with tx := t.fab.tx, psn := t.fab.psn }

/-- A packet that carries a pair or ownership message of one kind (R339). -/
def Sys2Proof.Claims.hears (p : Pkt) (msg : Nat) : Prop :=
  p.opcode = 0x38 ∧ leNat (p.payload.take 1) = 0xe7 ∧ leNat (slice p.payload 1 1) = msg

/-- The lease, the fence and the loss of a standby (R338, R340): a serving node renews every RENEW_MS, a grant of a TIME it sent is its anchor, and
at anchor plus FENCE_MS it is FENCED, with its held writes completed DEVICE_ERROR 1 ms later; an active whose standby does not acknowledge asks
for SOLO once, and a grant of the next epoch makes it SOLO and completes its held writes. -/
def Sys2Proof.Claims.theServingNodeKeepsItsLease : Prop :=
  ∀ (s : State) (p : Pkt), let st := s.get MIR_STATUS_STATE
    let epoch := s.get MIR_STATUS_SVC_EPOCH
    let wit := s.get MIR_CFG_WITNESS_AGENT
    let tells := fun (t : State) (msg time : Nat) =>
      Sys2Proof.Claims.tells s t wit (Sys2Proof.Claims.pairBody s msg 0 0 epoch 0 time 0)
    let due := s.mir.renewAt + 1000000 * s.get MIR_TIMERS_RENEW_MS ≤ s.now
    let time := leNat (slice p.payload 0x10 8)
    let grant := Sys2Proof.Claims.hears p 2 ∧ p.src = wit ∧ (st = 1 ∨ st = 2) ∧ leNat (slice p.payload 2 1) = stOK ∧ time ∈ s.mir.renewals
    let tooFar := (st = 1 ∨ st = 2) ∧ s.get MIR_LEASE_ANCHOR + 1000000 * s.get MIR_TIMERS_FENCE_MS ≤ s.now
    let fatal : ErrIn := { cls := 2, unitType := utExtent, unitIndex := 0, cause := 0x0006, status := stDevErr, tenant := none, agent := wit,
                           addr := none, info := s.get MIR_LEASE_ANCHOR }
    let lost : ErrIn := { cls := 1, unitType := utExtent, unitIndex := 0, cause := 0x0006, status := stDevErr, tenant := none,
                          agent := s.get MIR_CFG_PEER_AGENT, addr := none, info := 0 }
    let late := st = 1 ∧ s.mir.soloAsked = false ∧ ∃ h ∈ s.mir.held, h.2.since + 100000 * s.get MIR_TIMERS_MIRROR_TMO_100US ≤ s.now
    let granted := leNat (slice p.payload 8 4)
    let solo := Sys2Proof.Claims.hears p 6 ∧ p.src = wit ∧ st = 1 ∧ s.mir.soloAsked = true ∧ granted = (epoch + 1) % 2 ^ 32
    ((st = 1 ∨ st = 2) → due → Does .renewTimer s fun t => tells t 1 s.now ∧ s.now ∈ t.mir.renewals ∧ (∀ r ∈ s.mir.renewals, r ∈ t.mir.renewals) ∧
      t = { s with
        mir := { s.mir with
          renewals := t.mir.renewals
          renewAt := s.now }
        fab := t.fab }) ∧
    (¬ ((st = 1 ∨ st = 2) ∧ due) → Does .renewTimer s fun t => t = s) ∧
    (grant → Does (.renewGrant p) s fun t => t.get MIR_LEASE_ANCHOR = time ∧ RegsKept s t [MIR_LEASE_ANCHOR] ∧
      (∀ r, r ∈ t.mir.renewals ↔ r ∈ s.mir.renewals ∧ time < r) ∧
      t = { s with regs := t.regs, mir := { s.mir with renewals := t.mir.renewals } }) ∧
    (¬ grant → Does (.renewGrant p) s fun t => t = s) ∧
    (tooFar → Plain s fatal → Does .selfFence s fun t => t.get MIR_STATUS_STATE = 5 ∧ Raised s t MIR_EVENT_FENCED ∧ Reports s t fatal ∧
      RegsKept s t ([MIR_STATUS_STATE, MIR_EVENT_FENCED] ++ reportRegs s none) ∧
      t.mir = { s.mir with
        fencedAt := some s.now
        synced := false
        copyPos := none } ∧
      t = { s with
        regs := t.regs
        mir := t.mir
        err := t.err
        dbg := t.dbg }) ∧
    (¬ tooFar → Does .selfFence s fun t => t = s) ∧
    (∀ a, s.mir.fencedAt = some a → (s.now < a + 1000000 → Does .selfFenceDrainEnd s fun t => t = s) ∧
      (∀ k h q gen, a + 1000000 ≤ s.now → s.mir.held = [(k, h)] → h.forWhom = .reply q gen → (∀ d ∈ s.err.waitDup, answers q d = false) →
        Does .selfFenceDrainEnd s fun t => Sends s t { q with
          status := stDevErr
          len := 0
          payload := [] } ∧ t.mir = { s.mir with
            held := []
            fencedAt := none } ∧
        (∀ r, NMap.find t.ext.inflight r = if r = gen ∧ NMap.getD s.ext.inflight gen 0 ≤ 1 then none else
          if r = gen then some (NMap.getD s.ext.inflight gen 0 - 1) else NMap.find s.ext.inflight r) ∧
        (∀ r ∈ t.fab.reqs, r ∈ s.fab.reqs ∧ ∀ n, r.2.purpose ≠ .mirror n) ∧ t.regs = s.regs ∧ t.mem = s.mem) ∧
      (a + 1000000 ≤ s.now → s.mir.held = [] → Does .selfFenceDrainEnd s fun t => t.mir = { s.mir with fencedAt := none } ∧
        (∀ r ∈ t.fab.reqs, r ∈ s.fab.reqs ∧ ∀ n, r.2.purpose ≠ .mirror n) ∧ (∀ w ∈ t.fab.waitTag, w ∈ s.fab.waitTag ∧ ∀ n, w.2 ≠ .mirror n) ∧
        t = { s with
          mir := t.mir
          fab := { s.fab with reqs := t.fab.reqs, waitTag := t.fab.waitTag } })) ∧
    (s.mir.fencedAt = none → Does .selfFenceDrainEnd s fun t => t = s) ∧
    (late → Plain s lost → Does .mirrorTimeout s fun t => tells t 5 0 ∧ Reports s t lost ∧ Raised s t MIR_EVENT_PEER_LOST ∧
      RegsKept s t ([MIR_EVENT_PEER_LOST] ++ reportRegs s none) ∧ t.mir = { s.mir with soloAsked := true } ∧
      t = { s with
        regs := t.regs
        mir := t.mir
        fab := t.fab
        err := t.err
        dbg := t.dbg }) ∧
    (¬ late → Does .mirrorTimeout s fun t => t = s) ∧
    (solo → (∀ h ∈ s.mir.held, h.2.forWhom = .nobody) → Does (.soloGrant p) s fun t => t.get MIR_STATUS_STATE = 2 ∧
      t.get MIR_STATUS_SVC_EPOCH = granted ∧ t.get MIR_SEQ_WRITE_SEQ = 0 ∧ Raised s t MIR_EVENT_SOLO ∧
      RegsKept s t [MIR_STATUS_STATE, MIR_STATUS_SVC_EPOCH, MIR_SEQ_WRITE_SEQ, MIR_EVENT_SOLO, MGT_NOTIFY_PENDING] ∧
      t.mir = { s.mir with
        held := []
        soloAsked := false
        synced := false
        copyPos := none } ∧
      (∀ r ∈ t.fab.reqs, r ∈ s.fab.reqs ∧ ∀ n, r.2.purpose ≠ .mirror n) ∧
      t = { s with
        regs := t.regs
        mir := t.mir
        fab := { s.fab with reqs := t.fab.reqs, waitTag := t.fab.waitTag } }) ∧
    (∀ k h q gen, solo → s.mir.held = [(k, h)] → h.forWhom = .reply q gen → (∀ d ∈ s.err.waitDup, answers q d = false) →
      Does (.soloGrant p) s fun t => Sends s t q ∧ t.mir.held = [] ∧ t.get MIR_STATUS_STATE = 2) ∧
    (¬ solo → Does (.soloGrant p) s fun t => t = s)

/-- Forming a pair, its heartbeats and a takeover (R332 to R334, R336, R339, R341 to R343, R345, R346, Table 17.3): FORM_ACTIVE and FORM_STANDBY
start a pair and BREAK ends it; a standby that hears nothing for DETECT_MS asks for the takeover every 1 ms, and a grant of the next epoch makes
it ACTIVE with its copy as its memory and every lease restarted; RECOVER_DONE ends COH_RECOVER. -/
def Sys2Proof.Claims.pairsFormAndTakeOver : Prop :=
  ∀ (s : State) (p : Pkt), let st := s.get MIR_STATUS_STATE
    let epoch := s.get MIR_STATUS_SVC_EPOCH
    let busy := s.get MIR_CMD_BUSY ≠ 0
    let ready := fun (n : Nat) => ¬ busy ∨ s.mir.forming = n
    let formed := fun (t : State) (x de : Nat) (l : List Fld) => t.get MIR_CMD_BUSY = 0 ∧ t.get MIR_CMD_STATUS = x ∧ t.get MIR_CMD_DETAIL = de ∧
      RegsKept s t ([MIR_CMD_BUSY, MIR_CMD_STATUS, MIR_CMD_DETAIL] ++ l)
    let turned := fun (i : Instr) (de : Nat) => Does i s fun t => formed t stPermission de [] ∧
      t = { s with regs := t.regs, mir := { s.mir with forming := 0 } }
    let refused := fun (i : Instr) (de : Nat) => Does i s fun t => EndedRefused s t MIR_CMD_STATUS MIR_CMD_DETAIL de
    let short := fun (c : Nat) => ∃ x ∈ s.ext.table, x.2.mirrored = true ∧ c < x.2.base / 2097152 + x.2.length
    let noReqs := fun (t : State) => t.fab = { s.fab with reqs := t.fab.reqs, waitTag := t.fab.waitTag } ∧
      ∀ r ∈ t.fab.reqs, r ∈ s.fab.reqs ∧ ∀ n, r.2.purpose ≠ .mirror n
    (∀ cap g, let c := Instr.formActive cap g
      (busy → s.mir.forming ≠ 1 → Does c s fun t => t = s) ∧
      (ready 1 → st ≠ 0 → turned c 1) ∧ (ready 1 → st = 0 → (cap = none ∨ g = false) → turned c 2) ∧
      (∀ n, ready 1 → st = 0 → cap = some n → g = true → (short n → turned c 6) ∧
        (¬ short n → n < 2 ^ 24 → Does c s fun t => formed t stOK 0 [MIR_STATUS_STATE, MIR_PROGRESS_PEER_CAP, MIR_LEASE_ANCHOR] ∧
          t.get MIR_STATUS_STATE = 1 ∧ t.get MIR_PROGRESS_PEER_CAP = n ∧ t.get MIR_LEASE_ANCHOR = s.now % 2 ^ 64 ∧
          t = { s with
            regs := t.regs
            mir := { s.mir with
              forming := 0
              renewals := []
              renewAt := s.now
              synced := false
              soloAsked := false } }))) ∧
    (∀ peer, let c := Instr.formStandby peer
      (busy → s.mir.forming ≠ 2 → Does c s fun t => t = s) ∧
      (ready 2 → st ≠ 0 → st ≠ 5 → turned c 1) ∧ (ready 2 → (st = 0 ∨ st = 5) → peer = none → turned c 2) ∧
      (∀ q, ready 2 → (st = 0 ∨ st = 5) → peer = some q → q.exts = [] → (∀ x ∈ s.ext.table, x.2.mirrored = false) → q.epoch < 2 ^ 32 →
        let out := fun (t : State) => formed t stOK 0 [MIR_STATUS_STATE, MIR_STATUS_SVC_EPOCH, MIR_SEQ_WRITE_SEQ, MIR_STATUS_COH_RECOVER] ∧
          t.get MIR_STATUS_STATE = 4 ∧ t.get MIR_STATUS_SVC_EPOCH = q.epoch ∧ t.get MIR_SEQ_WRITE_SEQ = 0 ∧ t.get MIR_STATUS_COH_RECOVER = 0 ∧
          t.mir = { s.mir with
            forming := 0
            cipher := []
            recs := t.mir.recs
            fencedAt := none
            synced := false
            peerSeen := s.now
            beatAt := s.now
            denied := false } ∧
          t = { s with regs := t.regs, mir := t.mir, dir := { s.dir with regions := t.dir.regions } }
        (q.regs = [] → q.toks = [] → Does c s fun t => out t ∧ t.mir.recs = s.mir.recs ∧ t.dir = s.dir) ∧
        (∀ k, q.regs = [] → q.toks = [k] → Does c s fun t => out t ∧ NMap.find t.mir.recs k.stateId = some k ∧
          OthersKept s.mir.recs t.mir.recs k.stateId ∧ t.dir = s.dir) ∧
        (∀ r, q.regs = [r] → q.toks = [] → Does c s fun t => out t ∧ OthersKept s.dir.regions t.dir.regions r.id ∧
          ∃ g, NMap.find t.dir.regions r.id = some g ∧ g.mode = RMode.ofCode r.mode ∧ g.grantE = r.grantE ∧ g.hold = r.hold ∧
            g.curVersion = r.curVersion ∧ g.tenant = r.tenant ∧ g.slots.length = r.slots.length)) ∧
      (∀ q e, ready 2 → (st = 0 ∨ st = 5) → peer = some q → q.exts = [e] → q.regs = [] → (∀ x ∈ s.ext.table, x.2.mirrored = false) →
        Does c s fun t => NMap.find t.ext.table e.id = some
          { tenant := e.tenant, st := .active, mode := RMode.ofCode e.mode, mirrored := true, rights := e.rights, base := e.base,
            length := e.length, holder := e.holder, createTime := s.now, fenceTime := 0, fenceGen := 0, regionId := e.region, cause := 0 } ∧
          OthersKept s.ext.table t.ext.table e.id ∧ t.get MIR_STATUS_STATE = 4 ∧ t.mem = s.mem ∧
          (e.holder ≠ 0 → (NMap.find t.ext.leases e.holder).isSome = true)) ∧
      (∀ q i x, ready 2 → (st = 0 ∨ st = 5) → peer = some q → q.exts = [] → q.regs = [] → s.ext.table = [(i, x)] → x.mirrored = true →
        Does c s fun t => NMap.find t.ext.table i = none ∧ t.get MIR_STATUS_STATE = 4 ∧
          ∀ o, rdByte t.mem o = if x.has o then 0#8 else rdByte s.mem o)) ∧
    (busy → Does .mirBreak s fun t => t = s) ∧ (¬ busy → st = 0 → refused .mirBreak 1) ∧
    (¬ busy → st ≠ 0 → s.mir.cipher = [] → (∀ h ∈ s.mir.held, h.2.forWhom = .nobody) → Does .mirBreak s fun t =>
      t.get MIR_STATUS_STATE = 0 ∧ Ended s t MIR_CMD_STATUS MIR_CMD_DETAIL [MIR_STATUS_STATE] ∧ noReqs t ∧
      t = { s with
        regs := t.regs
        fab := t.fab
        mir := { s.mir with
          held := []
          synced := false
          soloAsked := false
          copyPos := none
          fencedAt := none
          cmpNext := [] } }) ∧
    (busy → Does .recoverDone s fun t => t = s) ∧ (¬ busy → s.get MIR_STATUS_COH_RECOVER = 0 → refused .recoverDone 1) ∧
    (¬ busy → s.get MIR_STATUS_COH_RECOVER ≠ 0 → Does .recoverDone s fun t => t.get MIR_STATUS_COH_RECOVER = 0 ∧ Raised s t MIR_EVENT_COH_RECOVER_DONE ∧
      Ended s t MIR_CMD_STATUS MIR_CMD_DETAIL [MIR_STATUS_COH_RECOVER, MIR_EVENT_COH_RECOVER_DONE, MGT_NOTIFY_PENDING] ∧
      t = { s with regs := t.regs }) ∧
    (let deny := Sys2Proof.Claims.hears p 7 ∧ p.src = s.get MIR_CFG_WITNESS_AGENT ∧ st = 3 ∧ leNat (slice p.payload 2 1) = stEpoch
     (deny → Does (.mirDeny p) s fun t => Raised s t MIR_EVENT_PEER_LOST ∧ RegsKept s t [MIR_EVENT_PEER_LOST, MGT_NOTIFY_PENDING] ∧
        t = { s with regs := t.regs, mir := { s.mir with denied := true } }) ∧
      (¬ deny → Does (.mirDeny p) s fun t => t = s)) ∧
    (let beat := Sys2Proof.Claims.hears p 8 ∧ p.src = s.get MIR_CFG_PEER_AGENT
     (beat → (st = 1 ∨ st = 2) → Does (.mirHeartbeat p) s fun t =>
        Sys2Proof.Claims.tells s t p.src (Sys2Proof.Claims.pairBody s 8 0 0 epoch 0 0 0) ∧ t = { s with fab := t.fab }) ∧
      (beat → (st = 3 ∨ st = 4) → Does (.mirHeartbeat p) s fun t => t = { s with mir := { s.mir with
        peerSeen := s.now
        denied := false } }) ∧
      (¬ (beat ∧ (st = 1 ∨ st = 2 ∨ st = 3 ∨ st = 4)) → Does (.mirHeartbeat p) s fun t => t = s)) ∧
    (let due := st = 3 ∧ s.mir.beatAt + 100000 * s.get MIR_TIMERS_HB_100US ≤ s.now
     (due → Does .heartbeatTimer s fun t =>
        Sys2Proof.Claims.tells s t (s.get MIR_CFG_PEER_AGENT) (Sys2Proof.Claims.pairBody s 8 0 0 epoch 0 0 0) ∧
        t = { s with fab := t.fab, mir := { s.mir with beatAt := s.now } }) ∧
      (¬ due → Does .heartbeatTimer s fun t => t = s)) ∧
    (let due := st = 3 ∧ s.mir.peerSeen + 1000000 * s.get MIR_TIMERS_DETECT_MS ≤ s.now ∧ s.mir.denied = false ∧ s.mir.takeAt + 1000000 ≤ s.now
     (due → Does .detectTimer s fun t => Raised s t MIR_EVENT_PEER_LOST ∧ RegsKept s t [MIR_EVENT_PEER_LOST, MGT_NOTIFY_PENDING] ∧
        Sys2Proof.Claims.tells s t (s.get MIR_CFG_WITNESS_AGENT) (Sys2Proof.Claims.pairBody s 3 0 0 epoch 0 0 0) ∧
        t = { s with
          regs := t.regs
          fab := t.fab
          mir := { s.mir with takeAt := s.now } }) ∧
      (¬ due → Does .detectTimer s fun t => t = s)) ∧
    (let granted := leNat (slice p.payload 8 4)
      let term := s.get EXT_CFG_DEFAULT_TERM_MS
      let take := Sys2Proof.Claims.hears p 4 ∧ p.src = s.get MIR_CFG_WITNESS_AGENT ∧ (st = 3 ∨ st = 5) ∧ granted = (epoch + 1) % 2 ^ 32
      let serves := fun (t : State) => t.get MIR_STATUS_STATE = 1 ∧ t.get MIR_STATUS_SVC_EPOCH = granted ∧ t.get MIR_SEQ_WRITE_SEQ = 0 ∧
        Raised s t MIR_EVENT_TAKEOVER ∧ t.get MIR_STATUS_COH_RECOVER = 1 ∧ t.get MIR_LEASE_ANCHOR = leNat (slice p.payload 0x10 8) ∧
        RegsKept s t [MIR_STATUS_STATE, MIR_STATUS_SVC_EPOCH, MIR_SEQ_WRITE_SEQ, MIR_EVENT_TAKEOVER, MIR_STATUS_COH_RECOVER, MIR_LEASE_ANCHOR,
          MGT_NOTIFY_PENDING] ∧
        (∀ a, NMap.find t.ext.leases a = (NMap.find s.ext.leases a).map fun _ => (⟨.held, s.now + 1000000 * term, term, 0⟩ : Lease)) ∧
        (∀ i, NMap.find t.ext.table i = (NMap.find s.ext.table i).map fun x => if x.st = .grace then { x with st := .active } else x) ∧
        t.dir = { s.dir with
          entries := []
          holds := [] } ∧
        t.fab = { s.fab with
          expect := []
          adopt := true } ∧
        t.mir = { s.mir with
          cipher := []
          synced := false
          soloAsked := false
          copyPos := none
          fencedAt := none
          renewals := [] }
      (take → s.mir.cipher = [] → Does (.takeoverGrant p) s fun t => serves t ∧
        t = { s with
          regs := t.regs
          ext := { s.ext with leases := t.ext.leases, table := t.ext.table }
          dir := t.dir
          fab := t.fab
          mir := t.mir }) ∧
      (∀ l c i x, take → s.mir.cipher = [(l, c)] → extAt s (128 * l) = some (i, x) → c.poison = false →
        let plain := Config.xtsDecrypt (NMap.getD s.sec.keys x.tenant []) (i * 2 ^ 32 + (128 * l - x.base) / 128) (fitBytes 128 c.data)
        Does (.takeoverGrant p) s fun t => serves t ∧ (∀ k, (h : k < 128) → rdByte t.mem (128 * l + k) = plain[k]) ∧ MemKept s t (128 * l) 128) ∧
      (¬ take → Does (.takeoverGrant p) s fun t => t = s))

/-- Resynchronisation and the compare (R346, R347): the serving node copies its mirrored extents' lines in offset order, passing over one that
a write is on, with BLOCKS_LEFT as the blocks to go; then the peer is STANDBY. Equal checksums of a block change nothing else; unequal ones of
two good copies are counted, set DIVERGED, and the block is sent again; a block that a write raced is taken up again. -/
def Obligations.MirrorCopiesResynchronise : Prop :=
  ∀ (s : State), let st := s.get MIR_STATUS_STATE
    let on := st = 1 ∨ st = 2
    let left := fun (t : State) (n : Nat) => t.get MIR_PROGRESS_BLOCKS_LEFT = n % 2 ^ 24
    (∀ b, ¬ on → Does (.resyncLineCopy b) s fun t => t = s) ∧
    (on → s.mir.copyPos = none → Does (.resyncLineCopy false) s fun t => t = s) ∧
    (∀ (b : Bool) a, on → (if b then some 0 else s.mir.copyPos) = some a →
      let own := [MIR_PROGRESS_BLOCKS_LEFT] ++ (if b then [MIR_STATUS_STATE] else [])
      let began := fun (t : State) (pos : Nat) => RegsKept s t own ∧ (b = true → t.get MIR_STATUS_STATE = 1) ∧
        t.mir = { s.mir with
          copyPos := some pos
          synced := if b then false else s.mir.synced
          soloAsked := if b then false else s.mir.soloAsked }
      (nextMirLine s a = none → Does (.resyncLineCopy b) s fun t => left t 0 ∧ began t a ∧ t = { s with regs := t.regs, mir := t.mir }) ∧
      (∀ line, nextMirLine s a = some line → lineBusy s line = true → Does (.resyncLineCopy b) s fun t => left t (blocksLeft s line) ∧
        began t a ∧ t = { s with regs := t.regs, mir := t.mir }) ∧
      (∀ line i x tag, nextMirLine s a = some line → lineBusy s line = false → extAt s (128 * line) = some (i, x) →
        freeTag s (s.get MIR_CFG_PEER_AGENT) = some tag → Does (.resyncLineCopy b) s fun t =>
        let q := { plWrOf s x.tenant (128 * line) with
          tag := tag
          psn := NMap.getD s.fab.psn (8 * s.get MIR_CFG_PEER_AGENT + homeTile s (128 * line) % 8) 0
          srcInc := s.get FAB_CFG_INCARN }
        Sends s t q ∧ NMap.find t.fab.reqs (4096 * s.get MIR_CFG_PEER_AGENT + tag) = some ⟨q, s.now, 0, .writeBack line⟩ ∧
        OthersKept s.fab.reqs t.fab.reqs (4096 * s.get MIR_CFG_PEER_AGENT + tag) ∧ began t (line + 1) ∧
        left t ((nextMirLine s (line + 1)).elim 0 (blocksLeft s)) ∧
        t = { s with
          regs := t.regs
          mir := t.mir
          fab := { s.fab with tx := t.fab.tx, reqs := t.fab.reqs, psn := t.fab.psn } })) ∧
    (st = 4 → Does .resyncDone s fun t => t.get MIR_STATUS_STATE = 3 ∧ Raised s t MIR_EVENT_RESYNC_DONE ∧
      RegsKept s t [MIR_STATUS_STATE, MIR_EVENT_RESYNC_DONE, MGT_NOTIFY_PENDING] ∧
      t = { s with regs := t.regs, mir := { s.mir with peerSeen := s.now } }) ∧
    (∀ a, on → s.mir.copyPos = some a → nextMirLine s a = none → Does .resyncDone s fun t => t = { s with mir := { s.mir with
      copyPos := none
      synced := true } }) ∧
    (st ≠ 4 → (¬ on ∨ s.mir.copyPos = none ∨ ∃ a, s.mir.copyPos = some a ∧ nextMirLine s a ≠ none) → Does .resyncDone s fun t => t = s) ∧
    (∀ sum raced bad, let c := Instr.mirrorCompareBlock sum raced bad
      let comparing := s.get MIR_TIMERS_COMPARE_GBPS ≠ 0 ∧ st = 1 ∧ s.mir.synced = true
      (¬ comparing → Does c s fun t => t = s) ∧
      (∀ b rest, comparing → s.mir.cmpNext = b :: rest →
        let at_ := fun (t : State) (l : List Nat) => t.mir = { s.mir with cmpNext := l }
        let good := ∀ l, 16384 * b ≤ l → l < 16384 * b + 16384 → poisonedIn s (128 * l) 128 = false
        (raced = true → rest ≠ [] → Does c s fun t => at_ t (rest ++ [b]) ∧ t = { s with mir := t.mir }) ∧
        (raced = false → bad = false → good → blockSum s b = sum → Does c s fun t => at_ t rest ∧ t = { s with mir := t.mir }) ∧
        (raced = false → bad = false → good → blockSum s b ≠ sum → Does c s fun t => at_ t rest ∧ Counts s t MIR_CNT_DIVERGED 1 ∧
          Raised s t MIR_EVENT_DIVERGED ∧ RegsKept s t [MIR_CNT_DIVERGED, MIR_EVENT_DIVERGED, MGT_NOTIFY_PENDING] ∧
          (∃ qs, t.fab.tx = s.fab.tx ++ qs ∧ ∀ q ∈ qs, q.opcode = 0x21 ∧ q.dst = s.get MIR_CFG_PEER_AGENT) ∧
          t = { s with
            regs := t.regs
            mir := t.mir
            fab := { s.fab with
              tx := t.fab.tx
              reqs := t.fab.reqs
              psn := t.fab.psn
              waitTag := t.fab.waitTag } })))

/-- Ownership tokens (R349 to R351, Table 17.4): a slot is bound without the token and its home asked; OWN_RELEASE drops HOLD and, once the range has
drained, hands the token on; OWN_CLAIM asks for it and ends with the home's answer; a home moves a record's owner only on the current generation,
and at its deadline gives it back with the next one. -/
def Obligations.OwnershipIsHandedOver : Prop :=
  ∀ (s : State) (p : Pkt), let slot := s.get MIR_OWN_SEL_SLOT
    let epoch := s.get MIR_STATUS_SVC_EPOCH
    let busy := s.get MIR_CMD_BUSY ≠ 0
    let reg := fun (n : Nat) => NMap.getD s.mir.staged (4 * slot + n) 0
    let refused := fun (i : Instr) (de : Nat) => Does i s fun t => EndedRefused s t MIR_CMD_STATUS MIR_CMD_DETAIL de
    let ended := fun (t : State) => Ended s t MIR_CMD_STATUS MIR_CMD_DETAIL []
    let tells := fun (t : State) (dst msg subject gen id : Nat) =>
      Sys2Proof.Claims.tells s t dst (Sys2Proof.Claims.pairBody s msg 0 subject epoch gen 0 id)
    let slotIs := fun (t : State) (n : Nat) (o : OwnSlot) => NMap.find t.mir.slots n = some o ∧ OthersKept s.mir.slots t.mir.slots n
    let msgIs := fun (t : State) (n : Nat) (m : Option OwnMsg) => NMap.find t.mir.msgs n = m ∧ OthersKept s.mir.msgs t.mir.msgs n
    let mirOnly := fun (t : State) => t.mir = { s.mir with slots := t.mir.slots, msgs := t.mir.msgs }
    let only := fun (t : State) => mirOnly t ∧ t = { s with
      regs := t.regs
      mir := t.mir
      fab := { s.fab with tx := t.fab.tx, psn := t.fab.psn } }
    let quiet := fun (t : State) => t.fab = s.fab
    (∀ i ∈ ([.ownBind, .ownRelease, .ownClaim, .ownUnbind] : List Instr), busy → Does i s fun t => t = s) ∧
    (¬ busy → NMap.find s.mir.slots slot = none → refused .ownRelease 3 ∧ refused .ownClaim 3 ∧ refused .ownUnbind 3) ∧
    (let id := bits (reg 1) 63 32
      let count := bits (reg 2) 50 32
      let first := bits (reg 2) 17 0
      let home := bits (reg 3) 31 20
      let free := NMap.find s.mir.slots slot = none
      (¬ busy → ¬ free → refused .ownBind 3) ∧ (¬ busy → free → (count = 0 ∨ 262144 < count) → refused .ownBind 4) ∧
      (¬ busy → free → 1 ≤ count → count ≤ 262144 → (∀ x, NMap.find s.ext.table id = some x → x.length < first + count) → refused .ownBind 5) ∧
      (∀ x, ¬ busy → free → 1 ≤ count → count ≤ 262144 → NMap.find s.ext.table id = some x → first + count ≤ x.length → Does .ownBind s fun t =>
        slotIs t slot ⟨reg 0, id, first, count, x.base + 2097152 * first, 2097152 * count, home, 0, false, false⟩ ∧
        msgIs t slot (some ⟨.query, 0, [], some s.now⟩) ∧ tells t home 0x10 0 0 (reg 0) ∧ ended t ∧ only t)) ∧
    (∀ o, NMap.find s.mir.slots slot = some o → ¬ busy →
      (o.hold = false → refused .ownRelease 3) ∧ (o.hold = true → refused .ownClaim 3 ∧ refused .ownUnbind 3) ∧
      (o.hold = true → let m : OwnMsg := ⟨.transfer, bits (reg 3) 19 8, inRange s o, none⟩
        (rangeDrained s o m = true → Does .ownRelease s fun t => slotIs t slot { o with hold := false } ∧
          msgIs t slot (some { m with sent := some s.now }) ∧ tells t o.home 0x11 m.target o.gen o.stateId ∧ ended t ∧ only t) ∧
        (rangeDrained s o m = false → Does .ownRelease s fun t => slotIs t slot { o with hold := false } ∧ msgIs t slot (some m) ∧ quiet t ∧
          ended t ∧ only t)) ∧
      (o.hold = false → Does .ownClaim s fun t => msgIs t slot (some ⟨.claim, 0, [], some s.now⟩) ∧ t.mir.slots = s.mir.slots ∧
        tells t o.home 0x12 0 (if o.handing then o.gen else o.gen + 1) o.stateId ∧ t.get MIR_CMD_BUSY = 1 ∧ RegsKept s t [MIR_CMD_BUSY] ∧ only t) ∧
      (o.hold = false → Does .ownUnbind s fun t => NMap.find t.mir.slots slot = none ∧ OthersKept s.mir.slots t.mir.slots slot ∧
        msgIs t slot none ∧ quiet t ∧ ended t ∧ only t)) ∧
    (∀ n o m, NMap.find s.mir.slots n = some o → NMap.find s.mir.msgs n = some m →
      let due := match m.sent with
        | some a => a + 1000000 ≤ s.now
        | none => rangeDrained s o m = true
      (¬ due → Does (.ownMsgResend n) s fun t => t = s) ∧
      (due → Does (.ownMsgResend n) s fun t => msgIs t n (some { m with sent := some s.now }) ∧ t.mir.slots = s.mir.slots ∧ t.regs = s.regs ∧
        only t ∧ (m.kind = .query → tells t o.home 0x10 0 0 o.stateId) ∧ (m.kind = .transfer → tells t o.home 0x11 m.target o.gen o.stateId) ∧
        (m.kind = .claim → tells t o.home 0x12 0 (if o.handing then o.gen else o.gen + 1) o.stateId))) ∧
    (∀ n, (NMap.find s.mir.slots n = none ∨ NMap.find s.mir.msgs n = none) → Does (.ownMsgResend n) s fun t => t = s) ∧
    (let id := leNat (slice p.payload 0x20 8)
      let gen := leNat (slice p.payload 0xc 4)
      let subject := leNat (slice p.payload 6 2) % 4096
      let time := leNat (slice p.payload 0x10 8)
      let old := NMap.find s.mir.recs id
      let recIs := fun (t : State) (r : PeerTok) => NMap.find t.mir.recs id = some r ∧ OthersKept s.mir.recs t.mir.recs id ∧
        t = { s with fab := t.fab, mir := { s.mir with recs := t.mir.recs } }
      let replies := fun (t : State) (st : Nat) (r : Option PeerTok) => Sys2Proof.Claims.tells s t p.src (Sys2Proof.Claims.pairBody s 0x13 st
        (r.elim 0 PeerTok.owner) epoch (r.elim 0 PeerTok.gen) (match r with
          | some q => if q.handing then q.deadline else 0
          | none => 0) id)
      let same := fun (t : State) => t = { s with fab := t.fab }
      (∀ i ∈ ([(.ownQuery p, 0x10), (.ownTransfer p, 0x11), (.ownClaimMsg p, 0x12), (.ownReply p, 0x13), (.ownReturn p, 0x14)] : List (Instr × Nat)),
        ¬ Sys2Proof.Claims.hears p i.2 → Does i.1 s fun t => t = s) ∧
      (Sys2Proof.Claims.hears p 0x10 → (∀ r, old = some r → Does (.ownQuery p) s fun t => replies t stOK old ∧ same t) ∧
        (old = none → 65536 ≤ s.mir.recs.length → Does (.ownQuery p) s fun t => replies t stNotOwner none ∧ same t) ∧
        (old = none → s.mir.recs.length < 65536 → let r : PeerTok := ⟨id, p.src, 0, 1, false, 0⟩
          Does (.ownQuery p) s fun t => recIs t r ∧ replies t stOK (some r))) ∧
      (Sys2Proof.Claims.hears p 0x11 → (old = none → Does (.ownTransfer p) s fun t => replies t stNotOwner none ∧ same t) ∧
        (∀ r, old = some r → let q := { r with
            handing := true
            pending := subject
            gen := (r.gen + 1) % 2 ^ 32
            deadline := s.now + 1000000 * s.get MIR_CFG_HANDOFF_MS }
          let again := r.owner = p.src ∧ r.handing = true ∧ r.pending = subject ∧ r.gen = (gen + 1) % 2 ^ 32
          (r.owner = p.src → r.gen = gen → r.handing = false → Does (.ownTransfer p) s fun t => recIs t q ∧ replies t stOK (some q)) ∧
          (again → Does (.ownTransfer p) s fun t => replies t stOK old ∧ same t) ∧
          (¬ (r.owner = p.src ∧ r.gen = gen ∧ r.handing = false) → ¬ again → Does (.ownTransfer p) s fun t => replies t stNotOwner old ∧ same t))) ∧
      (Sys2Proof.Claims.hears p 0x12 → (old = none → Does (.ownClaimMsg p) s fun t => replies t stNotOwner none ∧ same t) ∧
        (∀ r, old = some r → let ok := r.gen = gen ∧ ((r.handing = true ∧ r.pending = p.src) ∨ (r.handing = false ∧ r.owner = p.src))
          let q := { r with
            handing := false
            owner := p.src
            pending := 0
            deadline := 0 }
          (ok → Does (.ownClaimMsg p) s fun t => recIs t q ∧ replies t stOK (some q)) ∧
          (¬ ok → Does (.ownClaimMsg p) s fun t => replies t stNotOwner old ∧ same t))) ∧
      (∀ n o, slotOfState s id = some (n, o) → (Sys2Proof.Claims.hears p 0x13 → ∀ m, NMap.find s.mir.msgs n = some m →
          let ok := leNat (slice p.payload 2 1) = stOK
          (p.src ≠ o.home → Does (.ownReply p) s fun t => t = s) ∧
          (p.src = o.home → Does (.ownReply p) s fun t => msgIs t n none ∧ quiet t ∧ only t ∧
            (∃ q, slotIs t n q ∧ q = { o with
              gen := gen
              handing := q.handing
              hold := q.hold } ∧ (q.handing = true ↔ time ≠ 0) ∧
              (q.hold = true ↔ m.kind ≠ .transfer ∧ ok ∧ subject = s.self ∧ time = 0)) ∧
            (m.kind ≠ .claim → t.regs = s.regs) ∧
            (m.kind = .claim → t.get MIR_CMD_BUSY = 0 ∧ RegsKept s t [MIR_CMD_BUSY, MIR_CMD_STATUS, MIR_CMD_DETAIL] ∧
              (ok → t.get MIR_CMD_STATUS = stOK ∧ t.get MIR_CMD_DETAIL = 0) ∧
              (¬ ok → t.get MIR_CMD_STATUS = stPermission ∧ t.get MIR_CMD_DETAIL = 3)))) ∧
        (Sys2Proof.Claims.hears p 0x14 → (p.src = o.home → subject = s.self → Does (.ownReturn p) s fun t => slotIs t n { o with
            gen := gen
            hold := true
            handing := false } ∧ msgIs t n none ∧ quiet t ∧ t.regs = s.regs ∧ only t) ∧
          (¬ (p.src = o.home ∧ subject = s.self) → Does (.ownReturn p) s fun t => t = s))) ∧
      (slotOfState s id = none → Does (.ownReply p) s (fun t => t = s) ∧ Does (.ownReturn p) s fun t => t = s)) ∧
    (∀ id, NMap.find s.mir.recs id = none → Does (.handoffDeadline id) s fun t => t = s) ∧
    (∀ id r, NMap.find s.mir.recs id = some r → (¬ (r.handing = true ∧ r.deadline ≤ s.now) → Does (.handoffDeadline id) s fun t => t = s) ∧
      (r.handing = true → r.deadline ≤ s.now → let gen := (r.gen + 1) % 2 ^ 32
        Does (.handoffDeadline id) s fun t => NMap.find t.mir.recs id = some { r with
            handing := false
            pending := 0
            gen := gen
            deadline := 0 } ∧ OthersKept s.mir.recs t.mir.recs id ∧ Raised s t MIR_EVENT_OWN_TIMEOUT ∧
          RegsKept s t [MIR_EVENT_OWN_TIMEOUT, MGT_NOTIFY_PENDING] ∧ tells t r.owner 0x14 r.owner gen id ∧
          t = { s with
            regs := t.regs
            fab := t.fab
            mir := { s.mir with recs := t.mir.recs } }))

/-- The statements above: the serving node keeps its lease, pairs form and take over. -/
def Obligations.PairsLeaseAndTakeOver : Prop :=
  Sys2Proof.Claims.theServingNodeKeepsItsLease ∧
  Sys2Proof.Claims.pairsFormAndTakeOver

/-! Error views, the moraine log, the device-fatal stop, trace, snapshots and counter copies (chapters 18 and 19). -/

/-- The 64 bytes of a record, an event or a snapshot entry (Table 18.2, R380). -/
def Sys2Proof.Claims.loggedBytes (r : ErrRec) : List Byte :=
  let flags := r.cls + (if r.tenant.isSome then 4 else 0) + (if r.addr.isSome ∧ r.kind ≠ 2 then 8 else 0) + 16 * r.kind
  natLe 8 r.seq ++ natLe 8 r.time ++ natLe 1 flags ++ natLe 1 r.depth ++ natLe 1 r.unitType ++ natLe 1 r.status ++ natLe 2 r.unitIndex ++
    natLe 2 r.cause ++ natLe 2 (r.tenant.getD 0) ++ natLe 2 r.agent ++ natLe 4 r.parent ++ natLe 8 (r.addr.getD 0) ++ natLe 16 r.info ++
    natLe 4 r.count ++ List.replicate 4 0#8

/-- The 32 bytes of a trace record (Table 19.1). -/
def Sys2Proof.Claims.tracedBytes (r : TraceRec) : List Byte :=
  natLe 8 r.time ++ natLe 1 r.type ++ [0#8] ++ natLe 1 r.unitType ++ [0#8] ++ natLe 2 r.unitIndex ++
    natLe 2 (match r.tenant with
      | some k => 32768 + k % 1024
      | none => 0) ++ natLe 8 r.arg0 ++ natLe 8 r.arg1

/-- The moraine log has frozen (R366), and the board controller is alerted where the sideband can carry it. -/
def Sys2Proof.Claims.froze (s t : State) (alerts : List Nat) : Prop :=
  t.get ERR_MOR_STATUS_FROZEN = 1 ∧ Raised s t ERR_EVENT_MOR_FROZEN ∧ t.err.postLeft = none ∧
  t.mgt = { s.mgt with ibi := if s.mgt.i3c.isSome = true ∧ s.mgt.smbus = false then s.mgt.ibi ++ alerts else s.mgt.ibi }

/-- Recoveries, views, the moraine log's freeze and the device-fatal stop (R354, R356, R364 to R366, R368, Table 18.7): the end of a recovery
writes an event that names the record that opened it; a write of ERR_VIEW_SEL loads the entry it selects, zeros where there is none; FREEZE stops
the log MOR_POST entries later and UNFREEZE lets it go on; a device-fatal stop idles the ports, holds the memories, writes a snapshot to the moraine log,
freezes it and waits for a reset. -/
def Obligations.ErrorsAreKeptAndViewed : Prop :=
  ∀ (s : State), let frozen := s.get ERR_MOR_STATUS_FROZEN ≠ 0
    let post := s.get ERR_CFG_MOR_POST
    (∀ ut ui, (∀ r ∈ s.err.openRecs, ¬ (r.unitType = ut ∧ r.unitIndex = ui)) → Does (.recoveryClose ut ui) s fun t => t = s) ∧
    (∀ rc rest, s.err.openRecs = rc :: rest → Does (.recoveryClose rc.unitType rc.unitIndex) s fun t => t.err.openRecs = rest ∧
      t.get ERR_STATUS_OPEN = min 8 rest.length ∧ t.get ERR_SEQ_NEWEST = (s.get ERR_SEQ_NEWEST + 1) % 2 ^ 64 ∧
      RegsKept s t [ERR_STATUS_OPEN, ERR_SEQ_NEWEST, ERR_MOR_STATUS_NEWEST, ERR_MOR_STATUS_WRAPPED] ∧
      (frozen → t.err.moraine = s.err.moraine ∧ t.get ERR_MOR_STATUS_NEWEST = s.get ERR_MOR_STATUS_NEWEST) ∧
      (¬ frozen → s.err.postLeft = none →
        let i := if s.err.moraine = [] then 0 else (s.get ERR_MOR_STATUS_NEWEST + 1) % 65536
        t.get ERR_MOR_STATUS_NEWEST = i ∧ OthersKept s.err.moraine t.err.moraine i ∧ ∃ r, NMap.find t.err.moraine i = some r ∧ r.kind = 1 ∧
          r.seq = s.get ERR_SEQ_NEWEST + 1 ∧ r.time = s.now ∧ r.unitType = rc.unitType ∧ r.unitIndex = rc.unitIndex ∧
          r.parent = rc.seq % 2 ^ 32 ∧ r.depth = min 7 rest.length) ∧
      t = { s with regs := t.regs, err := { s.err with
        openRecs := t.err.openRecs
        moraine := t.err.moraine
        postLeft := t.err.postLeft } }) ∧
    (∀ v : Word64, Does (.errViewSelWrite v) s fun t => let source := t.get ERR_VIEW_SEL_SOURCE
      let i := t.get ERR_VIEW_SEL_INDEX
      let log := NMap.getD s.err.logs (65536 * t.get ERR_VIEW_SEL_UNIT_TYPE + t.get ERR_VIEW_SEL_UNIT_INDEX) []
      let shows := fun (l : List Byte) => ∀ n < 8, t.get (ERR_VIEW_DATA n) = leNat (slice l (8 * n) 8)
      let showsOpt := fun (r : Option ErrRec) => (∀ x, r = some x → shows (Sys2Proof.Claims.loggedBytes x)) ∧
        (r = none → shows (List.replicate 64 0#8))
      (∀ f ∈ ERR_VIEW_SEL, Sys2Proof.Claims.stored s t v.toNat f) ∧
      (source = 0 → i < 4096 → showsOpt (NMap.find s.err.ring i)) ∧ (source = 0 → 4096 ≤ i → showsOpt none) ∧
      (source = 1 → i < 16 → showsOpt log[i]?) ∧ (source = 1 → 16 ≤ i → showsOpt none) ∧
      (source = 2 → showsOpt (NMap.find s.err.moraine i)) ∧ RegsKept s t (ERR_VIEW_SEL ++ (List.range 8).map ERR_VIEW_DATA) ∧
      t = { s with regs := t.regs }) ∧
    ((frozen ∨ s.err.postLeft ≠ none) → Does .moraineFreeze s fun t => t = s) ∧
    (¬ frozen → s.err.postLeft = none → post = 0 → Does .moraineFreeze s fun t => Sys2Proof.Claims.froze s t [0x03] ∧
      RegsKept s t [ERR_MOR_STATUS_FROZEN, ERR_EVENT_MOR_FROZEN, MGT_NOTIFY_PENDING] ∧
      t = { s with
        regs := t.regs
        err := { s.err with postLeft := t.err.postLeft }
        mgt := t.mgt }) ∧
    (¬ frozen → s.err.postLeft = none → post ≠ 0 → Does .moraineFreeze s fun t => t = { s with err := { s.err with postLeft := some post } }) ∧
    (s.err.postLeft = some 0 → Does .morPostReached s fun t => Sys2Proof.Claims.froze s t [0x03] ∧
      RegsKept s t [ERR_MOR_STATUS_FROZEN, ERR_EVENT_MOR_FROZEN, MGT_NOTIFY_PENDING] ∧
      t = { s with
        regs := t.regs
        err := { s.err with postLeft := t.err.postLeft }
        mgt := t.mgt }) ∧
    (s.err.postLeft ≠ some 0 → Does .morPostReached s fun t => t = s) ∧
    ((frozen ∨ s.err.postLeft = some 0) → Does .moraineUnfreeze s fun t => t.get ERR_MOR_STATUS_FROZEN = 0 ∧ RegsKept s t [ERR_MOR_STATUS_FROZEN] ∧
      t = { s with regs := t.regs, err := { s.err with postLeft := none } }) ∧
    (¬ frozen → s.err.postLeft ≠ some 0 → Does .moraineUnfreeze s fun t => t = s) ∧
    ((s.get ERR_STATUS_DEVICE_FATAL = 0 ∨ s.err.stopStep ≠ 0) → Does .deviceFatalStop s fun t => t = s) ∧
    (s.get ERR_STATUS_DEVICE_FATAL ≠ 0 → s.err.stopStep = 0 →
      let falls := fun (p : Nat) => hasPort s p = true ∧ s.get (LNK_STATUS_STATE p) ∉ [lkDisabled, lkFailed, lkDown]
      let ms := s.get ERR_CFG_AUTO_RESET_MS
      Does .deviceFatalStop s fun t => Sys2Proof.Claims.froze s t [0x03, 0x02] ∧ t.get RST_STATUS_PHASE = 6 ∧ t.err.stopStep = 6 ∧
        t.err.resetDue = (if ms = 0 then none else some (s.now + 1000000 * ms)) ∧ t.clk = { s.clk with memHeld := true } ∧
        t.get DBG_SNAP_STATUS_NUMBER = (s.get DBG_SNAP_STATUS_NUMBER + 1) % 2 ^ 32 ∧ t.get DBG_SNAP_STATUS_BUSY = 0 ∧ t.dbg.snap = [] ∧
        (s.get DBG_SNAP_STATUS_BUSY ≠ 0 → Raised s t DBG_SNAP_STATUS_ABORTED) ∧
        (∀ p < 72, falls p → t.get (LNK_STATUS_STATE p) = lkDown ∧ t.get (LNK_STATUS_LANES_UP p) = 0 ∧ lnkOf t p = LnkPort.idle) ∧
        (∀ p < 72, ¬ falls p → t.get (LNK_STATUS_STATE p) = s.get (LNK_STATUS_STATE p) ∧ lnkOf t p = lnkOf s p) ∧
        RegsKept s t ([RST_STATUS_PHASE, ERR_MOR_STATUS_FROZEN, ERR_MOR_STATUS_NEWEST, ERR_MOR_STATUS_WRAPPED, ERR_EVENT_MOR_FROZEN, ERR_SEQ_NEWEST,
          DBG_SNAP_STATUS_NUMBER, DBG_SNAP_STATUS_BUSY, DBG_SNAP_STATUS_ENTRIES, DBG_SNAP_STATUS_ABORTED, DBG_TSTAT_SOURCE_DROPS, MGT_NOTIFY_PENDING] ++
          (List.range 72).flatMap fun p => [LNK_STATUS_STATE p, LNK_STATUS_LANES_UP p]) ∧
        t = { s with
          regs := t.regs
          lnk := t.lnk
          clk := t.clk
          dbg := t.dbg
          err := t.err
          mgt := t.mgt
          fresh := t.fresh })

/-- The trace buffer (R370, R372 to R375): a write of DBG_TCFG starts a trace only where the buffer extent can take it; the writer puts a wanted record into its
slot, drops it where the buffer is full or frozen, and fires the first trigger that matches once PRE records are written; POST records later it freezes; a
source that has dropped records says so; a stream's datagram carries at most 44 records and frees their slots. -/
def Sys2Proof.Claims.theTraceBufferFillsAndTriggers : Prop :=
  ∀ (s : State), let mode := s.get DBG_TCFG_MODE
    let st := s.get DBG_TRIG_STATUS_STATE
    let cap := 32768 * s.get DBG_TBUF_SIZE_MIB
    let n := s.get DBG_TPOS_WRITTEN
    let buf := NMap.find s.ext.table (s.get DBG_TBUF_EXTENT_ID)
    let still := ¬ (st = 0 ∧ s.get DBG_TWIN_PRE ≤ n) ∧ ¬ (st = 2 ∧ s.dbg.postLeft = 0)
    let full := st = 3 ∨ (mode = 2 ∧ cap ≤ n) ∨ (mode = 3 ∧ cap ≤ n - s.dbg.streamed)
    let wanted := fun (r : TraceRec) => 12 ≤ r.type ∨ s.get DBG_TCFG_ALL_TENANTS ≠ 0 ∨ ∃ x, buf = some x ∧ r.tenant = some x.tenant
    let room := fun (a : Nat) => (∀ e ∈ s.ext.table, e.2.mirrored = false) ∧ ∀ l ∈ linesOf a 32, (frameAt s (128 * l)).tier ≠ .remote
    (∀ ut ui, (∀ q, NMap.find s.dbg.srcs (unitKey ut ui) = some q → q.queue = []) → Does (.traceWrite ut ui) s fun t => t = s) ∧
    (∀ ut ui q r rest, NMap.find s.dbg.srcs (unitKey ut ui) = some q → q.queue = r :: rest →
      ((mode = 0 ∨ shut s = true) → Does (.traceWrite ut ui) s fun t => t = s) ∧
      (mode ≠ 0 → shut s = false → still →
        let took := fun (t : State) => NMap.find t.dbg.srcs (unitKey ut ui) = some { q with queue := rest } ∧
          OthersKept s.dbg.srcs t.dbg.srcs (unitKey ut ui)
        let only := fun (t : State) (left : Nat) => t.dbg = { s.dbg with srcs := t.dbg.srcs, postLeft := left } ∧
          t = { s with
            regs := t.regs
            dbg := t.dbg
            mem := t.mem
            poison := t.poison }
        (¬ wanted r → Does (.traceWrite ut ui) s fun t => took t ∧ only t s.dbg.postLeft ∧ t.regs = s.regs ∧ t.mem = s.mem ∧ t.poison = s.poison) ∧
        (wanted r → (full ∨ buf = none) → Does (.traceWrite ut ui) s fun t => took t ∧ only t s.dbg.postLeft ∧
          Counts s t DBG_TSTAT_WRITER_DROPS 1 ∧ RegsKept s t [DBG_TSTAT_WRITER_DROPS] ∧ t.mem = s.mem ∧ t.poison = s.poison) ∧
        (∀ x, wanted r → ¬ full → buf = some x → 1 ≤ cap → let at_ := fun (k : Nat) => x.base + 32 * (k % cap)
          (room (at_ n) → (st ≠ 1 ∨ ∀ k < 4, triggerHits s r k = false) → Does (.traceWrite ut ui) s fun t => took t ∧
            only t (s.dbg.postLeft - 1) ∧ rdBytes t.mem (at_ n) 32 = Sys2Proof.Claims.tracedBytes r ∧ MemKept s t (at_ n) 32 ∧
            t.get DBG_TPOS_WRITTEN = (n + 1) % 2 ^ 64 ∧ RegsKept s t [DBG_TPOS_WRITTEN]) ∧
          (∀ k, room (at_ n) → room (at_ (n + 1)) → n + 2 < 2 ^ 64 → mode = 1 → st = 1 → k < 4 → triggerHits s r k = true →
            (∀ j < k, triggerHits s r j = false) → s.get (DBG_TRIG_CTL_SNAP k) = 0 → s.get (DBG_TRIG_CTL_MORAINE k) = 0 →
            Does (.traceWrite ut ui) s fun t => took t ∧ only t (s.get DBG_TWIN_POST) ∧ t.get DBG_TRIG_STATUS_STATE = 2 ∧
            t.get DBG_TRIG_STATUS_FIRED = k ∧ t.get DBG_TRIG_STATUS_TRIG_POS = n % 2 ^ 32 ∧ t.get DBG_TPOS_WRITTEN = n + 2 ∧
            rdBytes t.mem (at_ n) 32 = Sys2Proof.Claims.tracedBytes r ∧ rdBytes t.mem (at_ (n + 1)) 32 = Sys2Proof.Claims.tracedBytes
              { time := s.now, type := 0x0c, unitType := 0, unitIndex := 0, tenant := none, arg0 := k, arg1 := n } ∧
            RegsKept s t [DBG_TRIG_STATUS_STATE, DBG_TRIG_STATUS_FIRED, DBG_TRIG_STATUS_TRIG_POS, DBG_TPOS_WRITTEN] ∧
            ∀ q, (q < at_ n ∨ at_ n + 32 ≤ q) → (q < at_ (n + 1) ∨ at_ (n + 1) + 32 ≤ q) → rdByte t.mem q = rdByte s.mem q)))) ∧
    (let arms := mode ≠ 0 ∧ st = 0 ∧ s.get DBG_TWIN_PRE ≤ n
     (arms → Does .triggerArmed s fun t => t.get DBG_TRIG_STATUS_STATE = 1 ∧ RegsKept s t [DBG_TRIG_STATUS_STATE] ∧ t = { s with regs := t.regs }) ∧
     (¬ arms → Does .triggerArmed s fun t => t = s)) ∧
    (let ends := mode ≠ 0 ∧ st = 2 ∧ s.dbg.postLeft = 0
     (ends → Does .traceFrozen s fun t => t.get DBG_TRIG_STATUS_STATE = 3 ∧ RegsKept s t [DBG_TRIG_STATUS_STATE] ∧ t = { s with regs := t.regs }) ∧
     (¬ ends → Does .traceFrozen s fun t => t = s)) ∧
    (∀ ut ui, (∀ q, NMap.find s.dbg.srcs (unitKey ut ui) = some q → q.drops = 0 ∨ 64 ≤ q.queue.length) →
      Does (.sourceDropRecord ut ui) s fun t => t = s) ∧
    (∀ ut ui q, NMap.find s.dbg.srcs (unitKey ut ui) = some q → q.drops ≠ 0 → q.queue.length < 64 → Does (.sourceDropRecord ut ui) s fun t =>
      NMap.find t.dbg.srcs (unitKey ut ui) = some ⟨q.queue ++ [⟨s.now, 0x0d, ut, ui, none, q.drops, q.firstDrop⟩], 0, 0⟩ ∧ OthersKept s.dbg.srcs t.dbg.srcs (unitKey ut ui) ∧
      t = { s with dbg := { s.dbg with srcs := t.dbg.srcs } }) ∧
    (∀ v : Word64, let new := DBG_TCFG_MODE.of v.toNat
      let ok := ∃ x, buf = some x ∧ x.st = .active ∧ x.mode = .software ∧ hasRights x rtWrite = true ∧ s.get DBG_TBUF_SIZE_MIB ≤ 2 * x.length
      let starts := new ≠ 0 ∧ (mode = 0 ∨ st = 3)
      (mode = 0 → new ≠ 0 → ¬ ok → Does (.dbgTcfgModeWrite v) s fun t => t = s) ∧
      (¬ (mode = 0 ∧ new ≠ 0 ∧ ¬ ok) → Does (.dbgTcfgModeWrite v) s fun t => (∀ f ∈ DBG_TCFG, Sys2Proof.Claims.stored s t v.toNat f) ∧
        (starts → t.get DBG_TPOS_WRITTEN = 0 ∧ t.get DBG_TRIG_STATUS_STATE = 0 ∧ RegsKept s t (DBG_TPOS_WRITTEN :: DBG_TRIG_STATUS_STATE :: DBG_TCFG) ∧
          t = { s with regs := t.regs, dbg := { s.dbg with srcs := [], streamed := 0, postLeft := 0 } }) ∧
        (¬ starts → RegsKept s t DBG_TCFG ∧ t = { s with regs := t.regs }))) ∧
    (let k := min 44 (n - s.dbg.streamed)
     let sends := mode = 3 ∧ k ≠ 0 ∧ s.get MGT_ETH_LINK_UP ≠ 0
     (∀ x, buf = some x → 1 ≤ cap → sends → Does .traceStreamSend s fun t =>
        let body := (List.range k).flatMap fun i => rdBytes s.mem (x.base + 32 * ((s.dbg.streamed + i) % cap)) 32
        let mac := if s.get MGT_ETH_HOST_MAC = 0 then 2 ^ 48 - 1 else s.get MGT_ETH_HOST_MAC
        t = { s with
          dbg := { s.dbg with streamed := s.dbg.streamed + k }
          mgt := { s.mgt with eth := s.mgt.eth ++ [(mac, natLe 1 0xe2 ++ natLe 1 0x05 ++ natLe 2 body.length ++ natLe 2 s.node ++ natLe 2 0 ++
            natLe 8 s.dev.serial ++ body)] } }) ∧
     ((buf = none ∨ ¬ sends) → Does .traceStreamSend s fun t => t = s))

/-- Freeze snapshots and counter copies (R377 to R380): TAKE latches every item's entries with the next NUMBER and writes them, or is MISSED while one is
being written or the pool extent cannot hold it; a snapshot whose extent has gone meanwhile is ABORTED; SNAP copies a set's 64 counters at one rack time. -/
def Sys2Proof.Claims.snapshotsAndCounterCopies : Prop :=
  ∀ (s : State), let busy := s.get DBG_SNAP_STATUS_BUSY ≠ 0
    let x := NMap.find s.ext.table (s.get DBG_SNAP_CTL_EXTENT_ID)
    let dest := s.get DBG_SNAP_CTL_DEST
    let ok := fun (y : Extent) => y.st = .active ∧ y.mode = .software ∧ hasRights y rtWrite = true ∧ 2 ≤ y.length
    let missed := fun (t : State) => Raised s t DBG_SNAP_STATUS_MISSED ∧ RegsKept s t [DBG_SNAP_STATUS_MISSED, MGT_NOTIFY_PENDING] ∧
      t = { s with regs := t.regs }
    let taken := fun (t : State) (d : Option Nat) => t.get DBG_SNAP_STATUS_BUSY = 1 ∧
      t.get DBG_SNAP_STATUS_NUMBER = (s.get DBG_SNAP_STATUS_NUMBER + 1) % 2 ^ 32 ∧ RegsKept s t [DBG_SNAP_STATUS_BUSY, DBG_SNAP_STATUS_NUMBER] ∧
      t.dbg.snapTo = d ∧ (∀ r ∈ t.dbg.snap, r.kind = 2 ∧ r.cls = 0 ∧ r.depth = 0 ∧ r.time = s.now ∧
        r.parent = (s.get DBG_SNAP_STATUS_NUMBER + 1) % 2 ^ 32) ∧
      (∀ e < 256, ∃ r, t.dbg.snap[e]? = some r ∧ r.cause = 1 ∧ r.count = e ∧ r.unitType = 1 ∧ r.unitIndex = e ∧
        r.addr = some (regVal s (ENG_STATUS e)) ∧ r.tenant = (if engBusy s e then some (engTenant s e) else none)) ∧
      t = { s with
        regs := t.regs
        dbg := { s.dbg with snap := t.dbg.snap, snapTo := t.dbg.snapTo }
        fresh := t.fresh }
    let done := fun (t : State) (n : Nat) => t.get DBG_SNAP_STATUS_BUSY = 0 ∧ t.get DBG_SNAP_STATUS_ENTRIES = n % 65536 ∧
      t.dbg = { s.dbg with
        snap := []
        snapTo := none }
    let own := [DBG_SNAP_STATUS_BUSY, DBG_SNAP_STATUS_ENTRIES]
    (busy → Does .snapshotTake s missed) ∧ (¬ busy → dest ≠ 1 → (∀ y, x = some y → ¬ ok y) → Does .snapshotTake s missed) ∧
    (¬ busy → dest = 1 → Does .snapshotTake s fun t => taken t none) ∧
    (∀ y, ¬ busy → dest ≠ 1 → x = some y → ok y → Does .snapshotTake s fun t => taken t (some y.base)) ∧
    (¬ busy → Does .snapshotDone s fun t => t = s) ∧
    (busy → s.dbg.snapTo = none → s.get ERR_MOR_STATUS_FROZEN ≠ 0 → Does .snapshotDone s fun t => done t 0 ∧ RegsKept s t own ∧
      t = { s with regs := t.regs, dbg := t.dbg }) ∧
    (∀ r, busy → s.dbg.snapTo = none → s.get ERR_MOR_STATUS_FROZEN = 0 → s.err.postLeft = none → s.dbg.snap = [r] → Does .snapshotDone s fun t =>
      let i := if s.err.moraine = [] then 0 else (s.get ERR_MOR_STATUS_NEWEST + 1) % 65536
      done t 1 ∧ NMap.find t.err.moraine i = some r ∧ OthersKept s.err.moraine t.err.moraine i ∧ t.get ERR_MOR_STATUS_NEWEST = i ∧
      RegsKept s t (ERR_MOR_STATUS_NEWEST :: ERR_MOR_STATUS_WRAPPED :: own) ∧
      t = { s with
        regs := t.regs
        dbg := t.dbg
        err := { s.err with moraine := t.err.moraine } }) ∧
    (∀ b i y, busy → s.dbg.snapTo = some b → extAt s b = some (i, y) → let size := 64 * s.dbg.snap.length
      ((y.st = .active ∨ y.st = .grace) → (∀ e ∈ s.ext.table, e.2.mirrored = false) →
        (∀ l ∈ linesOf b size, (frameAt s (128 * l)).tier ≠ .remote) → Does .snapshotDone s fun t => done t s.dbg.snap.length ∧
        rdBytes t.mem b size = s.dbg.snap.flatMap Sys2Proof.Claims.loggedBytes ∧ MemKept s t b size ∧ RegsKept s t own ∧
        t = { s with
          regs := t.regs
          dbg := t.dbg
          mem := t.mem
          poison := t.poison }) ∧
      (¬ (y.st = .active ∨ y.st = .grace) → Does .snapshotDone s fun t => done t 0 ∧ Raised s t DBG_SNAP_STATUS_ABORTED ∧
        RegsKept s t (DBG_SNAP_STATUS_ABORTED :: MGT_NOTIFY_PENDING :: own) ∧ t = { s with regs := t.regs, dbg := t.dbg })) ∧
    (let i := s.get DBG_CNT_SEL_INDEX
     let set := if s.get DBG_CNT_SEL_SET = 0 then NMap.getD s.dbg.engCnt i [] else if s.get DBG_CNT_SEL_SET = 1 then NMap.getD s.dbg.tenCnt i []
       else s.dbg.nodeCnt
     Does .dbgCntSnap s fun t => (∀ n < 64, t.get (DBG_CNT_COUNT n) = NMap.getD set n 0 % 2 ^ 64) ∧ t.get DBG_CNT_TIME_TIME = s.now % 2 ^ 64 ∧
       RegsKept s t (DBG_CNT_TIME_TIME :: (List.range 64).map DBG_CNT_COUNT) ∧ t = { s with regs := t.regs }) ∧
    (∀ w < 64, (slotRec s w = none → Does (.tenCntSnap w) s fun t => t = s) ∧
      (∀ k r, slotRec s w = some (k, r) → Does (.tenCntSnap w) s fun t =>
        (∀ n < 64, t.get (TEN_CNT_COUNT w n) = NMap.getD (NMap.getD s.dbg.tenCnt k []) n 0 % 2 ^ 64) ∧ t.get (TEN_CNT_TIME_TIME w) = s.now % 2 ^ 64 ∧
        RegsKept s t (TEN_CNT_TIME_TIME w :: (List.range 64).map (TEN_CNT_COUNT w)) ∧ t = { s with regs := t.regs }))

/-- The statements above: the trace buffer fills and triggers, snapshots and counter copies. -/
def Obligations.TraceAndSnapshots : Prop :=
  Sys2Proof.Claims.theTraceBufferFillsAndTriggers ∧
  Sys2Proof.Claims.snapshotsAndCounterCopies

/-! Timing inputs, clocks and power states (chapter 20). -/

/-- An event entry has been written to the moraine log with the next SEQ (R356, R365), unless it is frozen. -/
def Sys2Proof.Claims.entry (s t : State) (ut ui cause : Nat) : Prop :=
  t.get ERR_SEQ_NEWEST = (s.get ERR_SEQ_NEWEST + 1) % 2 ^ 64 ∧
  (s.get ERR_MOR_STATUS_FROZEN = 0 → s.err.postLeft = none →
    let i := if s.err.moraine = [] then 0 else (s.get ERR_MOR_STATUS_NEWEST + 1) % 65536
    t.get ERR_MOR_STATUS_NEWEST = i ∧ OthersKept s.err.moraine t.err.moraine i ∧ ∃ r, NMap.find t.err.moraine i = some r ∧ r.kind = 1 ∧
      r.seq = s.get ERR_SEQ_NEWEST + 1 ∧ r.time = s.now ∧ r.unitType = ut ∧ r.unitIndex = ui ∧ r.cause = cause)

/-- Such an entry is all that has changed of the error unit. -/
def Sys2Proof.Claims.logs (s t : State) (ut ui cause : Nat) : Prop :=
  Sys2Proof.Claims.entry s t ut ui cause ∧ t.err = { s.err with moraine := t.err.moraine, postLeft := t.err.postLeft }

/-- The registers that an event entry may change. -/
def Sys2Proof.Claims.logRegs : List Fld := [ERR_SEQ_NEWEST, ERR_MOR_STATUS_NEWEST, ERR_MOR_STATUS_WRAPPED]

/-- Time codes (R382, R384): a code with bad CRC, of another type or without root lock says nothing; the first one of the active input after a lock
loads rack time; a later one that differs by more than 2 ns is a mismatch, and the third that agrees corrects the counter by a step forward, or by a slew; codes of
the two inputs that differ by more than 20 ns set SKEW. -/
def Sys2Proof.Claims.timeCodesKeepRackTime : Prop :=
  ∀ (s : State) (c : TimeCode), let i := c.input
    let sound := c.crcOk = true ∧ c.type = 1 ∧ s.get CLK_STATUS_ROOT_LOCK ≠ 0
    let v := c.time + s.get (CLK_TREF_DELAY_NS i)
    let d : Int := (v : Int) - (s.now : Int)
    let w := (d % (2 ^ 64 : Int)).toNat
    let active := i = s.get CLK_STATUS_ACTIVE
    let valid := s.get CLK_STATUS_RACK_VALID ≠ 0
    let err := CLK_TREF_CODE_ERR i
    let other := NMap.find s.clk.diff (1 - i)
    let diff := fun (t : State) (n : Nat) => NMap.find t.clk.diff i = some n ∧ OthersKept s.clk.diff t.clk.diff i
    let only := fun (t : State) (l : List Fld) => Counts s t err c.viol ∧ RegsKept s t (err :: l) ∧ t = { s with regs := t.regs, clk := t.clk }
    let clk := fun (t : State) (misses : List Nat) (slew : Nat) => t.clk = { s.clk with
      diff := t.clk.diff
      misses := misses
      slew := slew }
    let same := fun (t : State) => clk t s.clk.misses s.clk.slew
    let does := fun (P : State → Prop) => Does (.timeCode c) s P
    let fits := fun (l : List Nat) => ∀ x ∈ l, ∀ y ∈ l, (toInt 64 x - toInt 64 y).natAbs ≤ 2
    (1 < i → does fun t => t = s) ∧ (i ≤ 1 → ¬ sound → does fun t => only t [] ∧ t.clk = s.clk) ∧
    (i ≤ 1 → sound →
      (¬ valid → active → does fun t => t.get CLK_RACK_TIME = v % 2 ^ 64 ∧ t.get CLK_STATUS_RACK_VALID = 1 ∧
        only t [CLK_RACK_TIME, CLK_STATUS_RACK_VALID] ∧ diff t 0 ∧ clk t [] 0) ∧
      (¬ valid → ¬ active → does fun t => only t [] ∧ diff t w ∧ same t) ∧
      (valid → ¬ active → other = none → does fun t => only t [] ∧ diff t w ∧ same t) ∧
      (∀ e, valid → ¬ active → other = some e → s.get CLK_STATUS_A_GOOD ≠ 0 → s.get CLK_STATUS_B_GOOD ≠ 0 →
        20 < (toInt 64 w - toInt 64 e).natAbs → does fun t => Raised s t CLK_EVENT_SKEW ∧ only t [CLK_EVENT_SKEW, MGT_NOTIFY_PENDING] ∧
        diff t w ∧ same t) ∧
      (valid → active → other = none → d.natAbs ≤ 2 → does fun t => only t [] ∧ diff t w ∧ clk t [] s.clk.slew) ∧
      (valid → active → other = none → 2 < d.natAbs → let miss := CLK_TREF_MISMATCH i
        (s.clk.misses.length < 2 → does fun t => Counts s t miss 1 ∧ only t [miss] ∧ diff t w ∧ clk t (s.clk.misses ++ [w]) s.clk.slew) ∧
        (∀ a b, s.clk.misses = [a, b] →
          (¬ fits [a, b, w] → does fun t => Counts s t miss 1 ∧ only t [miss] ∧ diff t w ∧ clk t [a, b, w] s.clk.slew) ∧
          (fits [a, b, w] → 0 < d → does fun t => Counts s t miss 1 ∧ t.get CLK_RACK_TIME = v % 2 ^ 64 ∧ Raised s t CLK_EVENT_STEP ∧
            only t [miss, CLK_RACK_TIME, CLK_EVENT_STEP, MGT_NOTIFY_PENDING] ∧ diff t w ∧ clk t [] 0) ∧
          (fits [a, b, w] → d < 0 → does fun t => Counts s t miss 1 ∧ Raised s t CLK_EVENT_SLEW ∧
            only t [miss, CLK_EVENT_SLEW, MGT_NOTIFY_PENDING] ∧ diff t w ∧ clk t [] d.natAbs))))

/-- Loss, recovery and return of a timing input, the stop and the restart, and PLLs (R37, R383, R385, R386, R389, Table 20.2): a lost active input gives way to
the other; with none left the ports go down, and the frost group stops once the memories are quiet or after 1 ms; an input 1 ms free of loss is good again,
and one good for 1 s takes over where it is preferred; at the restart the leases that lapsed are in GRACE from now on. -/
def Sys2Proof.Claims.timingInputsAndTheFrostGroup : Prop :=
  ∀ (s : State) (i : Nat), let good := fun (n : Nat) => if n = 0 then CLK_STATUS_A_GOOD else CLK_STATUS_B_GOOD
    let lost := if i = 0 then CLK_EVENT_A_LOST else CLK_EVENT_B_LOST
    let active := s.get CLK_STATUS_ACTIVE
    let locked := s.get CLK_STATUS_ROOT_LOCK ≠ 0
    let any := s.get CLK_STATUS_A_GOOD ≠ 0 ∨ s.get CLK_STATUS_B_GOOD ≠ 0
    let logged := fun (t : State) => Sys2Proof.Claims.logs s t utClocks 0 0
    let goes := fun (t : State) => t.get (good i) = 0 ∧ Raised s t lost ∧ Counts s t (CLK_TREF_LOSS i) 1 ∧
      NMap.find t.clk.goodFrom i = some s.now ∧ OthersKept s.clk.goodFrom t.clk.goodFrom i ∧ NMap.find t.clk.diff i = none ∧
      OthersKept s.clk.diff t.clk.diff i
    let own := [good i, lost, CLK_TREF_LOSS i, MGT_NOTIFY_PENDING] ++ Sys2Proof.Claims.logRegs
    let only := fun (t : State) => t = { s with
      regs := t.regs
      clk := t.clk
      err := t.err }
    let upPorts := fun (p : Nat) => p < 72 ∧ hasPort s p = true ∧ (s.get (LNK_STATUS_STATE p) = lkUp ∨ s.get (LNK_STATUS_STATE p) = lkSleep)
    let switched := fun (t : State) (n : Nat) => t.get CLK_STATUS_ACTIVE = n ∧ Raised s t CLK_EVENT_SWITCHED ∧ t.clk.misses = []
    let wasGood := s.get (good i) ≠ 0
    ((1 < i ∨ ¬ wasGood) → Does (.trefLoss i) s fun t => t = s) ∧
    (i ≤ 1 → wasGood → active ≠ i → Does (.trefLoss i) s fun t => goes t ∧ logged t ∧ RegsKept s t own ∧ only t ∧
      t.clk = { s.clk with goodFrom := t.clk.goodFrom, diff := t.clk.diff }) ∧
    (i ≤ 1 → wasGood → active = i → s.get (good (1 - i)) ≠ 0 → s.get ERR_CFG_CORR_MERGE_US = 0 → Does (.trefLoss i) s fun t =>
      goes t ∧ switched t (1 - i) ∧ (∃ r, (NMap.getD t.err.logs (unitKey utClocks 0) []).head? = some r ∧ r.cls = 0 ∧ r.time = s.now ∧
        r.seq = (s.get ERR_SEQ_NEWEST + 1) % 2 ^ 64 + 1) ∧
      RegsKept s t (CLK_STATUS_ACTIVE :: CLK_EVENT_SWITCHED :: own ++ reportRegs s none) ∧ t.mem = s.mem ∧ t.lnk = s.lnk) ∧
    (i ≤ 1 → wasGood → active = i → s.get (good (1 - i)) = 0 → ¬ locked → Does (.trefLoss i) s fun t => goes t ∧ logged t ∧ RegsKept s t own ∧ only t) ∧
    (i ≤ 1 → wasGood → active = i → s.get (good (1 - i)) = 0 → locked → s.chn.chans = [] → Does (.trefLoss i) s fun t =>
      goes t ∧ Raised s t CLK_EVENT_BOTH_LOST ∧ t.clk.bothLost = some s.now ∧
      (∀ p, upPorts p → t.get (LNK_STATUS_STATE p) = lkDown ∧ t.get (LNK_EVENT_DOWN_CAUSE p) = 7) ∧ t.mem = s.mem ∧
      ((∀ p, ¬ upPorts p) → logged t ∧ RegsKept s t (CLK_EVENT_BOTH_LOST :: own) ∧ only t)) ∧
    (let due := ∀ a, NMap.find s.clk.goodFrom i = some a → (locked ∧ s.clk.stopped = false) → a + 1000000 ≤ s.now
     let comes := i ≤ 1 ∧ ¬ wasGood ∧ due ∧ (s.clk.bothLost = none ∨ s.clk.stopped = true)
     let changes := active ≠ i ∧ (¬ any ∨ (¬ locked ∧ i = s.get CLK_CTL_PREF))
     let back := fun (t : State) => t.get (good i) = 1 ∧ NMap.find t.clk.goodFrom i = some s.now ∧ OthersKept s.clk.goodFrom t.clk.goodFrom i ∧
       logged t ∧ only t
     (¬ comes → Does (.trefRecover i) s fun t => t = s) ∧
     (comes → changes → Does (.trefRecover i) s fun t => back t ∧ switched t i ∧
       RegsKept s t (good i :: CLK_STATUS_ACTIVE :: CLK_EVENT_SWITCHED :: MGT_NOTIFY_PENDING :: Sys2Proof.Claims.logRegs)) ∧
     (comes → ¬ changes → Does (.trefRecover i) s fun t => back t ∧ RegsKept s t (good i :: Sys2Proof.Claims.logRegs) ∧
       t.clk = { s.clk with goodFrom := t.clk.goodFrom })) ∧
    (let reverts := i = s.get CLK_CTL_PREF ∧ s.get CLK_CTL_REVERT ≠ 0 ∧ wasGood ∧ active ≠ i ∧ s.clk.bothLost = none ∧
       ∀ a, NMap.find s.clk.goodFrom i = some a → a + 1000000000 ≤ s.now
     (reverts → i ≤ 1 → Does (.trefRevert i) s fun t => switched t i ∧ RegsKept s t [CLK_STATUS_ACTIVE, CLK_EVENT_SWITCHED, MGT_NOTIFY_PENDING] ∧
       t = { s with regs := t.regs, clk := { s.clk with misses := [] } }) ∧
     (¬ reverts → Does (.trefRevert i) s fun t => t = s)) ∧
    (s.clk.bothLost = none → Does .frostStop s fun t => t = s) ∧
    (∀ a, s.clk.bothLost = some a → let stops := s.clk.stopped = false ∧ (memQuiet s = true ∨ a + 1000000 ≤ s.now)
      (¬ stops → Does .frostStop s fun t => t = s) ∧
      (stops → NMap.find s.dbg.stopped 4 = none → Does .frostStop s fun t => t.get CLK_STATUS_RACK_VALID = 0 ∧ t.get CLK_STATUS_ROOT_LOCK = 0 ∧
        t.get MGT_ETH_LINK_UP = 0 ∧ (s.get MGT_ETH_LINK_UP ≠ 0 → Raised s t MGT_EVENT_ETH_DOWN) ∧
        RegsKept s t [CLK_STATUS_RACK_VALID, CLK_STATUS_ROOT_LOCK, MGT_ETH_LINK_UP, MGT_EVENT_ETH_DOWN, MGT_NOTIFY_PENDING] ∧
        NMap.find t.dbg.stopped 4 = some s.now ∧ OthersKept s.dbg.stopped t.dbg.stopped 4 ∧ t.clk = { s.clk with
          stopped := true
          memHeld := true
          pll := [] } ∧
        t = { s with
          regs := t.regs
          clk := t.clk
          dbg := { s.dbg with stopped := t.dbg.stopped } })) ∧
    (let on := s.clk.stopped = true ∧ locked ∧ s.get CLK_STATUS_RACK_VALID ≠ 0
     let up := s.get MGT_STATUS_STATE = 2
     let gap := s.now - (NMap.find s.dbg.stopped 4).getD s.now
     let lapsed := fun (l : Lease) => l.st = .held ∧ l.expiry ≤ s.now
     (¬ on → Does .clockRestart s fun t => t = s) ∧
     (on → s.clk.latched = none → 5 ≤ s.get RST_STATUS_PHASE → s.get ERR_STATUS_DEVICE_FATAL = 0 → NMap.wf s.ext.leases = true →
       (∀ p < 72, hasPort s p = true → s.get (LNK_CTL_ENABLE p) = 0) → (s.get MIR_STATUS_STATE = 0 ∨ s.get MIR_STATUS_STATE = 5) →
       NMap.find s.dbg.stopped 4 ≠ none → Does .clockRestart s fun t =>
       t.clk.stopped = false ∧ t.clk.bothLost = none ∧ (t.clk.memHeld = true ↔ ¬ up) ∧
       t.get DBG_GAP_FROST = (s.get DBG_GAP_FROST + 1) % 256 ∧ NMap.find t.dbg.stopped 4 = none ∧ OthersKept s.dbg.stopped t.dbg.stopped 4 ∧
       (∀ a, NMap.find t.ext.leases a = (NMap.find s.ext.leases a).map fun l => if l.st = .grace ∨ lapsed l then { l with
          st := .grace
          graceFrom := s.now } else l) ∧
       (∀ k x, NMap.find s.ext.table k = some x → ((∃ l, NMap.find s.ext.leases x.holder = some l ∧ lapsed l) → x.st = .active →
           NMap.find t.ext.table k = some { x with st := .grace }) ∧
         (¬ (∃ l, NMap.find s.ext.leases x.holder = some l ∧ lapsed l) → NMap.find t.ext.table k = some x)) ∧
       ((∃ a l, NMap.find s.ext.leases a = some l ∧ lapsed l) → Raised s t EXT_EVENT_LEASE_LAPSED) ∧
       (∀ m x, NMap.find s.mgt.meters m = some x → NMap.find t.mgt.meters m = some { x with gap := true }) ∧
       t.dir.txns = s.dir.txns.map (fun x => { x with waits := x.waits.map fun q => { q with sent := q.sent + gap } }) ∧
       RegsKept s t [DBG_GAP_FROST, DBG_TSTAT_SOURCE_DROPS, EXT_EVENT_LEASE_LAPSED, MGT_NOTIFY_PENDING] ∧ t.mem = s.mem ∧ t.lnk = s.lnk)) ∧
    (∀ kind unit, let k := 256 * kind + unit % 256
      let pllOnly := fun (t : State) (l : List Nat) => t = { s with clk := { s.clk with pll := l } }
      (kind = 0 → any → Does (.pllLock kind unit) s fun t => t.get CLK_STATUS_ROOT_LOCK = 1 ∧ RegsKept s t [CLK_STATUS_ROOT_LOCK] ∧
        t = { s with regs := t.regs }) ∧
      (kind = 0 → ¬ any → Does (.pllLock kind unit) s fun t => t = s) ∧
      (1 ≤ kind → (4 < kind ∨ s.clk.stopped = true) → Does (.pllLock kind unit) s fun t => t = s) ∧
      (1 ≤ kind → kind ≤ 4 → s.clk.stopped = false → Does (.pllLock kind unit) s fun t => (∀ x, x ∈ t.clk.pll ↔ x = k ∨ x ∈ s.clk.pll) ∧
        pllOnly t t.clk.pll) ∧
      (let fatal : ErrIn := { cls := 3, unitType := utClocks, unitIndex := 0, cause := 0, status := 0, tenant := none, agent := 0, addr := none, info := 0 }
       kind = 0 → locked → any → Does (.pllUnlock kind unit) s fun t => t.get CLK_STATUS_ROOT_LOCK = 0 ∧ Reports s t fatal ∧
        t.get ERR_STATUS_DEVICE_FATAL = 1 ∧ RegsKept s t ([CLK_STATUS_ROOT_LOCK, ERR_STATUS_DEVICE_FATAL] ++ reportRegs s none) ∧ t.mem = s.mem) ∧
      (kind = 0 → ¬ (locked ∧ any) → Does (.pllUnlock kind unit) s fun t => t = s) ∧
      (1 ≤ kind → k ∉ s.clk.pll → Does (.pllUnlock kind unit) s fun t => t = s) ∧
      (k ∈ s.clk.pll → let l := s.clk.pll.filter (· ≠ k)
        let s' := { s with clk := { s.clk with pll := l } }
        ((kind = 1 ∨ kind = 2) → exec (.pllUnlock kind unit) s = exec (.phyLockLoss ⟨if kind = 1 then unit else 16 + unit, []⟩) s') ∧
        (kind = 3 → (hasPort s unit = false ∨ s.get (LNK_STATUS_STATE unit) ≠ lkUp) → Does (.pllUnlock kind unit) s fun t => pllOnly t l) ∧
        (kind = 3 → hasPort s unit = true → s.get (LNK_STATUS_STATE unit) = lkUp → Does (.pllUnlock kind unit) s fun t =>
          t.get (LNK_STATUS_STATE unit) = lkDown ∧ t.get (LNK_EVENT_DOWN_CAUSE unit) = 3 ∧ Raised s t (LNK_EVENT_DOWN unit) ∧ t.clk.pll = l ∧
          t.mem = s.mem) ∧
        (4 ≤ kind → s.get MGT_ETH_LINK_UP ≠ 0 → Does (.pllUnlock kind unit) s fun t => t.get MGT_ETH_LINK_UP = 0 ∧ Raised s t MGT_EVENT_ETH_DOWN ∧
          RegsKept s t [MGT_ETH_LINK_UP, MGT_EVENT_ETH_DOWN, MGT_NOTIFY_PENDING] ∧ t = { s with regs := t.regs, clk := { s.clk with pll := l } }) ∧
        (4 ≤ kind → s.get MGT_ETH_LINK_UP = 0 → Does (.pllUnlock kind unit) s fun t => pllOnly t l)))

/-- The engine divisor and the power states (R87, R376, R388, R390 to R393, R424): APPLY_ENG waits for the engines to be idle, and then the next divisor is in
force; SLEEP and DEEP end with the lowest detail that stands against them, or begin to enter; a node quiescent for QUIET_US has entered, its domains stopped;
a wake cancels an entry or leaves a low state, and at its end the domains run, every memory channel pauses to retrain and what waited goes on. -/
def Obligations.PowerStatesAndTheEngineClock : Prop :=
  ∀ (s : State), let st := s.get PWR_STATE_STATE
    let busy := s.get PWR_CMD_BUSY ≠ 0
    let mirror := s.get MIR_STATUS_STATE ≠ 0
    let idle := ∀ e < 256, s.get (ENG_STATUS_STATE e) = 0 ∨ s.get (ENG_STATUS_STATE e) = 5
    let refused := fun (c : Instr) (de : Nat) => Does c s fun t => EndedRefused s t PWR_CMD_STATUS PWR_CMD_DETAIL de
    let begins := fun (t : State) (n : Nat) => t.get PWR_STATE_STATE = n ∧ Ended s t PWR_CMD_STATUS PWR_CMD_DETAIL [PWR_STATE_STATE] ∧
      t.clk = { s.clk with quietFrom := s.now }
    let stateOf := fun (p : Nat) => s.get (LNK_STATUS_STATE p)
    let noSleep := ∃ p < 72, hasPort s p = true ∧ stateOf p = lkUp ∧ s.get (LNK_CTL_SLEEP_EN p) = 0
    let noDeep := ∃ p < 72, hasPort s p = true ∧ stateOf p ≠ lkDown ∧ stateOf p ≠ lkDisabled ∧ s.get (LNK_CTL_SLEEP_EN p) = 0
    let asks := fun (p : Nat) => hasPort s p = true ∧ stateOf p = lkUp ∧ s.get (LNK_CTL_SLEEP_EN p) ≠ 0 ∧ s.get (LNK_TXSTATE_OUTSTANDING p) = 0 ∧
      (lnkOf s p).sleepSent = false
    let stops := fun (t : State) (l : List Nat) => ∀ d, NMap.find t.dbg.stopped d = if d ∈ l ∧ NMap.find s.dbg.stopped d = none then some s.now
      else NMap.find s.dbg.stopped d
    let entry := fun (t : State) (n : Nat) (f : Fld) => t.get PWR_STATE_STATE = n ∧ Raised s t f
    let logRegs := Sys2Proof.Claims.logRegs
    let logged := fun (t : State) => Sys2Proof.Claims.logs s t utAon 0 0
    let wakes := fun (t : State) => ∀ p < 72, lnkOf t p = if stateOf p = lkSleep ∧ (lnkOf s p).waking = none then { lnkOf s p with
      waking := some s.now } else lnkOf s p
    (s.get CLK_CMD_BUSY ≠ 0 → Does .applyEng s fun t => t = s) ∧
    (s.get CLK_CMD_BUSY = 0 → ¬ idle → Does .applyEng s fun t => t.get CLK_CMD_BUSY = 1 ∧ RegsKept s t [CLK_CMD_BUSY] ∧ t = { s with regs := t.regs }) ∧
    (s.get CLK_CMD_BUSY = 0 → idle → NMap.find s.dbg.stopped 0 = none → Does .applyEng s fun t =>
      t.get CLK_STATUS_ENG_DIV = s.get CLK_CTL_ENG_DIV_NEXT % 4 ∧ t.get CLK_CMD_BUSY = 0 ∧ Raised s t CLK_EVENT_DIV_DONE ∧
      t.get DBG_GAP_ENGINE = (s.get DBG_GAP_ENGINE + 1) % 256 ∧ NMap.find t.dbg.stopped 0 = none ∧
      Ended s t CLK_CMD_STATUS CLK_CMD_DETAIL [CLK_STATUS_ENG_DIV, CLK_CMD_BUSY, CLK_EVENT_DIV_DONE, DBG_GAP_ENGINE, DBG_TSTAT_SOURCE_DROPS,
        MGT_NOTIFY_PENDING] ∧ t = { s with regs := t.regs, dbg := t.dbg }) ∧
    (∀ c ∈ ([.pwrSleep, .pwrDeep, .pwrWake] : List Instr), busy → Does c s fun t => t = s) ∧
    (∀ c ∈ ([.pwrSleep, .pwrDeep] : List Instr), ¬ busy → (st ≠ 0 → refused c 1) ∧ (st = 0 → mirror → refused c 2)) ∧
    (¬ busy → st = 0 → ¬ mirror → s.get CLK_GATE_SWITCH_SLEEP = 0 → noSleep → refused .pwrSleep 3) ∧
    (¬ busy → st = 0 → ¬ mirror → (s.get CLK_GATE_SWITCH_SLEEP ≠ 0 ∨ ¬ noSleep) → Does .pwrSleep s fun t => begins t 1 ∧
      (∀ p < 72, asks p → (lnkOf t p).sleepSent = true) ∧ (∀ p < 72, ¬ asks p → lnkOf t p = lnkOf s p) ∧
      t = { s with
        regs := t.regs
        clk := t.clk
        lnk := t.lnk }) ∧
    (¬ busy → st = 0 → ¬ mirror → noDeep → refused .pwrDeep 3) ∧
    (¬ busy → st = 0 → ¬ mirror → ¬ noDeep → Does .pwrDeep s fun t => begins t 3 ∧ t = { s with regs := t.regs, clk := t.clk }) ∧
    (¬ busy → (st = 0 ∨ st = 5) → refused .pwrWake 1) ∧
    (¬ busy → (st = 1 ∨ st = 3) → Does .pwrWake s fun t => entry t 0 PWR_EVENT_ENTRY_CANCELLED ∧ wakes t ∧
      Ended s t PWR_CMD_STATUS PWR_CMD_DETAIL [PWR_STATE_STATE, PWR_EVENT_ENTRY_CANCELLED, MGT_NOTIFY_PENDING] ∧ t = { s with regs := t.regs, lnk := t.lnk }) ∧
    (¬ busy → (st = 2 ∨ st = 4) → Does .pwrWake s fun t => entry t 5 PWR_EVENT_WOKE ∧ t.get PWR_STATE_LAST_WAKE = 1 ∧ wakes t ∧
      Ended s t PWR_CMD_STATUS PWR_CMD_DETAIL [PWR_STATE_STATE, PWR_STATE_LAST_WAKE, PWR_EVENT_WOKE, MGT_NOTIFY_PENDING] ∧
      t = { s with regs := t.regs, lnk := t.lnk }) ∧
    (∀ n, let on := s.clk.stopped = false ∧ ((n = 2 ∧ s.get PWR_WAKE_EN_LANE ≠ 0) ∨ (n = 3 ∧ s.get PWR_WAKE_EN_LOCAL ≠ 0) ∨
        (n = 4 ∧ s.get PWR_WAKE_EN_TIMER ≠ 0 ∧ s.get PWR_WAKE_TIME_TIME ≤ s.now) ∨ (n = 5 ∧ s.get PWR_WAKE_EN_SIDEBAND ≠ 0) ∨ n = 6)
      (¬ on → Does (.wakeEvent n) s fun t => t = s) ∧ (on → (st = 0 ∨ 5 ≤ st) → Does (.wakeEvent n) s fun t => t = s) ∧
      (on → (st = 1 ∨ st = 3) → Does (.wakeEvent n) s fun t => entry t 0 PWR_EVENT_ENTRY_CANCELLED ∧ wakes t ∧
        RegsKept s t [PWR_STATE_STATE, PWR_EVENT_ENTRY_CANCELLED, MGT_NOTIFY_PENDING] ∧ t = { s with regs := t.regs, lnk := t.lnk }) ∧
      (on → (st = 2 ∨ st = 4) → Does (.wakeEvent n) s fun t => entry t 5 PWR_EVENT_WOKE ∧ t.get PWR_STATE_LAST_WAKE = n ∧ wakes t ∧
        RegsKept s t [PWR_STATE_STATE, PWR_STATE_LAST_WAKE, PWR_EVENT_WOKE, MGT_NOTIFY_PENDING] ∧ t = { s with regs := t.regs, lnk := t.lnk })) ∧
    (let due := quiescent s = true ∧ s.clk.quietFrom + 1000 * s.get PWR_CFG_QUIET_US ≤ s.now
     ((¬ due ∨ (st ≠ 1 ∧ st ≠ 3)) → Does .powerStateEntry s fun t => t = s) ∧
     (due → st = 1 → Does .powerStateEntry s fun t => entry t 2 PWR_EVENT_SLEEP ∧ logged t ∧
       stops t ([0] ++ (if s.get CLK_GATE_SWITCH_SLEEP = 0 then [2] else []) ++ (if s.get CLK_GATE_MGMT_SLEEP = 0 then [3] else [])) ∧
       RegsKept s t ([PWR_STATE_STATE, PWR_EVENT_SLEEP, MGT_NOTIFY_PENDING] ++ logRegs) ∧
       t = { s with
         regs := t.regs
         err := t.err
         dbg := { s.dbg with stopped := t.dbg.stopped } }) ∧
     (due → st = 3 → Does .powerStateEntry s fun t => entry t 4 PWR_EVENT_DEEP ∧ stops t [0, 1, 2] ∧
       (∀ p < 72, hasPort s p = true → (stateOf p = lkUp ∨ stateOf p = lkSleep) → t.get (LNK_STATUS_STATE p) = lkDown ∧
         t.get (LNK_EVENT_DOWN_CAUSE p) = 6) ∧ t.mem = s.mem ∧
       ((∀ p < 72, hasPort s p = true → stateOf p = lkDown ∨ stateOf p = lkDisabled) → logged t ∧
         RegsKept s t ([PWR_STATE_STATE, PWR_EVENT_DEEP, MGT_NOTIFY_PENDING] ++ logRegs) ∧
         t = { s with
           regs := t.regs
           err := t.err
           dbg := { s.dbg with stopped := t.dbg.stopped } }))) ∧
    (st ≠ 5 → Does .wakeDone s fun t => t = s) ∧
    (st = 5 → s.mgt.waits = [] → NMap.find s.dbg.stopped 1 = none → Does .wakeDone s fun t => t.get PWR_STATE_STATE = 0 ∧ logged t ∧
      (∀ d, NMap.find t.dbg.stopped d = if d < 3 ∨ (d = 3 ∧ s.get MGT_STATUS_STATE = 2) then none else NMap.find s.dbg.stopped d) ∧
      (∀ d < 3, NMap.find s.dbg.stopped d ≠ none → let f := if d = 0 then DBG_GAP_ENGINE else if d = 1 then DBG_GAP_NOC else DBG_GAP_SWITCH
        t.get f = (s.get f + 1) % 256) ∧
      (∀ k, k ∈ s.mch.hbmForm ∨ (16 ≤ k ∧ (NMap.find s.mch.dimm (k - 16)).isSome = true) →
        ctlOf t k = { ctlOf s k with
          pauseEnd := (List.range (if k < 16 then 32 else 1)).map fun ch => (ch, s.now + 2000)
          nextRetrain := if k < 16 then (List.range 32).map fun ch => (ch, s.now + 3125000 * (ch + 1)) else [(0, s.now + 100000000)] }) ∧
      RegsKept s t ([PWR_STATE_STATE, DBG_GAP_ENGINE, DBG_GAP_NOC, DBG_GAP_SWITCH, DBG_GAP_MGMT, DBG_TSTAT_SOURCE_DROPS] ++ logRegs) ∧
      t = { s with
        regs := t.regs
        err := t.err
        dbg := t.dbg
        mch := { s.mch with ctl := t.mch.ctl }
        mgt := { s.mgt with calIn := t.mgt.calIn } })

/-- The statements above: time codes keep rack time, timing inputs and the frost group. -/
def Obligations.RackTimeAndItsInputs : Prop :=
  Sys2Proof.Claims.timeCodesKeepRackTime ∧
  Sys2Proof.Claims.timingInputsAndTheFrostGroup

/-! Resets and start-up (chapters 20 and 22), the management complex's boot and updates (chapter 21). -/

/-- The fields that a warm reset keeps (Table 22.7), beside ENG_CTL.OFFLINE of each engine and MGT_CAL_VIEW.USER of each quantity, and those of the
always-on block's CLK_STATUS, which are live (log entry 116). -/
def Sys2Proof.Claims.keeps : List Fld :=
  [CLK_CTL_MGMT_DIV_NEXT, CLK_CTL_NOC_DIV_NEXT, CLK_CTL_ENG_DIV_NEXT, CLK_CTL_REVERT, CLK_CTL_PREF, CLK_TREF_DELAY_NS 0, CLK_TREF_DELAY_NS 1,
   CLK_GATE_MGMT_SLEEP, CLK_GATE_SWITCH_SLEEP, GLB_ADMIN_HASH_HASH 0, GLB_ADMIN_HASH_HASH 1, GLB_ADMIN_HASH_HASH 2, GLB_ADMIN_HASH_HASH 3,
   GLB_ADMIN_CTL_LOCK, CLK_RACK_TIME, MGT_STATUS_RESTARTS, ERR_MOR_STATUS_FROZEN, CLK_STATUS_RACK_VALID, CLK_STATUS_ACTIVE, CLK_STATUS_A_GOOD,
   CLK_STATUS_B_GOOD, CLK_STATUS_ROOT_LOCK]

/-- Fields that a warm reset itself writes. -/
def Sys2Proof.Claims.resetWrites : List Fld :=
  [RST_STATUS_WARM_COUNT, RST_STATUS_LAST_KIND, RST_STATUS_PHASE, ERR_EVENT_PRIOR_FATAL, ERR_SEQ_NEWEST, ERR_MOR_STATUS_BOOTS, ERR_MOR_STATUS_NEWEST,
   ERR_MOR_STATUS_WRAPPED, CLK_STATUS_ENG_DIV, CLK_STATUS_NOC_DIV, CLK_STATUS_MGMT_DIV]

/-- A host fetch asks for bytes of an image (R406, Table 21.2): a BOOT_REQ for 1 to 64 frames from the first byte missing. -/
def Sys2Proof.Claims.fetches (s t : State) (got : List Byte) (total : Option Nat) : Prop := ∃ n, 1 ≤ n ∧ n ≤ 64 ∧
  t.mgt.fetch = some ⟨got, total, s.now, n⟩ ∧ t.fresh = s.fresh + 1 ∧
  t.mgt.eth = if s.get MGT_ETH_LINK_UP = 0 then s.mgt.eth else s.mgt.eth ++ [(if s.get MGT_ETH_HOST_MAC = 0 then 2 ^ 48 - 1 else s.get MGT_ETH_HOST_MAC,
    natLe 1 0xe2 ++ natLe 1 0x07 ++ natLe 2 10 ++ natLe 2 s.node ++ natLe 2 0 ++ natLe 8 s.dev.serial ++ natLe 8 got.length ++ natLe 2 n)]

/-- A warm reset of a kind (R365, R388, R395, R429, Table 22.7): recorded in the moraine log, counted, with everything but the always-on block's state and
the kept fields as after reset, and start-up resumed. -/
def Sys2Proof.Claims.warmReset (s t : State) (kind : Nat) : Prop :=
  let good := s.get CLK_STATUS_A_GOOD ≠ 0 ∨ s.get CLK_STATUS_B_GOOD ≠ 0
  Sys2Proof.Claims.entry s t utAon 0 kind ∧ t.get RST_STATUS_LAST_KIND = kind % 256 ∧ Counts s t RST_STATUS_WARM_COUNT 1 ∧
  Counts s t ERR_MOR_STATUS_BOOTS 1 ∧ t.get ERR_EVENT_PRIOR_FATAL = (if s.get ERR_STATUS_DEVICE_FATAL = 0 then s.get ERR_EVENT_PRIOR_FATAL else 1) ∧
  t.get CLK_STATUS_ENG_DIV = s.get CLK_CTL_ENG_DIV_NEXT % 4 ∧ t.get CLK_STATUS_NOC_DIV = s.get CLK_CTL_NOC_DIV_NEXT % 4 ∧
  t.get CLK_STATUS_MGMT_DIV = s.get CLK_CTL_MGMT_DIV_NEXT % 4 ∧
  (∀ f ∈ Sys2Proof.Claims.keeps, t.get f = s.get f) ∧ (∀ e < 256, t.get (ENG_CTL_OFFLINE e) = s.get (ENG_CTL_OFFLINE e)) ∧
  (∀ q < 4096, t.get (MGT_CAL_VIEW_USER q) = s.get (MGT_CAL_VIEW_USER q)) ∧
  (∀ f : Fld, f.off < 0x200f00000 → f.lo < 64 → (∀ g ∈ Sys2Proof.Claims.keeps ++ Sys2Proof.Claims.resetWrites, f.key ≠ g.key) →
    (∀ e < 256, f.key ≠ (ENG_CTL_OFFLINE e).key ∧ f.key ≠ (ENG_STATUS_STATE e).key) → t.get f = f.reset s.dev) ∧
  (∀ e < 256, t.get (ENG_STATUS_STATE e) = if s.get (ENG_CTL_OFFLINE e) = 0 then 0 else 5) ∧
  t.get RST_STATUS_PHASE = (if tripNow s then 0 else if good then 2 else 1) ∧
  t.clk = { s.clk with
    memHeld := false
    quietFrom := s.now
    latched := none
    hot := tripNow s } ∧
  t.err = { State.reset.err with
    moraine := t.err.moraine
    postLeft := t.err.postLeft
    sbSel := s.err.sbSel
    sbView := s.err.sbView } ∧
  t.mgt = { State.reset.mgt with
    i3c := s.mgt.i3c
    smbus := s.mgt.smbus
    ibi := s.mgt.ibi
    step := t.mgt.step
    fetch := t.mgt.fetch } ∧
  (tripNow s = false → good → t.mgt.step = 2 ∧ ∃ n, 1 ≤ n ∧ n ≤ 64 ∧ t.mgt.fetch = some ⟨[], none, s.now, n⟩) ∧
  (¬ (tripNow s = false ∧ good) → t.mgt = { State.reset.mgt with
    i3c := s.mgt.i3c
    smbus := s.mgt.smbus
    ibi := s.mgt.ibi }) ∧
  t = { State.reset with
    dev := s.dev
    regs := t.regs
    err := t.err
    clk := t.clk
    mgt := t.mgt
    brd := s.brd
    fresh := t.fresh
    pending := s.pending }

/-- Resets and start-up (R394 to R396, R386, R364, R10, Tables 20.6, 20.7 and 21.4): a cold reset leaves only the fuses; a warm reset from the pin, the sideband, the
register or the automatic timer runs at once, or waits until the stopped frost group runs again; start-up goes through its steps as each ends, and a step that
fails is a device-fatal error of the unit that acts. -/
def Obligations.ResetsAndStartUp : Prop :=
  ∀ (s : State), let phase := s.get RST_STATUS_PHASE
    let good := s.get CLK_STATUS_A_GOOD ≠ 0 ∨ s.get CLK_STATUS_B_GOOD ≠ 0
    let asks := fun (i : Instr) (b : State) (kind : Nat) =>
      (s.clk.stopped = false → Does i s fun t => Sys2Proof.Claims.warmReset b t kind) ∧
      (s.clk.stopped = true → Does i s fun t => t = { b with clk := { b.clk with latched := some kind } })
    let low := { s with clk := { s.clk with pinLow := true } }
    (∀ addr pos, Does (.coldReset addr pos) s fun t => t = { State.reset with
      dev := { s.dev with
        smbAddr := addr % 128
        trayPos := pos }
      clk := { State.reset.clk with pinLow := s.clk.pinLow }
      fresh := s.fresh
      pending := s.pending }) ∧
    asks .rstWarm s 4 ∧ (s.brd.pwrGood = true → asks .sbWarmReset s 3 ∧ asks .rstInNLow low 2) ∧
    (s.brd.pwrGood = false → Does .sbWarmReset s (fun t => t = s) ∧ Does .rstInNLow s fun t => t = low) ∧
    Does .rstInNRelease s (fun t => t = { s with clk := { s.clk with pinLow := false } }) ∧
    (∀ a, s.err.resetDue = some a → (a ≤ s.now → asks .autoReset s 5) ∧ (s.now < a → Does .autoReset s fun t => t = s)) ∧
    (s.err.resetDue = none → Does .autoReset s fun t => t = s) ∧
    (let on := { s with clk := { s.clk with
        stopped := false
        bothLost := none } }
     let runs := s.clk.stopped = true ∧ s.get CLK_STATUS_ROOT_LOCK ≠ 0 ∧ s.get CLK_STATUS_RACK_VALID ≠ 0
     (∀ k, runs → s.clk.latched = some k → Does .clockRestart s fun t => Sys2Proof.Claims.warmReset on t k) ∧
     (runs → s.clk.latched = none → phase < 5 → Does .clockRestart s fun t => ∃ k, Sys2Proof.Claims.warmReset on t k)) ∧
    (∀ x : StartIn, let c := Instr.startupPhaseDone x
      let held := s.clk.pinLow = true ∨ shut s = true ∨ s.brd.pwrGood = false ∨ 5 ≤ phase ∨ (phase = 0 ∧ s.clk.hot = true)
      let goes := fun (t : State) (n : Nat) => t.get RST_STATUS_PHASE = n
      let regsOnly := fun (t : State) => t = { s with regs := t.regs }
      let boots := fun (t : State) => goes t 2 ∧ t.mgt.step = 2 ∧ Sys2Proof.Claims.fetches s t [] none ∧ RegsKept s t [RST_STATUS_PHASE] ∧
        t = { s with
          regs := t.regs
          fresh := t.fresh
          mgt := { s.mgt with
            step := t.mgt.step
            fetch := t.mgt.fetch
            eth := t.mgt.eth } }
      let first := s.get RST_STATUS_LAST_KIND = 1
      let site := fun (k : Nat) => bit s.dev.part.hbmSites k
      let die := fun (c : Nat) => bit s.dev.part.iodSites (c / 4)
      let ranks := fun (t : State) (c n : Nat) => ∀ r < 4, t.get (MEMD_RANK_STATE c r) = if r < n then 0 else 5
      (held → Does c s fun t => t = s) ∧
      (¬ held → x.ok = false → let fails : ErrIn := ⟨3, if phase = 0 then utAon else if phase = 1 then utClocks else utMgmt, 0, 0, 0, none, 0, none, 0⟩
        Does c s fun t => goes t phase ∧ Reports s t fails ∧ t.get ERR_STATUS_DEVICE_FATAL = 1 ∧
          RegsKept s t (ERR_STATUS_DEVICE_FATAL :: reportRegs s none) ∧ t.mem = s.mem) ∧
      (¬ held → x.ok = true →
        (phase = 0 → first → s.get ERR_MOR_STATUS_BOOTS = 0 → Does c s fun t => goes t 1 ∧ Sys2Proof.Claims.logs s t utAon 0 1 ∧
          t.get ERR_MOR_STATUS_BOOTS = 1 ∧ RegsKept s t ([RST_STATUS_PHASE, ERR_MOR_STATUS_BOOTS] ++ Sys2Proof.Claims.logRegs) ∧
          t = { s with regs := t.regs, err := t.err }) ∧
        (phase = 0 → first → s.get ERR_MOR_STATUS_BOOTS ≠ 0 → Does c s fun t => goes t 1 ∧ RegsKept s t [RST_STATUS_PHASE] ∧ regsOnly t) ∧
        (phase = 0 → ¬ first → ¬ good → Does c s fun t => goes t 1 ∧ RegsKept s t [RST_STATUS_PHASE] ∧ regsOnly t) ∧
        (phase = 0 → ¬ first → good → Does c s boots) ∧
        (phase = 1 → (good ∧ s.get CLK_STATUS_ROOT_LOCK ≠ 0 ∧ s.get CLK_STATUS_RACK_VALID ≠ 0) → Does c s boots) ∧
        (phase = 1 → ¬ (good ∧ s.get CLK_STATUS_ROOT_LOCK ≠ 0 ∧ s.get CLK_STATUS_RACK_VALID ≠ 0) → Does c s fun t => t = s) ∧
        (phase = 2 → (s.mgt.step = 3 ∨ s.get MGT_STATUS_STATE = 2) → Does c s fun t => goes t 3 ∧
          (∀ k < 16, site k = true → t.get (MEMH_STATUS_STATE k) = 1) ∧
          RegsKept s t (RST_STATUS_PHASE :: ((List.range 16).filter site).map MEMH_STATUS_STATE) ∧ regsOnly t) ∧
        (phase = 2 → ¬ (s.mgt.step = 3 ∨ s.get MGT_STATUS_STATE = 2) → Does c s fun t => t = s) ∧
        (phase = 3 → s.plc.map = [] → Does c s fun t => goes t 4 ∧ (∀ c < 24, die c = true → t.get (MEMD_STATUS_STATE c) = 1) ∧
            (∀ k, k ∈ t.mch.hbmForm ↔ k < 16 ∧ site k = true ∧ k ∈ x.trained) ∧
            (∀ k < 16, site k = true → t.get (MEMH_STATUS_STATE k) = if k ∈ x.trained then 2 else 3) ∧
            (∀ k < 16, ∀ n < 64, ¬ (site k = true ∧ k ∈ x.trained) → t.get (MEMH_PC_STATE k n) = if site k = true then 4 else 5) ∧
            (∀ i < 16384, ∃ f, NMap.find t.plc.map (8372224 + i) = some { Frame.zeroEntry with
              frame := f
              tier := .hbm
              zero := false }) ∧ t.mem = s.mem ∧ t.ext = s.ext) ∧
        (phase = 4 → s.mch.dimm = [] → x.dimms = [] → x.ports = [] → Does c s fun t => goes t 5 ∧ t.get RST_TIME_READY = s.now % 2 ^ 64 ∧
          bit (t.get MGT_NOTIFY_PENDING) 16 = true ∧ (∀ c < 24, die c = true → t.get (MEMD_STATUS_STATE c) = 0 ∧ ranks t c 0) ∧
          RegsKept s t ([RST_STATUS_PHASE, RST_TIME_READY, MGT_NOTIFY_PENDING, EXT_CAP_NODE_CAP, EXT_EVENT_OVERCOMMIT] ++
            ((List.range 24).filter die).flatMap fun c => MEMD_STATUS_STATE c :: (List.range 4).map (MEMD_RANK_STATE c)) ∧ regsOnly t) ∧
        (∀ ch ds, phase = 4 → s.mch.dimm = [] → x.dimms = [(ch, ds)] → x.ports = [] → ch < 24 → die ch = true → ds ≠ [] →
          let serves := chanListed ds = true ∧ allAlike ds = true
          Does c s fun t => goes t 5 ∧ t.mch.dimm = [(ch, ds)] ∧
          (serves → t.get (MEMD_STATUS_STATE ch) = 2 ∧ t.get (MEMD_SET_STATE (ch / 4)) = 1 ∧ ranks t ch (ranksOf ds)) ∧
          (¬ serves → t.get (MEMD_STATUS_STATE ch) = 6 ∧ t.get (MEMD_SET_STATE (ch / 4)) = 4 ∧ ranks t ch 0))))

/-- What a management restart does (R399, R400, R430, Table 21.1 steps 1 to 3): the slot's image runs again where it verifies, else the host is asked. -/
def Sys2Proof.Claims.restarts (s t : State) (slot : Option (List Byte)) : Prop :=
  t.get MGT_STATUS_STATE = 3 ∧ Counts s t MGT_STATUS_RESTARTS 1 ∧ t.get MGT_FW_BOOT_OK = 0 ∧ t.get RST_STATUS_LAST_KIND = 6 ∧
  NMap.find t.dbg.stopped 3 = some ((NMap.find s.dbg.stopped 3).getD s.now) ∧ t.mgt.downAt = s.now ∧ t.mgt.refetched = false ∧
  (∀ b i, slot = some b → imageOk s 1 b = some i → t.mgt.step = 3 ∧ t.mgt.started = s.now ∧ t.mgt.slot = some b ∧ t.mgt.fetch = none ∧
    NMap.find t.mgt.images 1 = some i ∧ t.get MGT_FW_SOURCE = 1 ∧ t.get MGT_FW_SVN = i.svn % 256) ∧
  ((∀ b, slot = some b → imageOk s 1 b = none) → t.mgt.step = 2 ∧ Sys2Proof.Claims.fetches s t [] none)

/-- The registers that it changes. -/
def Sys2Proof.Claims.restartRegs : List Fld :=
  [MGT_STATUS_STATE, MGT_STATUS_RESTARTS, MGT_FW_BOOT_OK, RST_STATUS_LAST_KIND, MGT_FW_SOURCE, MGT_FW_SVN, ERR_SEQ_NEWEST, ERR_MOR_STATUS_NEWEST,
   ERR_MOR_STATUS_WRAPPED]

/-- An image block that a type's check accepts (R324). -/
def Sys2Proof.Claims.imageIs (s : State) (ty : Nat) (b : List Byte) (i : Image) : Prop :=
  let blk := b.drop (b.length - 128)
  128 ≤ b.length ∧ leNat (blk.take 1) = ty ∧ i.svn = leNat (slice blk 1 1) ∧ i.digest = slice blk 32 32 ∧
  i.digest = (Config.sha256 (b.take (b.length - 128))).toList ∧ Config.ecdsaVerify Config.imageKey (blk.take 64) (blk.drop 64) = true ∧ s.dev.svn ty ≤ i.svn

/-- Boot, restart and update of the management complex (R324, R399, R400, R405, R406, R430, Table 21.1): a watchdog not kicked in time reports and restarts it; its
image reports BOOT_OK, or after BOOT_LIMIT the host's is fetched, and where that fails too the complex is held; a fetch goes on from the first byte missing and
starts over with an image that does not verify; an update starts its units only with an image that does, and ends with the last of them. -/
def Obligations.TheManagementComplexBoots : Prop :=
  ∀ (s : State), let st := s.get MGT_STATUS_STATE
    let ms := s.get MGT_WDOG_TIMEOUT_MS
    let slow : ErrIn := { cls := 1, unitType := utMgmt, unitIndex := 0, cause := 0x000a, status := 0, tenant := none, agent := 0, addr := none, info := 0 }
    let failed : ErrIn := { cls := 2, unitType := utMgmt, unitIndex := 0, cause := 0x0006, status := 0, tenant := none, agent := 0, addr := none, info := 0 }
    let late := st = 2 ∧ ms ≠ 0 ∧ s.mgt.kicked + 1000000 * ms ≤ s.now
    let limit := s.mgt.step = 3 ∧ s.mgt.started + 1000000 * s.get MGT_FW_BOOT_LIMIT_MS ≤ s.now
    let runs := fun (t : State) (b : List Byte) (i : Image) (source : Nat) => t.mgt.step = 3 ∧ t.mgt.started = s.now ∧ t.mgt.slot = some b ∧
      t.mgt.fetch = none ∧ NMap.find t.mgt.images 1 = some i ∧ OthersKept s.mgt.images t.mgt.images 1 ∧ t.get MGT_FW_SOURCE = source ∧
      t.get MGT_FW_SVN = i.svn % 256
    let fetchOnly := fun (t : State) => t = { s with
      fresh := t.fresh
      mgt := { s.mgt with
        step := t.mgt.step
        fetch := t.mgt.fetch
        eth := t.mgt.eth } }
    let refused := fun (de : Nat) => Does .mgtApply s fun t => EndedRefused s t MGT_UPD_CTL_STATUS MGT_UPD_CTL_DETAIL de
    let updRegs := [MGT_UPD_STATUS_PENDING, MGT_EVENT_UPD_DONE, MGT_NOTIFY_PENDING]
    (late → Plain s slow → Does .mgmtWatchdog s fun t => Reports s t slow ∧ Sys2Proof.Claims.restarts s t s.mgt.slot ∧
      RegsKept s t (reportRegs s none ++ Sys2Proof.Claims.restartRegs) ∧ t.mem = s.mem ∧ t.fab = s.fab) ∧
    (¬ late → Does .mgmtWatchdog s fun t => t = s) ∧
    Does .mgtKick s (fun t => t = { s with mgt := { s.mgt with kicked := s.now } }) ∧
    (st = 0 → Does .mgtRestart s fun t => t = s) ∧
    (st ≠ 0 → Does .mgtRestart s fun t => Sys2Proof.Claims.restarts s t s.mgt.slot ∧ Sys2Proof.Claims.entry s t utMgmt 0 6 ∧
      RegsKept s t Sys2Proof.Claims.restartRegs ∧ t = { s with
        regs := t.regs
        err := t.err
        mgt := t.mgt
        fresh := t.fresh
        dbg := { s.dbg with stopped := t.dbg.stopped } }) ∧
    (s.mgt.step ≠ 3 → Does .bootOk s fun t => t = s) ∧
    (s.mgt.step = 3 → NMap.find s.dbg.stopped 3 ≠ none → (∀ r ∈ s.err.openRecs, ¬ (r.unitType = utMgmt ∧ r.unitIndex = 0)) → s.clk.memHeld = false →
      let up := fun (t : State) => t.get MGT_STATUS_STATE = 2 ∧ t.get MGT_FW_BOOT_OK = 1 ∧ t.mgt.step = 0 ∧ t.mgt.kicked = s.now ∧ t.mgt.upAt = s.now ∧
        t.get DBG_GAP_MGMT = (s.get DBG_GAP_MGMT + 1) % 256 ∧ NMap.find t.dbg.stopped 3 = none ∧ (st = 3 → Raised s t MGT_EVENT_RESTARTED) ∧
        RegsKept s t ([MGT_STATUS_STATE, MGT_FW_BOOT_OK, DBG_GAP_MGMT, DBG_TSTAT_SOURCE_DROPS, MGT_EVENT_RESTARTED] ++ updRegs) ∧
        t = { s with
          regs := t.regs
          mgt := t.mgt
          dbg := t.dbg }
      (s.mgt.next = none → Does .bootOk s fun t => up t ∧ t.get MGT_UPD_STATUS_PENDING = s.get MGT_UPD_STATUS_PENDING ∧ t.mgt.next = none) ∧
      (∀ i, s.mgt.next = some (1, i) → NMap.find s.mgt.images 1 = some i → s.mgt.units = [0] → Does .bootOk s fun t => up t ∧
        t.get MGT_UPD_STATUS_PENDING = 0 ∧ Raised s t MGT_EVENT_UPD_DONE ∧ t.mgt.next = none ∧ t.mgt.units = [] ∧ NMap.find t.mgt.images 1 = some i) ∧
      (∀ i, s.mgt.next = some (1, i) → NMap.find s.mgt.images 1 ≠ some i → Does .bootOk s fun t => up t ∧ t.get MGT_UPD_STATUS_PENDING = 0 ∧
        t.get MGT_EVENT_UPD_DONE = s.get MGT_EVENT_UPD_DONE ∧ t.mgt.next = none ∧ t.mgt.units = [] ∧ t.mgt.images = s.mgt.images)) ∧
    (s.mgt.step = 3 → NMap.find s.dbg.stopped 3 = none → s.clk.memHeld = true → s.clk.stopped = false → shut s = false → s.mgt.next = none →
      Does .bootOk s fun t => t.get MGT_STATUS_STATE = 2 ∧ t.clk = { s.clk with memHeld := false } ∧ ∀ k ∈ s.mch.hbmForm, k < 16 →
        (ctlOf t k).pauseEnd = (List.range 32).map fun ch => (ch, s.now + 2000)) ∧
    (¬ limit → Does .bootLimit s fun t => t = s) ∧
    (limit → s.mgt.refetched = false → Does .bootLimit s fun t => Raised s t MGT_EVENT_REFETCH ∧ RegsKept s t [MGT_EVENT_REFETCH, MGT_NOTIFY_PENDING] ∧
      t.mgt.refetched = true ∧ t.mgt.step = 2 ∧ Sys2Proof.Claims.fetches s t [] none ∧ t = { s with
        regs := t.regs
        fresh := t.fresh
        mgt := { s.mgt with
          refetched := true
          step := 2
          fetch := t.mgt.fetch
          eth := t.mgt.eth } }) ∧
    (limit → s.mgt.refetched = true → Does .bootLimit s fun t => t.get MGT_STATUS_STATE = 4 ∧ t.mgt = { s.mgt with step := 0 } ∧ t.mem = s.mem ∧
      (Plain s failed → Reports s t failed)) ∧
    (s.mgt.fetch = none → (∀ off total data, Does (.bootData off total data) s fun t => t = s) ∧ Does .bootFetchRetry s fun t => t = s) ∧
    (∀ f, s.mgt.fetch = some f → (s.now < f.at_ + 10000000 → Does .bootFetchRetry s fun t => t = s) ∧
      (f.at_ + 10000000 ≤ s.now → Does .bootFetchRetry s fun t => Sys2Proof.Claims.fetches s t f.got f.total ∧ fetchOnly t ∧ t.mgt.step = s.mgt.step)) ∧
    (∀ f off total data, s.mgt.fetch = some f → let c := Instr.bootData off total data
      let fits := s.get MGT_ETH_LINK_UP ≠ 0 ∧ off = f.got.length ∧ data ≠ [] ∧ data.length ≤ 1392
      let n := f.total.getD total
      let got := (f.got ++ data).take n
      let tooFar := fun (t : State) => t.mgt.step = 2 ∧ Sys2Proof.Claims.fetches s t [] none ∧ fetchOnly t
      (¬ fits → Does c s fun t => t = s) ∧ (fits → 67108864 < n → Does c s tooFar) ∧
      (fits → n ≤ 67108864 → got.length < n → 1 < f.left → Does c s fun t => t = { s with mgt := { s.mgt with fetch := some ⟨got, some n, s.now, f.left - 1⟩ } }) ∧
      (fits → n ≤ 67108864 → got.length < n → f.left ≤ 1 → Does c s fun t => Sys2Proof.Claims.fetches s t got (some n) ∧ fetchOnly t ∧
        t.mgt.step = s.mgt.step) ∧
      (∀ i, fits → n ≤ 67108864 → n ≤ got.length → Sys2Proof.Claims.imageIs s 1 got i → Does c s fun t => runs t got i 2 ∧
        RegsKept s t [MGT_FW_SOURCE, MGT_FW_SVN] ∧ t = { s with regs := t.regs, mgt := t.mgt }) ∧
      (fits → n ≤ 67108864 → n ≤ got.length → (∀ i, ¬ Sys2Proof.Claims.imageIs s 1 got i) → Does c s tooFar)) ∧
    (let ty := s.get MGT_UPD_CTL_TYPE
     let ready := s.get MGT_UPD_STATUS_PENDING = 0 ∧ st = 2
     (¬ ready → refused 1) ∧ (ready → NMap.find s.ext.table (s.get MGT_UPD0_EXTENT_ID) = none → refused 2) ∧ (ready → updImage s = none → refused 2) ∧
     (∀ b, ready → updImage s = some b → let own := leNat (slice b (b.length - 128) 1)
       ((∀ i, ¬ Sys2Proof.Claims.imageIs s own b i) → Does .mgtApply s fun t => Raised s t MGT_EVENT_UPD_FAIL ∧
         t.get MGT_UPD_CTL_STATUS = stPermission ∧ t.get MGT_UPD_CTL_DETAIL = 3 ∧
         RegsKept s t [MGT_EVENT_UPD_FAIL, MGT_UPD_CTL_STATUS, MGT_UPD_CTL_DETAIL, MGT_NOTIFY_PENDING] ∧ t = { s with regs := t.regs }) ∧
       (∀ i, Sys2Proof.Claims.imageIs s own b i → (own ≠ ty → refused 4) ∧
         (own = ty → 2 ≤ ty → ty ≤ 5 → Does .mgtApply s fun t => t.mgt = { s.mgt with
             next := some (ty, i)
             units := t.mgt.units } ∧ t.get MGT_UPD_STATUS_PENDING = t.mgt.units.length % 65536 ∧
           (ty = 2 → t.mgt.units = List.range 16) ∧ (ty = 4 → t.mgt.units = NMap.keys s.mch.dimm) ∧
           (ty = 5 → ∀ p, p ∈ t.mgt.units ↔ hasPort s p = true) ∧
           (ty = 3 → ∀ u, u ∈ t.mgt.units ↔ u / 32 ∈ s.mch.hbmForm) ∧
           Ended s t MGT_UPD_CTL_STATUS MGT_UPD_CTL_DETAIL [MGT_UPD_STATUS_PENDING] ∧ t = { s with regs := t.regs, mgt := t.mgt }) ∧
         (own = ty → ty = 1 → Does .mgtApply s fun t => Sys2Proof.Claims.restarts s t (some b) ∧ t.mgt.next = some (1, i) ∧ t.mgt.units = [0] ∧
           t.get MGT_UPD_STATUS_PENDING = 1 ∧
           Ended s t MGT_UPD_CTL_STATUS MGT_UPD_CTL_DETAIL (MGT_UPD_STATUS_PENDING :: Sys2Proof.Claims.restartRegs))))) ∧
    (∀ u, (s.mgt.next = none ∨ u ∉ s.mgt.units) → Does (.unitImageApply u) s fun t => t = s) ∧
    (∀ u ty i, s.mgt.next = some (ty, i) → u ∈ s.mgt.units → let left := s.mgt.units.filter (· ≠ u)
      let now := (ty = 2 ∧ ∀ l ∈ s.eng.launches, l.held = true → ∀ e ∈ l.engines, e / 16 ≠ u) ∨ ((ty = 3 ∨ ty = 4) ∧ s.mgt.loadEnd ≤ s.now) ∨
        (ty = 5 ∧ s.get (LNK_STATUS_STATE u) = lkTraining)
      (¬ now → Does (.unitImageApply u) s fun t => t = s) ∧
      (now → Does (.unitImageApply u) s fun t => t.mgt.units = left ∧ t.get MGT_UPD_STATUS_PENDING = left.length % 65536 ∧ RegsKept s t updRegs ∧
        (left ≠ [] → t.mgt.next = s.mgt.next ∧ t.get MGT_EVENT_UPD_DONE = s.get MGT_EVENT_UPD_DONE) ∧
        (left = [] → t.mgt.next = none ∧ NMap.find t.mgt.images ty = some i ∧ OthersKept s.mgt.images t.mgt.images ty ∧ Raised s t MGT_EVENT_UPD_DONE) ∧
        ((ty = 3 ∨ ty = 4) → let k := if ty = 3 then u / 32 else 16 + u
          let ch := if ty = 3 then u % 32 else 0
          t.mgt.loadEnd = s.now + 400000 ∧ NMap.find (ctlOf t k).pauseEnd ch = some (max (NMap.getD (ctlOf s k).pauseEnd ch 0) (s.now + 400000))) ∧
        (ty ≠ 3 → ty ≠ 4 → t.mch = s.mch) ∧
        t = { s with
          regs := t.regs
          mgt := t.mgt
          mch := { s.mch with ctl := t.mch.ctl } }))

/-! Management messages, notifications, the sideband, calibration and metering (chapter 21), and the board (chapter 23). -/

/-- A management frame: the header of Table 21.2 and a payload. -/
def Sys2Proof.Claims.frame (s : State) (kind : Nat) (body : List Byte) : List Byte :=
  natLe 1 0xe2 ++ natLe 1 kind ++ natLe 2 body.length ++ natLe 2 s.node ++ natLe 2 0 ++ natLe 8 s.dev.serial ++ body

/-- The Ethernet frames sent after one more is, where the port is up and `on` holds (R401). -/
def Sys2Proof.Claims.ethAfter (s : State) (on : Prop) [Decidable on] (kind : Nat) (body : List Byte) : List (Nat × List Byte) :=
  if on ∧ s.get MGT_ETH_LINK_UP ≠ 0 then
    s.mgt.eth ++ [(if s.get MGT_ETH_HOST_MAC = 0 then 2 ^ 48 - 1 else s.get MGT_ETH_HOST_MAC, Sys2Proof.Claims.frame s kind body)]
  else s.mgt.eth

/-- A management frame sent to an agent in a MGMT packet, and kept until its MGMT_RSP (R279, R281, R282, R401). -/
def Sys2Proof.Claims.mgmtSent (s t : State) (agent kind : Nat) (body : List Byte) : Prop :=
  ∀ tag, freeTag s agent = some tag →
    let q := { request s 0x38 4 agent 0 with
      len := (Sys2Proof.Claims.frame s kind body).length
      payload := Sys2Proof.Claims.frame s kind body
      tag := tag
      psn := NMap.getD s.fab.psn (8 * agent) 0
      srcInc := s.get FAB_CFG_INCARN }
    Sends s t q ∧ NMap.find t.fab.reqs (4096 * agent + tag) = some ⟨q, s.now, 0, .mgmt⟩ ∧
    OthersKept s.fab.reqs t.fab.reqs (4096 * agent + tag) ∧
    t.fab = { s.fab with tx := t.fab.tx, reqs := t.fab.reqs, psn := t.fab.psn }

/-- Owner records, notifications, the management port, the sideband and calibration (R401, R402, R404, R407, R408, R418, R442, Tables 21.3 to 21.5, 21.10): the first owner
record of this device locks the administrator's hash; a new PENDING bit is told after HOLDOFF_US and told again every RESEND_MS; a bit cleared while its
source is still set is set again; the sideband reads its registers, writes three of them, and wakes the node; a user offset is stored within its limit. -/
def Obligations.ManagementMessagesAndTheSideband : Prop :=
  ∀ (s : State), let up := s.get MGT_STATUS_STATE = 2
    let link := s.get MGT_ETH_LINK_UP ≠ 0
    let locked := s.get GLB_ADMIN_CTL_LOCK ≠ 0
    let alive := s.mgt.step = 3 ∨ up
    let pend := s.get MGT_NOTIFY_PENDING
    let news := s.get MGT_CFG_NOTIFY_EN ≠ 0 ∧ ∃ b < 17, bit pend b = true ∧ bit s.mgt.told b = false
    let agent := s.get MGT_CFG_NOTIFY_AGENT
    let body := natLe 8 pend ++ natLe 8 s.now ++ natLe 8 (s.get ERR_SEQ_NEWEST)
    let told := fun (t : State) => Sys2Proof.Claims.mgmtSent s t agent 0x03 body ∧ t.mgt = { s.mgt with
        eth := Sys2Proof.Claims.ethAfter s (s.get MGT_CFG_NOTIFY_ETH ≠ 0 ∧ up) 0x03 body
        told := pend
        toldAt := some s.now } ∧ t = { s with mgt := t.mgt, fab := t.fab }
    let reach := s.brd.pwrGood = true ∧ (s.mgt.i3c.isSome = true ∨ s.mgt.smbus = true)
    (∀ data, let ok := data.length = 64 ∧ leNat (data.take 2) = 1 ∧ leNat (slice data 8 8) = s.dev.serial
      (locked ∨ ¬ ok ∨ ¬ alive ∨ ¬ link → Does (.mgtOwner data) s fun t => t = s) ∧
      (¬ locked → ok → alive → link → Does (.mgtOwner data) s fun t => t.get GLB_ADMIN_CTL_LOCK = 1 ∧
        (∀ n < 4, t.get (GLB_ADMIN_HASH_HASH n) = leNat (slice data (0x10 + 8 * n) 8)) ∧
        RegsKept s t (GLB_ADMIN_CTL_LOCK :: (List.range 4).map GLB_ADMIN_HASH_HASH) ∧
        t = { s with regs := t.regs, mgt := { s.mgt with asked := none } })) ∧
    (let asks := ¬ locked ∧ alive ∧ ∀ a, s.mgt.asked = some a → a + 100000000 ≤ s.now
     (asks → Does .ownerPoll s fun t => t = { s with mgt := { s.mgt with
        eth := Sys2Proof.Claims.ethAfter s True 0x09 []
        asked := some s.now } }) ∧
     (¬ asks → Does .ownerPoll s fun t => t = s)) ∧
    (let due := news ∧ ∀ a, s.mgt.toldAt = some a → a + 1000 * s.get MGT_CFG_HOLDOFF_US ≤ s.now
     pend < 2 ^ 17 → s.mgt.told < 2 ^ 17 → (due → Does .mgtNotify s told) ∧ (¬ due → Does .mgtNotify s fun t => t = s)) ∧
    (let due := s.get MGT_CFG_NOTIFY_EN ≠ 0 ∧ pend ≠ 0 ∧ ∃ a, s.mgt.toldAt = some a ∧ a + 1000000 * s.get MGT_CFG_RESEND_MS ≤ s.now
     (due → Does .notifyResend s told) ∧ (¬ due → Does .notifyResend s fun t => t = s)) ∧
    (∀ v : Word64, Does (.mgtNotifyWrite v) s fun t => RegsKept s t [MGT_NOTIFY_PENDING] ∧
      (∀ b < 17, bit (t.get MGT_NOTIFY_PENDING) b = (bit pend b && (!bit v.toNat b || sourceSet s b)) ∧
        bit t.mgt.told b = (bit s.mgt.told b && !(bit pend b && bit v.toNat b))) ∧
      t = { s with regs := t.regs, mgt := { s.mgt with told := t.mgt.told } }) ∧
    (link → Does .ethDown s fun t => t.get MGT_ETH_LINK_UP = 0 ∧ Raised s t MGT_EVENT_ETH_DOWN ∧
      RegsKept s t [MGT_ETH_LINK_UP, MGT_EVENT_ETH_DOWN, MGT_NOTIFY_PENDING] ∧ t = { s with regs := t.regs }) ∧
    (¬ link → Does .ethDown s fun t => t = s) ∧
    (1024 ∈ s.clk.pll → Does .ethLinkUp s fun t => t.get MGT_ETH_LINK_UP = 1 ∧ RegsKept s t [MGT_ETH_LINK_UP] ∧ t = { s with regs := t.regs }) ∧
    (1024 ∉ s.clk.pll → Does .ethLinkUp s fun t => t = s) ∧
    (∀ off, (¬ reach → Does (.sbRead off) s fun t => t = s) ∧
      (∀ fs f, reach → fs ∈ [ERR_MOR_STATUS, ERR_SEQ, CLK_STATUS, PWR_STATE, RST_STATUS, MGT_STATUS, MGT_TELEM0, MGT_TELEM1] → f ∈ fs → off = f.off →
        Does (.sbRead off) s fun t => t = { s with mgt := { s.mgt with sbData := regVal s fs } }) ∧
      (reach → off = 0xd00038 → Does (.sbRead off) s fun t => t = { s with mgt := { s.mgt with sbData := s.err.sbSel } }) ∧
      (∀ n < 8, reach → off = 0xd00040 + 8 * n → Does (.sbRead off) s fun t =>
        t = { s with mgt := { s.mgt with sbData := s.err.sbView.getD n 0 } }) ∧
      (reach → assigned off = false → Does (.sbRead off) s fun t => t = { s with mgt := { s.mgt with sbData := 0 } })) ∧
    (∀ (off : Nat) (v : Word64), let alert := MGT_TELEM1_ALERT_W
      (¬ reach → Does (.sbWrite off v) s fun t => t = s) ∧
      (reach → off ∉ [0xd00080, 0xd00038, 0xf000a8] → Does (.sbWrite off v) s fun t => t = s) ∧
      (reach → off = 0xd00080 → v.toNat % 4 = 1 → exec (.sbWrite off v) s = exec .moraineFreeze s) ∧
      (reach → off = 0xd00080 → v.toNat % 4 = 2 → exec (.sbWrite off v) s = exec .moraineUnfreeze s) ∧
      (reach → off = 0xd00038 → Does (.sbWrite off v) s fun t => bits t.err.sbSel 31 30 = 2 ∧ bits t.err.sbSel 15 0 = v.toNat % 65536 ∧
        (∀ r, NMap.find s.err.moraine (v.toNat % 65536) = some r →
          t.err.sbView = (List.range 8).map fun n => leNat (slice (Sys2Proof.Claims.loggedBytes r) (8 * n) 8)) ∧
        (NMap.find s.err.moraine (v.toNat % 65536) = none → t.err.sbView = List.replicate 8 0) ∧
        t = { s with err := { s.err with sbSel := t.err.sbSel, sbView := t.err.sbView } }) ∧
      (reach → off = 0xf000a8 → Does (.sbWrite off v) s fun t => t.get alert = v.toNat % 65536 ∧ RegsKept s t [alert] ∧ t = { s with regs := t.regs })) ∧
    (let wakes := reach ∧ s.get PWR_WAKE_EN_SIDEBAND ≠ 0 ∧ s.clk.stopped = false
     (¬ wakes → Does .sbWake s fun t => t = s) ∧
     (wakes → (s.get PWR_STATE_STATE = 2 ∨ s.get PWR_STATE_STATE = 4) → Does .sbWake s fun t => t.get PWR_STATE_STATE = 5 ∧
       t.get PWR_STATE_LAST_WAKE = 5 ∧ Raised s t PWR_EVENT_WOKE ∧
       RegsKept s t [PWR_STATE_STATE, PWR_STATE_LAST_WAKE, PWR_EVENT_WOKE, MGT_NOTIFY_PENDING] ∧ t = { s with regs := t.regs, lnk := t.lnk }) ∧
     (wakes → (s.get PWR_STATE_STATE = 1 ∨ s.get PWR_STATE_STATE = 3) → Does .sbWake s fun t => t.get PWR_STATE_STATE = 0 ∧
       Raised s t PWR_EVENT_ENTRY_CANCELLED ∧ RegsKept s t [PWR_STATE_STATE, PWR_EVENT_ENTRY_CANCELLED, MGT_NOTIFY_PENDING] ∧
       t = { s with regs := t.regs, lnk := t.lnk })) ∧
    (let falls := s.brd.pwrGood = true ∧ s.mgt.i3c = none ∧ s.brd.goodAt + 100000000 ≤ s.now
     (falls → Does .smbusFallback s fun t => t = { s with mgt := { s.mgt with smbus := true } }) ∧
     (¬ falls → Does .smbusFallback s fun t => t = s)) ∧
    (∀ a, (s.brd.pwrGood = true → s.mgt.smbus = false → Does (.dynamicAddressAssigned a) s fun t =>
        t = { s with mgt := { s.mgt with i3c := some (a % 128) } }) ∧
      ((s.brd.pwrGood = false ∨ s.mgt.smbus = true) → Does (.dynamicAddressAssigned a) s fun t => t = s)) ∧
    (∀ v : Word64, let q := s.get MGT_CAL_SEL_ID
      let u := bits v.toNat 47 32
      let within := fun (lo hi lim : Nat) => lo ≤ q ∧ q < hi ∧ (toInt 16 u).natAbs ≤ lim
      let ok := within 0 0x28 8 ∨ within 0x100 0x220 5 ∨ within 0x300 0x340 16 ∨ within 0x400 0x402 10 ∨ within 0x800 0x1000 0
      (ok → Does (.calUserWrite v) s fun t => t.get (MGT_CAL_VIEW_USER q) = u ∧ RegsKept s t [MGT_CAL_VIEW_USER q] ∧ t = { s with regs := t.regs }) ∧
      (¬ ok → Does (.calUserWrite v) s fun t => t = s))

/-- The 192 bytes of a usage report, signed (Table 21.7, R410). -/
def Sys2Proof.Claims.usageBytes (s : State) (seq : Nat) (restarted : Bool) (r : Report) : List Byte :=
  let flags := (if r.gap then 1 else 0) + (if restarted then 2 else 0) + (if r.final then 4 else 0)
  let body := natLe 2 1 ++ natLe 1 r.slot ++ natLe 1 flags ++ natLe 4 r.comp ++ natLe 8 s.dev.serial ++ natLe 8 seq ++ natLe 8 r.start ++
    natLe 8 r.stop ++ natLe 2 r.tenant ++ List.replicate 6 0#8 ++ r.counts.flatMap (natLe 8) ++ List.replicate 40 0#8
  body ++ (Config.ecdsaSign 0 body).toList

/-- A usage report has gone out with the next REPORT_SEQ. -/
def Sys2Proof.Claims.reported (s t : State) (restarted : Bool) (r : Report) : Prop :=
  let seq := (s.get MGT_REPORT_SEQ + 1) % 2 ^ 64
  let b := Sys2Proof.Claims.usageBytes s seq restarted r
  t.get MGT_REPORT_SEQ = seq ∧ Sys2Proof.Claims.mgmtSent s t (s.get MGT_CFG_REPORT_AGENT) 0x04 b ∧
  t.mgt.eth = Sys2Proof.Claims.ethAfter s (s.get MGT_CFG_REPORT_ETH ≠ 0) 0x04 b

/-- Metering (R409, R410, Tables 21.6 and 21.7): a write of MGT_METER_CFG ends a slot's binding with its final report and starts a new meter; while the complex runs,
every bound meter is reported at each multiple of REPORT_S, and reports kept through a restart go first. -/
def Sys2Proof.Claims.usageIsMetered : Prop :=
  ∀ (s : State) (slot : Nat), let up := s.get MGT_STATUS_STATE = 2
    let bank := NMap.getD s.dbg.tenCnt
    let macs := fun (k : Nat) => (List.range 10).foldl (fun n i => n + NMap.getD (bank k []) i 0) 0
    let bytes := fun (k : Nat) => NMap.getD (bank k []) 23 0 + NMap.getD (bank k []) 26 0
    let fresh := fun (k : Nat) => (⟨s.now, 0, 0, macs k, bytes k, 0, false⟩ : Meter)
    let report := fun (k : Nat) (m : Meter) (comp : Nat) (final : Bool) => (⟨slot, m.gap, final, comp, m.start, s.now, k,
      [m.active, m.engine, macs k - m.macs0, bytes k - m.bytes0, m.held / 1000000]⟩ : Report)
    let cfg := MGT_METER_CFG slot
    (∀ v : Word64, let binds := bit v.toNat 0
      let stores := fun (t : State) => t.get (MGT_METER_CFG_COMP_ID slot) = v.toNat / 2 ^ 32 ∧ t.get (MGT_METER_CFG_BIND slot) = v.toNat % 2
      (64 ≤ slot → Does (.meterBind slot v) s fun t => t = s) ∧
      (∀ k r, slot < 64 → slotRec s slot = some (k, r) →
        let meter := fun (t : State) => OthersKept s.mgt.meters t.mgt.meters slot ∧
          NMap.find t.mgt.meters slot = if binds then some (fresh k) else none
        (NMap.find s.mgt.meters slot = none → Does (.meterBind slot v) s fun t => stores t ∧ meter t ∧ RegsKept s t cfg ∧
          t = { s with regs := t.regs, mgt := { s.mgt with meters := t.mgt.meters } }) ∧
        (∀ m, NMap.find s.mgt.meters slot = some m → let final := report k m (s.get (MGT_METER_CFG_COMP_ID slot)) true
          (up → Does (.meterBind slot v) s fun t => stores t ∧ meter t ∧ Sys2Proof.Claims.reported s t false final ∧
            RegsKept s t (MGT_REPORT_SEQ :: cfg) ∧ t.mem = s.mem) ∧
          (¬ up → Does (.meterBind slot v) s fun t => stores t ∧ meter t ∧ t.mgt.due = s.mgt.due ++ [final] ∧ RegsKept s t cfg ∧
            t = { s with regs := t.regs, mgt := { s.mgt with meters := t.mgt.meters, due := t.mgt.due } })))) ∧
    (let period := 1000000000 * s.get MGT_CFG_REPORT_S
     let last := s.now / period * period
     let due := s.get MGT_CFG_REPORT_EN ≠ 0 ∧ s.mgt.reported < last
     (¬ up → Does .usageReport s fun t => t = s) ∧ (up → ¬ due → s.mgt.due = [] → Does .usageReport s fun t => t = s) ∧
     (∀ r, up → ¬ due → s.mgt.due = [r] → Does .usageReport s fun t => Sys2Proof.Claims.reported s t true r ∧ t.mgt.due = [] ∧
       t.mgt.meters = s.mgt.meters ∧ RegsKept s t [MGT_REPORT_SEQ] ∧ t.mem = s.mem) ∧
     (up → due → s.mgt.due = [] → (∀ m ∈ s.mgt.meters, last < m.2.start) → Does .usageReport s fun t => t = { s with mgt := { s.mgt with
       reported := last } }) ∧
     (∀ m k r, up → due → s.mgt.due = [] → s.mgt.meters = [(slot, m)] → m.start ≤ last → slotRec s slot = some (k, r) →
       let restarted := decide (s.mgt.downAt ≤ last ∧ last < s.mgt.upAt)
       Does .usageReport s fun t => Sys2Proof.Claims.reported s t restarted (report k m (s.get (MGT_METER_CFG_COMP_ID slot)) false) ∧
         NMap.find t.mgt.meters slot = some { m with gap := false } ∧ t.mgt.reported = last ∧ RegsKept s t [MGT_REPORT_SEQ] ∧ t.mem = s.mem))

/-- The board (R435, R438, R442 to R444, Table 23.8): the loss of VIN leaves the fuses alone; every 100 µs the governor takes power from the sense readings, limits
engine issue where a limit would be passed by the 100 µs to come and alerts once; every 1 ms the sensors are read, and steps and the trip follow; a trip of 1 ms is a device-fatal
error; a TAP instruction takes the pins or the boundary register while power is good; the lands of an empty site are unconnected, and an EVACUATED
channel holds its DIMM reset low (R10, R100, R432, Table 23.6). -/
def Sys2Proof.Claims.theBoardIsGoverned : Prop :=
  ∀ (s : State), let good := s.brd.pwrGood = true
    let cal := fun (q : Nat) => toInt 16 (Config.factoryCal q).toNat + toInt 16 (s.get (MGT_CAL_VIEW_USER q))
    Does .vinShutdown s (fun t => t = { State.reset with
      dev := s.dev
      clk := { State.reset.clk with pinLow := s.clk.pinLow }
      brd := { State.reset.brd with pwrGood := false }
      fresh := s.fresh
      pending := s.pending }) ∧
    (∀ vin iin, let c := Instr.powerGovernor vin iin
      let due := good ∧ (s.brd.power = [] ∨ s.brd.governed + 100000 ≤ s.now)
      let mv := ((vin : Int) * (1000 + cal 0x400) / 1000).toNat
      let ma := ((iin : Int) * (1000 + cal 0x401) / 1000).toNat
      let w := mv * ma / 1000000
      let last := (w :: s.brd.power).take 100
      let avg := last.sum / last.length
      let limit := fun (x : Nat) => if mv < 40000 then x * mv / 40000 else x
      let next := max w (Config.powerAhead (w :: s.brd.power))
      let window := (next :: w :: s.brd.power).take 100
      let tooFar := limit s.dev.part.peakW < next ∨ limit s.dev.part.sustainedW < window.sum / window.length
      let alert := s.get MGT_TELEM1_ALERT_W
      let alerts := alert ≠ 0 ∧ alert < avg % 65536
      let tells := alerts ∧ s.get MGT_TELEM0_POWER_W ≤ alert ∧ s.mgt.i3c.isSome = true ∧ s.mgt.smbus = false
      (¬ due → Does c s fun t => t = s) ∧
      (due → Does c s fun t => t.get MGT_TELEM0_VIN_100MV = mv / 100 % 65536 ∧ t.get MGT_TELEM0_IIN_100MA = ma / 100 % 65536 ∧
        t.get MGT_TELEM0_POWER_W = avg % 65536 ∧ (tooFar → 1 ≤ t.brd.limit ∧ t.brd.limit ≤ 7) ∧ (¬ tooFar → t.brd.limit = 8) ∧
        t.brd = { s.brd with
          power := last
          limit := t.brd.limit
          governed := s.now } ∧
        (alerts → Raised s t MGT_EVENT_POWER_ALERT) ∧ (¬ alerts → t.get MGT_EVENT_POWER_ALERT = s.get MGT_EVENT_POWER_ALERT) ∧
        RegsKept s t [MGT_TELEM0_VIN_100MV, MGT_TELEM0_IIN_100MA, MGT_TELEM0_POWER_W, MGT_EVENT_POWER_ALERT, MGT_NOTIFY_PENDING] ∧
        t.mgt = { s.mgt with
          calIn := t.mgt.calIn
          ibi := if tells then s.mgt.ibi ++ [0x01] else s.mgt.ibi } ∧
        t = { s with
          regs := t.regs
          brd := t.brd
          mgt := t.mgt
          fresh := s.fresh + 1 })) ∧
    (∀ temps, let c := Instr.thermalSample temps
      let due := good ∧ temps.length = 64 ∧ (s.brd.temps = [] ∨ counting s = false ∨ s.brd.sampled + 1000000 ≤ s.now)
      let read := fun (i : Nat) => temps.getD i 0 + cal (0x300 + i)
      let exists_ := fun (i : Nat) => i < 64 ∧ sensorOn s i = true
      let trips := ∃ i, exists_ i ∧ (if 16 ≤ i ∧ i < 32 then 380 else 420) ≤ read i
      (¬ due → Does c s fun t => t = s) ∧
      (due → Does c s fun t => t.brd.temps = (List.range 64).map read ∧ t.brd.sampled = s.now ∧
        (s.brd.jStep = 0 → (∀ i, exists_ i → (i < 16 ∨ 32 ≤ i) → read i < 380) → t.brd.jStep = 0) ∧
        (∀ n, n < 3 → (∃ i, exists_ i ∧ (i < 16 ∨ 32 ≤ i) ∧ [380, 400, 412].getD n 0 ≤ read i) → n < t.brd.jStep) ∧
        (∀ k < 16, exists_ (16 + k) → ∀ n < 3, [340, 360, 372].getD n 0 ≤ read (16 + k) → n < NMap.getD t.brd.hStep k 0) ∧
        (∀ k < 16, exists_ (16 + k) → NMap.getD s.brd.hStep k 0 = 0 → 340 ≤ read (16 + k) → Raised s t (MEMH_EVENT_TEMP_HIGH k)) ∧
        (∀ k < 16, exists_ (16 + k) → 0 ≤ read (16 + k) → t.get (MEMH_STATUS_CASE_TEMP_C k) = (read (16 + k) / 4).toNat % 256) ∧
        (trips → t.brd.tripFrom = some (s.brd.tripFrom.getD s.now)) ∧ (¬ trips → t.brd.tripFrom = none) ∧ t.mem = s.mem ∧ t.lnk = s.lnk)) ∧
    (let hot : ErrIn := { cls := 3, unitType := utAon, unitIndex := 0, cause := 0x0005, status := 0, tenant := none, agent := 0, addr := none, info := 0 }
     let trips := s.get ERR_STATUS_DEVICE_FATAL = 0 ∧ ∃ a, s.brd.tripFrom = some a ∧ a + 1000000 ≤ s.now
     (trips → Does .thermalTrip s fun t => Reports s t hot ∧ t.get ERR_STATUS_DEVICE_FATAL = 1 ∧
       RegsKept s t (ERR_STATUS_DEVICE_FATAL :: reportRegs s none) ∧ t.mem = s.mem) ∧
     (¬ trips → Does .thermalTrip s fun t => t = s)) ∧
    (∀ (l : List Bool), let took := fun (t : State) (ir : Nat) (x : Tap) => t = { s with brd := { s.brd with tap := { x with ir := ir } } }
      let sees := { s.brd.tap with captured := l }
      (good → Does (.tapExtest l) s (took · 0x00 sees) ∧ Does (.tapSample l) s (took · 0x01 sees) ∧
        Does (.tapPreload l) s (took · 0x02 { s.brd.tap with bound := l }) ∧ Does .tapClamp s (took · 0x03 s.brd.tap) ∧
        Does .tapHighz s (took · 0x04 s.brd.tap) ∧ Does (.tapExtestPulse l) s (took · 0x05 sees) ∧
        Does (.tapExtestTrain l) s (took · 0x06 sees) ∧ Does .tapBypass s (took · 0xff s.brd.tap)) ∧
      (¬ good → ∀ i ∈ ([.tapExtest l, .tapSample l, .tapPreload l, .tapClamp, .tapHighz, .tapExtestPulse l, .tapExtestTrain l, .tapBypass] : List Instr),
        Does i s fun t => t = s)) ∧
    (∀ c < 24, (bit s.dev.part.iodSites (c / 4) = false → pinDdrReset s c = .unconnected ∧ pinDdr s c = .unconnected ∧
        pinDdrSide s c = .unconnected) ∧
      (bit s.dev.part.iodSites (c / 4) = true → good → s.get (MEMD_STATUS_STATE c) = 5 → pinDdrReset s c = .low)) ∧
    (∀ p < 72, (bit s.dev.part.iodSites (p / 12) = false → pinTx s p = .unconnected) ∧
      (bit s.dev.part.iodSites (p / 12) = true → s.brd.pwrGood = false → pinTx s p = .highZ))

/-- The statements above: usage is metered, the board is governed. -/
def Obligations.MeteringAndTheBoard : Prop :=
  Sys2Proof.Claims.usageIsMetered ∧
  Sys2Proof.Claims.theBoardIsGoverned

/-! The machine as a whole. -/

/-- A step takes the command at the front of the queue and runs it on the state with the queue's rest; with no command waiting
it brings one tick: 10 ns of rack time where rack time counts, or 9 ns while it is slewed back (R384). What a step on an empty
queue does is the model's choice (DESIGN CHOICE, log entry 7). -/
def Obligations.StepRunsFrontCommand : Prop :=
  (∀ (c : Instr) (rest : List Instr) (s : State), s.pending = c :: rest → step s = exec c { s with pending := rest }) ∧
  ∀ s : State, s.pending = [] → step s = .next s.tick ∧ s.tick.pending = [] ∧ s.tick.mem = s.mem ∧
    (counting s = false → s.tick = s) ∧
    (counting s = true → s.tick.get Reg.CLK_RACK_TIME = (s.get Reg.CLK_RACK_TIME + if 0 < s.clk.slew then 9 else 10) % 2 ^ 64)

/-- Every command answers a next state, whatever the state: none faults and none is refused. That a command whose condition
fails answers the state it found is the model's choice (DESIGN CHOICE, log entry 8). -/
def Obligations.EveryCommandAnswers : Prop := ∀ (c : Instr) (s : State), ∃ t, exec c s = .next t

/-- A command written to a command register while a command runs in it is ignored: nothing changes, and STATUS and DETAIL go
on showing what they showed (R102, R424, and the BUSY rows of the register tables). -/
def Obligations.ABusyCommandRegisterIgnoresCommands : Prop :=
  ∀ (k : Nat) (s : State) (c : Instr) (busy : Fld), s.flag busy = true → (c, busy) ∈
      ([.chnCreate, .chnDestroy, .chnQuery, .chnEnable, .chnReset, .chnResume, .setSched].map (·, Reg.CHN_CMD_BUSY) ++
       [.regionCreate, .regionDestroy, .setHold, .regionQuery, .addVersion, .removeVersion, .clearReaders].map
         (·, Reg.REG_CMD_CTL_BUSY) ++
       [.extCreate, .extRevoke, .setHolder, .setRights, .extQuery].map (·, Reg.EXT_CMD_CTL_BUSY) ++
       [.ctxCreate, .ctxDestroy, .xltMap, .unmap, .protect, .remap, .windowAdd, .windowRemove, .xltQuery, .cntClear].map
         (·, Reg.XLT_CMD_CTL_BUSY) ++
       [.plcHint, .plcMove, .plcQuery, .plcRecall, .plcRelease].map (·, Reg.PLC_CMD_CTL_BUSY) ++
       [.tenantCreate, .loadKey, .genKey, .tenantReset, .tenantFence, .secErase, .secUnseal, .svnCommit].map
         (·, Reg.SEC_CMD_CTL_BUSY) ++
       [.mirBreak, .recoverDone, .ownBind, .ownRelease, .ownClaim, .ownUnbind].map (·, Reg.MIR_CMD_BUSY) ++
       [.grpCreate, .grpDestroy, .grpQuery].map (·, Reg.FAB_GRP_CMD_BUSY) ++
       [.memhRetire k, .memhRetrainFull k, .powerDown k].map (·, Reg.MEMH_CMD_BUSY k) ++
       [.memdRetire k, .memdRetrainFull k, .memdEvacuate k, .memdRestore k].map (·, Reg.MEMD_CMD_BUSY k) ++
       [.lnkReset k, .lnkDown k].map (·, Reg.LNK_CMD_BUSY k) ++ [(.applyEng, Reg.CLK_CMD_BUSY)] ++
       [.pwrSleep, .pwrDeep, .pwrWake].map (·, Reg.PWR_CMD_BUSY) : List (Instr × Fld)) →
    Does c s fun t => t = s

/-- After a cold reset every field of every register reads its Reset column (R428; some rows of the register tables are written
out), nothing is stored, no extent, tenant, channel or launch exists, and no command waits; the memory and the registers are in
their canonical forms. That an unlisted byte of pool memory reads 0 is the model's reading of R29 (log entry 1 names the part). -/
def Obligations.ResetReadsTheResetColumn : Prop :=
  let s := State.reset
  (∀ f : Fld, s.get f = f.reset s.dev) ∧ (∀ a, rdByte s.mem a = 0#8) ∧ s.pending = [] ∧ s.ext.table = [] ∧
  s.sec.tenants = [] ∧ s.chn.chans = [] ∧ s.eng.launches = [] ∧ Canonical s ∧
  ([(Reg.PLC_THRESH_HYST, 2048), (Reg.PLC_THRESH_PROMOTE, 4096), (Reg.PLC_THRESH_DEMOTE, 512), (Reg.EXT_CFG_TERM_MAX_MS, 2000),
    (Reg.EXT_CFG_GRACE_MS, 100), (Reg.EXT_CFG_DEFAULT_TERM_MS, 500), (Reg.EXT_CFG_ENABLE, 0), (Reg.XLT_CFG_HOT_THRESH, 4096),
    (Reg.XLT_CFG_CNT_EPOCH_MS, 1000), (Reg.DIR_CFG_SNOOP_TIMEOUT_US, 50), (Reg.FAB_TIMERS_REORDER_US, 50),
    (Reg.FAB_TIMERS_RETRY_US, 10), (Reg.FAB_TIMERS_RETRY_MAX, 3), (Reg.MIR_TIMERS_LEASE_MS, 20), (Reg.MIR_TIMERS_FENCE_MS, 15),
    (Reg.ERR_CFG_CORR_MERGE_US, 1000), (Reg.ERR_CFG_MOR_POST, 256), (Reg.MGT_WDOG_TIMEOUT_MS, 1000), (Reg.RST_STATUS_LAST_KIND, 1),
    (Reg.PWR_CFG_QUIET_US, 10), (Reg.DBG_TCFG_SAMPLE_LOG2, 16), (Reg.QOS_CFG_HIST_EN, 1)] : List (Fld × Nat)).all
      (fun x => s.get x.1 = x.2) = true ∧
  (∀ k, s.get (Reg.MEMH_CTL_CORR_LIMIT k) = 64 ∧ s.get (Reg.MEMH_CTL_STARVE_100NS k) = 20 ∧ s.get (Reg.MEMH_CTL_PRI_FABRIC k) = 3 ∧
    s.get (Reg.MEMH_CTL_RETRAIN_EN k) = 1) ∧
  ∀ p, s.get (Reg.LNK_TIMERS_REPLAY_TMO_100NS p) = 30 ∧ s.get (Reg.LNK_TIMERS_ACK_TMO_10NS p) = 50 ∧
    s.get (Reg.LNK_TIMERS_ACK_COUNT p) = 32 ∧ s.get (Reg.LNK_TIMERS_DOWN_LONG p) = 1000

/-- The rack-admin hash and its lock (R418). -/
def Obligations.TheAdminLockHolds : Prop :=
  let sealed := [Reg.GLB_ADMIN_HASH_HASH 0, Reg.GLB_ADMIN_HASH_HASH 1, Reg.GLB_ADMIN_HASH_HASH 2, Reg.GLB_ADMIN_HASH_HASH 3,
    Reg.GLB_ADMIN_CTL_LOCK]
  ∀ s : State,
    (∀ (p : Path) (who : Who) (v : Word64), s.get Reg.GLB_ADMIN_CTL_LOCK ≠ 0 → ∀ g ∈ sealed, ∀ f ∈ sealed,
      Does (.registerWrite p g.off v) s (fun t => t.get f = s.get f) ∧ (busWrite s who g.off v).2.get f = s.get f) ∧
    (∀ f ∈ sealed, f.acc = .rws) ∧
    (∀ c ∈ ([.rstWarm, .sbWarmReset, .autoReset, .rstInNLow] : List Instr), ∀ f ∈ sealed, Does c s fun t => t.get f = s.get f) ∧
    (∀ addr pos, ∀ f ∈ sealed, Does (.coldReset addr pos) s fun t => t.get f = 0) ∧
    (∀ n c, s.get Reg.GLB_ADMIN_CTL_LOCK = 0 → NMap.find s.sec.sess n = some c → c.up = true → Does (.authProve n) s fun t =>
      ∀ x, NMap.find t.sec.sess n = some x → x.status = stPermission ∧ x.admin = c.admin)

/-- QOS_HIST_SEL (R309): the write copies the selected histogram into QOS_HIST_DATA0 to 7 and, with SNAP, leaves every bin of
it at 0 and every other histogram as it was; a histogram's bins are 32 bits. Each sample is then in the copy or in
the histogram that follows. -/
def Obligations.AHistogramIsCopiedAndZeroed : Prop :=
  ∀ (s : State) (v : Word64), let w := v.toNat
    let cls := if bits w 14 12 ≤ 5 then bits w 14 12 else s.get Reg.QOS_HIST_SEL_CLASS
    let kind := bits w 17 16
    let k := 65536 * kind + (if kind < 2 then bits w 11 0 else 8 * bits w 11 0 + cls)
    let bins := fun (u : State) (j b : Nat) => NMap.getD (NMap.getD u.qos.hist j []) b 0
    (∀ b, bins s k b < 2 ^ 32) → Does (.qosHistSelWrite v) s fun t =>
      (∀ n < 8, t.get (Reg.QOS_HIST_DATA_BIN_LO n) = bins s k (2 * n) ∧ t.get (Reg.QOS_HIST_DATA_BIN_HI n) = bins s k (2 * n + 1)) ∧
      (∀ j b, bins t j b = if j = k ∧ bit w 63 = true then 0 else bins s j b)

/-- Every field of the transaction header is read back from its 64 bytes, and the payload behind them (R273, Table 14.1). -/
def Obligations.PacketHeaderRoundTrip : Prop :=
  ∀ p : Pkt, p.opcode < 256 → p.tblEpoch < 2 → p.colour < 4 → p.mclass < 8 → p.domain < 8 → p.status < 256 → p.src < 4096 →
    p.dst < 4096 → p.tenant < 1024 → p.psn < 65536 → p.tag < 4096 → p.len < 2048 → p.addr < 2 ^ 56 → p.svcEpoch < 2 ^ 32 →
    p.tenEpoch < 65536 → p.hops < 256 → p.grant < 4 → p.result < 8 → p.target < 4096 → p.srcInc < 65536 → p.aux < 2 ^ 64 →
    p.arg < 2 ^ 128 → p.rsvd = 0 → (pktHeader p).length = 64 ∧ pktOf (pktHeader p ++ p.payload) = p

/-- Pool memory and the register bank keep their canonical forms over every step, from every state in which they have them: so
equal memories and equal banks are equal data. No command touches the queue behind it. -/
def Obligations.EveryStepKeepsTheCanonicalForms : Prop :=
  ∀ s t : State, Canonical s → step s = .next t → Canonical t ∧ t.pending = s.pending.tail

/-- CREATE and its EPOCH (R315): refused with DETAIL 0x2 unless EPOCH is 1 to 32,767 ahead of FLOOR, which is 0 where the tenant
has no record yet; on success CUR and FLOOR are EPOCH. -/
def Obligations.CreateSetsTheEpochAndItsFloor : Prop :=
  ∀ s : State, s.get Reg.SEC_CMD_CTL_BUSY = 0 → slotRec s (s.get Reg.SEC_CMD0_SLOT) = none →
    let n := s.get Reg.SEC_CMD0_RACK_TENANT
    let epoch := s.get Reg.SEC_CMD2_EPOCH
    let floor := match NMap.find s.sec.tenants n with
      | some r => r.floor
      | none => 0
    let ahead := (epoch + 65536 - floor) % 65536
    (¬ (1 ≤ ahead ∧ ahead ≤ 32767) → Does .tenantCreate s fun t => t.get Reg.SEC_CMD_CTL_STATUS = stPermission ∧
      t.get Reg.SEC_CMD_CTL_DETAIL = 2 ∧ t.sec = s.sec) ∧
    ((∀ r, NMap.find s.sec.tenants n = some r → r.st = .none) → 1 ≤ ahead → ahead ≤ 32767 → Does .tenantCreate s fun t =>
      t.get Reg.SEC_CMD_CTL_STATUS = stOK ∧ ∃ r, NMap.find t.sec.tenants n = some r ∧ r.cur = epoch ∧ r.floor = epoch ∧
        OthersKept s.sec.tenants t.sec.tenants n)
end
end

