-- ==== Sys2Proof/Laws/Maps.lean ====
section
/-! SUPPORT. The laws of finite maps: what is found after a write, and the canonical form. -/

namespace Sys2Proof.Machine

variable {α β : Type}

@[simp] theorem NMap.find_nil (q : Nat) : NMap.find ([] : NMap α) q = none := rfl

@[simp] theorem NMap.find_insert_self (m : NMap α) (q : Nat) (v : α) : NMap.find (NMap.insert m q v) q = some v := by
  induction m with
  | nil => simp [NMap.insert, NMap.find]
  | cons p m ih =>
    obtain ⟨k, w⟩ := p
    simp only [NMap.insert]
    split
    · simp [NMap.find, *]
    · split
      · simp [NMap.find]
      · simp [NMap.find, *]

@[simp] theorem NMap.find_insert_ne (m : NMap α) {q r : Nat} (v : α) (h : r ≠ q) :
    NMap.find (NMap.insert m q v) r = NMap.find m r := by
  induction m with
  | nil => simp [NMap.insert, NMap.find, h]
  | cons p m ih =>
    obtain ⟨k, w⟩ := p
    simp only [NMap.insert]
    split
    · next e => subst e; simp [NMap.find, h]
    · split
      · simp [NMap.find, h]
      · simp [NMap.find, ih]

@[simp] theorem NMap.find_erase_self (m : NMap α) (q : Nat) : NMap.find (NMap.erase m q) q = none := by
  induction m with
  | nil => rfl
  | cons p m ih =>
    obtain ⟨k, w⟩ := p
    simp only [NMap.erase]
    split
    · exact ih
    · simp [NMap.find, *]

@[simp] theorem NMap.find_erase_ne (m : NMap α) {q r : Nat} (h : r ≠ q) : NMap.find (NMap.erase m q) r = NMap.find m r := by
  induction m with
  | nil => rfl
  | cons p m ih =>
    obtain ⟨k, w⟩ := p
    simp only [NMap.erase]
    split
    · next e => subst e; simp [NMap.find, h, ih]
    · simp [NMap.find, ih]

@[simp] theorem NMap.getD_insert_self (m : NMap α) (q : Nat) (v d : α) : NMap.getD (NMap.insert m q v) q d = v := by
  simp [NMap.getD]

@[simp] theorem NMap.getD_insert_ne (m : NMap α) {q r : Nat} (v d : α) (h : r ≠ q) :
    NMap.getD (NMap.insert m q v) r d = NMap.getD m r d := by simp [NMap.getD, h]

@[simp] theorem NMap.getD_erase_self (m : NMap α) (q : Nat) (d : α) : NMap.getD (NMap.erase m q) q d = d := by
  simp [NMap.getD]

@[simp] theorem NMap.getD_erase_ne (m : NMap α) {q r : Nat} (d : α) (h : r ≠ q) :
    NMap.getD (NMap.erase m q) r d = NMap.getD m r d := by simp [NMap.getD, h]

theorem NMap.find_mapVal (f : Nat → α → β) (m : NMap α) (q : Nat) :
    NMap.find (NMap.mapVal f m) q = (NMap.find m q).map (f q) := by
  induction m with
  | nil => rfl
  | cons p m ih =>
    obtain ⟨k, w⟩ := p
    by_cases h : q = k
    · subst h; simp [NMap.mapVal, NMap.find]
    · simp only [NMap.mapVal, List.map_cons, NMap.find, h, if_false]; exact ih

theorem NMap.find_adjust (m : NMap α) (q r : Nat) (f : α → α) :
    NMap.find (NMap.adjust m q f) r = if r = q then (NMap.find m r).map f else NMap.find m r := by
  unfold NMap.adjust
  by_cases h : r = q
  · subst h; cases e : NMap.find m r <;> simp [e]
  · cases e : NMap.find m q <;> simp [h]

/-! The canonical form. -/

/-- A key below every key of a map. -/
def NMap.above (q : Nat) (m : NMap α) : Prop := ∀ p ∈ m, q < p.1

theorem NMap.wf_cons (q : Nat) (v : α) (m : NMap α) : NMap.wf ((q, v) :: m) = true ↔ NMap.above q m ∧ NMap.wf m = true := by
  induction m generalizing q v with
  | nil => simp [NMap.wf, NMap.above]
  | cons p m ih =>
    obtain ⟨k, w⟩ := p
    rw [ih]
    simp only [NMap.wf, Bool.and_eq_true, decide_eq_true_eq, NMap.above, List.mem_cons, forall_eq_or_imp]
    rw [ih]
    simp only [NMap.above]
    constructor
    · rintro ⟨h, a, b⟩
      exact ⟨⟨h, fun x hx => Nat.lt_trans h (a x hx)⟩, a, b⟩
    · rintro ⟨⟨h, _⟩, a, b⟩
      exact ⟨h, a, b⟩

theorem NMap.above_insert {m : NMap α} {k q : Nat} (v : α) (h : NMap.above k m) (hq : k < q) :
    NMap.above k (NMap.insert m q v) := by
  induction m with
  | nil => simpa [NMap.insert, NMap.above] using hq
  | cons p m ih =>
    obtain ⟨a, w⟩ := p
    have ha : k < a := h (a, w) (by simp)
    have hm : NMap.above k m := fun x hx => h x (by simp [hx])
    simp only [NMap.insert]
    split
    · intro x hx; rcases List.mem_cons.1 hx with rfl | hx
      · exact ha
      · exact hm x hx
    · split
      · intro x hx; rcases List.mem_cons.1 hx with rfl | hx
        · exact hq
        · exact h x hx
      · intro x hx; rcases List.mem_cons.1 hx with rfl | hx
        · exact ha
        · exact ih hm x hx

theorem NMap.wf_insert {m : NMap α} (q : Nat) (v : α) (h : NMap.wf m = true) : NMap.wf (NMap.insert m q v) = true := by
  induction m with
  | nil => rfl
  | cons p m ih =>
    obtain ⟨k, w⟩ := p
    have h' := (NMap.wf_cons k w m).1 h
    simp only [NMap.insert]
    split
    · exact (NMap.wf_cons k v m).2 h'
    · split
      · refine (NMap.wf_cons q v _).2 ⟨?_, h⟩
        intro x hx; rcases List.mem_cons.1 hx with rfl | hx
        · assumption
        · exact Nat.lt_trans ‹_› (h'.1 x hx)
      · exact (NMap.wf_cons k w _).2 ⟨NMap.above_insert v h'.1 (by omega), ih h'.2⟩

theorem NMap.mem_erase {m : NMap α} {q : Nat} {p : Nat × α} (h : p ∈ NMap.erase m q) : p ∈ m := by
  induction m with
  | nil => exact h
  | cons a m ih =>
    obtain ⟨k, w⟩ := a
    simp only [NMap.erase] at h
    split at h
    · exact List.mem_cons_of_mem _ (ih h)
    · rcases List.mem_cons.1 h with rfl | h
      · simp
      · exact List.mem_cons_of_mem _ (ih h)

theorem NMap.wf_erase {m : NMap α} (q : Nat) (h : NMap.wf m = true) : NMap.wf (NMap.erase m q) = true := by
  induction m with
  | nil => rfl
  | cons p m ih =>
    obtain ⟨k, w⟩ := p
    have h' := (NMap.wf_cons k w m).1 h
    simp only [NMap.erase]
    split
    · exact ih h'.2
    · exact (NMap.wf_cons k w _).2 ⟨fun x hx => h'.1 x (NMap.mem_erase hx), ih h'.2⟩

theorem NMap.wf_filter {m : NMap α} (f : Nat × α → Bool) (h : NMap.wf m = true) : NMap.wf (m.filter f) = true := by
  induction m with
  | nil => rfl
  | cons p m ih =>
    obtain ⟨k, w⟩ := p
    have h' := (NMap.wf_cons k w m).1 h
    simp only [List.filter_cons]
    split
    · exact (NMap.wf_cons k w _).2 ⟨fun x hx => h'.1 x ((List.mem_filter.1 hx).1), ih h'.2⟩
    · exact ih h'.2

/-- The entries of a map after a write: the written one, and entries that were there. -/
theorem NMap.mem_insert {m : NMap α} {q : Nat} {v : α} {p : Nat × α} (h : p ∈ NMap.insert m q v) : p = (q, v) ∨ p ∈ m := by
  induction m with
  | nil => simpa [NMap.insert] using h
  | cons a m ih =>
    obtain ⟨k, w⟩ := a
    simp only [NMap.insert] at h
    split at h
    · rcases List.mem_cons.1 h with rfl | h
      · left; simp [*]
      · exact .inr (List.mem_cons_of_mem _ h)
    · split at h
      · exact (List.mem_cons.1 h).imp id id
      · rcases List.mem_cons.1 h with rfl | h
        · simp
        · exact (ih h).imp id (List.mem_cons_of_mem _)

end Sys2Proof.Machine
end

