-- ==== Sys2Proof/Laws/State.lean ====
section
/-! SUPPORT. The laws of the state's own updates: a register field read after a write, and, field by field, what each
named operation over registers leaves alone. -/

namespace Sys2Proof.Machine

/-! Register fields. -/

/-- A field just written reads as the value cut to its width. -/
@[simp] theorem State.get_put_self (s : State) (f : Fld) (v : Nat) : (s.put f v).get f = v % 2 ^ f.width := by
  unfold State.get State.put
  dsimp only
  split
  · next h => simp [NMap.getD, ← h]
  · simp

/-- A write of one field leaves every field with another key. -/
theorem State.get_put_ne (s : State) {f g : Fld} (v : Nat) (h : g.key ≠ f.key) : (s.put f v).get g = s.get g := by
  unfold State.get State.put
  dsimp only
  split <;> simp [h]

/-- Fields of two different registers have different keys. -/
theorem Fld.key_ne {f g : Fld} (hf : f.lo < 64) (hg : g.lo < 64) (h : f.off ≠ g.off) : f.key ≠ g.key := by
  unfold Fld.key; omega

/-- A write of one register's field leaves every other register. -/
theorem State.get_put_off (s : State) {f g : Fld} (v : Nat) (hg : g.lo < 64) (hf : f.lo < 64) (h : g.off ≠ f.off) :
    (s.put f v).get g = s.get g := s.get_put_ne v (Fld.key_ne hg hf h)

/-! Operations that change registers only. -/

@[simp] theorem State.put_dev (s : State) (f : Fld) (v : Nat) : (s.put f v).dev = s.dev := rfl
@[simp] theorem State.put_mem (s : State) (f : Fld) (v : Nat) : (s.put f v).mem = s.mem := rfl
@[simp] theorem State.put_poison (s : State) (f : Fld) (v : Nat) : (s.put f v).poison = s.poison := rfl
@[simp] theorem State.put_ext (s : State) (f : Fld) (v : Nat) : (s.put f v).ext = s.ext := rfl
@[simp] theorem State.put_dir (s : State) (f : Fld) (v : Nat) : (s.put f v).dir = s.dir := rfl
@[simp] theorem State.put_noc (s : State) (f : Fld) (v : Nat) : (s.put f v).noc = s.noc := rfl
@[simp] theorem State.put_mch (s : State) (f : Fld) (v : Nat) : (s.put f v).mch = s.mch := rfl
@[simp] theorem State.put_plc (s : State) (f : Fld) (v : Nat) : (s.put f v).plc = s.plc := rfl
@[simp] theorem State.put_xlt (s : State) (f : Fld) (v : Nat) : (s.put f v).xlt = s.xlt := rfl
@[simp] theorem State.put_lnk (s : State) (f : Fld) (v : Nat) : (s.put f v).lnk = s.lnk := rfl
@[simp] theorem State.put_fab (s : State) (f : Fld) (v : Nat) : (s.put f v).fab = s.fab := rfl
@[simp] theorem State.put_sec (s : State) (f : Fld) (v : Nat) : (s.put f v).sec = s.sec := rfl
@[simp] theorem State.put_chn (s : State) (f : Fld) (v : Nat) : (s.put f v).chn = s.chn := rfl
@[simp] theorem State.put_eng (s : State) (f : Fld) (v : Nat) : (s.put f v).eng = s.eng := rfl
@[simp] theorem State.put_qos (s : State) (f : Fld) (v : Nat) : (s.put f v).qos = s.qos := rfl
@[simp] theorem State.put_mir (s : State) (f : Fld) (v : Nat) : (s.put f v).mir = s.mir := rfl
@[simp] theorem State.put_err (s : State) (f : Fld) (v : Nat) : (s.put f v).err = s.err := rfl
@[simp] theorem State.put_dbg (s : State) (f : Fld) (v : Nat) : (s.put f v).dbg = s.dbg := rfl
@[simp] theorem State.put_clk (s : State) (f : Fld) (v : Nat) : (s.put f v).clk = s.clk := rfl
@[simp] theorem State.put_mgt (s : State) (f : Fld) (v : Nat) : (s.put f v).mgt = s.mgt := rfl
@[simp] theorem State.put_brd (s : State) (f : Fld) (v : Nat) : (s.put f v).brd = s.brd := rfl
@[simp] theorem State.put_fresh (s : State) (f : Fld) (v : Nat) : (s.put f v).fresh = s.fresh := rfl
@[simp] theorem State.put_pending (s : State) (f : Fld) (v : Nat) : (s.put f v).pending = s.pending := rfl

@[simp] theorem State.count_dev (s : State) (f : Fld) (d : Nat) : (s.count f d).dev = s.dev := rfl
@[simp] theorem State.count_mem (s : State) (f : Fld) (d : Nat) : (s.count f d).mem = s.mem := rfl
@[simp] theorem State.count_poison (s : State) (f : Fld) (d : Nat) : (s.count f d).poison = s.poison := rfl
@[simp] theorem State.count_ext (s : State) (f : Fld) (d : Nat) : (s.count f d).ext = s.ext := rfl
@[simp] theorem State.count_dir (s : State) (f : Fld) (d : Nat) : (s.count f d).dir = s.dir := rfl
@[simp] theorem State.count_noc (s : State) (f : Fld) (d : Nat) : (s.count f d).noc = s.noc := rfl
@[simp] theorem State.count_mch (s : State) (f : Fld) (d : Nat) : (s.count f d).mch = s.mch := rfl
@[simp] theorem State.count_plc (s : State) (f : Fld) (d : Nat) : (s.count f d).plc = s.plc := rfl
@[simp] theorem State.count_xlt (s : State) (f : Fld) (d : Nat) : (s.count f d).xlt = s.xlt := rfl
@[simp] theorem State.count_lnk (s : State) (f : Fld) (d : Nat) : (s.count f d).lnk = s.lnk := rfl
@[simp] theorem State.count_fab (s : State) (f : Fld) (d : Nat) : (s.count f d).fab = s.fab := rfl
@[simp] theorem State.count_sec (s : State) (f : Fld) (d : Nat) : (s.count f d).sec = s.sec := rfl
@[simp] theorem State.count_chn (s : State) (f : Fld) (d : Nat) : (s.count f d).chn = s.chn := rfl
@[simp] theorem State.count_eng (s : State) (f : Fld) (d : Nat) : (s.count f d).eng = s.eng := rfl
@[simp] theorem State.count_qos (s : State) (f : Fld) (d : Nat) : (s.count f d).qos = s.qos := rfl
@[simp] theorem State.count_mir (s : State) (f : Fld) (d : Nat) : (s.count f d).mir = s.mir := rfl
@[simp] theorem State.count_err (s : State) (f : Fld) (d : Nat) : (s.count f d).err = s.err := rfl
@[simp] theorem State.count_dbg (s : State) (f : Fld) (d : Nat) : (s.count f d).dbg = s.dbg := rfl
@[simp] theorem State.count_clk (s : State) (f : Fld) (d : Nat) : (s.count f d).clk = s.clk := rfl
@[simp] theorem State.count_mgt (s : State) (f : Fld) (d : Nat) : (s.count f d).mgt = s.mgt := rfl
@[simp] theorem State.count_brd (s : State) (f : Fld) (d : Nat) : (s.count f d).brd = s.brd := rfl
@[simp] theorem State.count_fresh (s : State) (f : Fld) (d : Nat) : (s.count f d).fresh = s.fresh := rfl
@[simp] theorem State.count_pending (s : State) (f : Fld) (d : Nat) : (s.count f d).pending = s.pending := rfl

@[simp] theorem State.bump_dev (s : State) (f : Fld) (d : Nat) : (s.bump f d).dev = s.dev := rfl
@[simp] theorem State.bump_mem (s : State) (f : Fld) (d : Nat) : (s.bump f d).mem = s.mem := rfl
@[simp] theorem State.bump_poison (s : State) (f : Fld) (d : Nat) : (s.bump f d).poison = s.poison := rfl
@[simp] theorem State.bump_ext (s : State) (f : Fld) (d : Nat) : (s.bump f d).ext = s.ext := rfl
@[simp] theorem State.bump_dir (s : State) (f : Fld) (d : Nat) : (s.bump f d).dir = s.dir := rfl
@[simp] theorem State.bump_noc (s : State) (f : Fld) (d : Nat) : (s.bump f d).noc = s.noc := rfl
@[simp] theorem State.bump_mch (s : State) (f : Fld) (d : Nat) : (s.bump f d).mch = s.mch := rfl
@[simp] theorem State.bump_plc (s : State) (f : Fld) (d : Nat) : (s.bump f d).plc = s.plc := rfl
@[simp] theorem State.bump_xlt (s : State) (f : Fld) (d : Nat) : (s.bump f d).xlt = s.xlt := rfl
@[simp] theorem State.bump_lnk (s : State) (f : Fld) (d : Nat) : (s.bump f d).lnk = s.lnk := rfl
@[simp] theorem State.bump_fab (s : State) (f : Fld) (d : Nat) : (s.bump f d).fab = s.fab := rfl
@[simp] theorem State.bump_sec (s : State) (f : Fld) (d : Nat) : (s.bump f d).sec = s.sec := rfl
@[simp] theorem State.bump_chn (s : State) (f : Fld) (d : Nat) : (s.bump f d).chn = s.chn := rfl
@[simp] theorem State.bump_eng (s : State) (f : Fld) (d : Nat) : (s.bump f d).eng = s.eng := rfl
@[simp] theorem State.bump_qos (s : State) (f : Fld) (d : Nat) : (s.bump f d).qos = s.qos := rfl
@[simp] theorem State.bump_mir (s : State) (f : Fld) (d : Nat) : (s.bump f d).mir = s.mir := rfl
@[simp] theorem State.bump_err (s : State) (f : Fld) (d : Nat) : (s.bump f d).err = s.err := rfl
@[simp] theorem State.bump_dbg (s : State) (f : Fld) (d : Nat) : (s.bump f d).dbg = s.dbg := rfl
@[simp] theorem State.bump_clk (s : State) (f : Fld) (d : Nat) : (s.bump f d).clk = s.clk := rfl
@[simp] theorem State.bump_mgt (s : State) (f : Fld) (d : Nat) : (s.bump f d).mgt = s.mgt := rfl
@[simp] theorem State.bump_brd (s : State) (f : Fld) (d : Nat) : (s.bump f d).brd = s.brd := rfl
@[simp] theorem State.bump_fresh (s : State) (f : Fld) (d : Nat) : (s.bump f d).fresh = s.fresh := rfl
@[simp] theorem State.bump_pending (s : State) (f : Fld) (d : Nat) : (s.bump f d).pending = s.pending := rfl

@[simp] theorem State.notify_dev (s : State) (b : Nat) : (s.notify b).dev = s.dev := rfl
@[simp] theorem State.notify_mem (s : State) (b : Nat) : (s.notify b).mem = s.mem := rfl
@[simp] theorem State.notify_poison (s : State) (b : Nat) : (s.notify b).poison = s.poison := rfl
@[simp] theorem State.notify_ext (s : State) (b : Nat) : (s.notify b).ext = s.ext := rfl
@[simp] theorem State.notify_dir (s : State) (b : Nat) : (s.notify b).dir = s.dir := rfl
@[simp] theorem State.notify_noc (s : State) (b : Nat) : (s.notify b).noc = s.noc := rfl
@[simp] theorem State.notify_mch (s : State) (b : Nat) : (s.notify b).mch = s.mch := rfl
@[simp] theorem State.notify_plc (s : State) (b : Nat) : (s.notify b).plc = s.plc := rfl
@[simp] theorem State.notify_xlt (s : State) (b : Nat) : (s.notify b).xlt = s.xlt := rfl
@[simp] theorem State.notify_lnk (s : State) (b : Nat) : (s.notify b).lnk = s.lnk := rfl
@[simp] theorem State.notify_fab (s : State) (b : Nat) : (s.notify b).fab = s.fab := rfl
@[simp] theorem State.notify_sec (s : State) (b : Nat) : (s.notify b).sec = s.sec := rfl
@[simp] theorem State.notify_chn (s : State) (b : Nat) : (s.notify b).chn = s.chn := rfl
@[simp] theorem State.notify_eng (s : State) (b : Nat) : (s.notify b).eng = s.eng := rfl
@[simp] theorem State.notify_qos (s : State) (b : Nat) : (s.notify b).qos = s.qos := rfl
@[simp] theorem State.notify_mir (s : State) (b : Nat) : (s.notify b).mir = s.mir := rfl
@[simp] theorem State.notify_err (s : State) (b : Nat) : (s.notify b).err = s.err := rfl
@[simp] theorem State.notify_dbg (s : State) (b : Nat) : (s.notify b).dbg = s.dbg := rfl
@[simp] theorem State.notify_clk (s : State) (b : Nat) : (s.notify b).clk = s.clk := rfl
@[simp] theorem State.notify_mgt (s : State) (b : Nat) : (s.notify b).mgt = s.mgt := rfl
@[simp] theorem State.notify_brd (s : State) (b : Nat) : (s.notify b).brd = s.brd := rfl
@[simp] theorem State.notify_fresh (s : State) (b : Nat) : (s.notify b).fresh = s.fresh := rfl
@[simp] theorem State.notify_pending (s : State) (b : Nat) : (s.notify b).pending = s.pending := rfl

@[simp] theorem State.endCmd_dev (s : State) (f g : Fld) (a b : Nat) : (s.endCmd f g a b).dev = s.dev := rfl
@[simp] theorem State.endCmd_mem (s : State) (f g : Fld) (a b : Nat) : (s.endCmd f g a b).mem = s.mem := rfl
@[simp] theorem State.endCmd_poison (s : State) (f g : Fld) (a b : Nat) : (s.endCmd f g a b).poison = s.poison := rfl
@[simp] theorem State.endCmd_ext (s : State) (f g : Fld) (a b : Nat) : (s.endCmd f g a b).ext = s.ext := rfl
@[simp] theorem State.endCmd_dir (s : State) (f g : Fld) (a b : Nat) : (s.endCmd f g a b).dir = s.dir := rfl
@[simp] theorem State.endCmd_noc (s : State) (f g : Fld) (a b : Nat) : (s.endCmd f g a b).noc = s.noc := rfl
@[simp] theorem State.endCmd_mch (s : State) (f g : Fld) (a b : Nat) : (s.endCmd f g a b).mch = s.mch := rfl
@[simp] theorem State.endCmd_plc (s : State) (f g : Fld) (a b : Nat) : (s.endCmd f g a b).plc = s.plc := rfl
@[simp] theorem State.endCmd_xlt (s : State) (f g : Fld) (a b : Nat) : (s.endCmd f g a b).xlt = s.xlt := rfl
@[simp] theorem State.endCmd_lnk (s : State) (f g : Fld) (a b : Nat) : (s.endCmd f g a b).lnk = s.lnk := rfl
@[simp] theorem State.endCmd_fab (s : State) (f g : Fld) (a b : Nat) : (s.endCmd f g a b).fab = s.fab := rfl
@[simp] theorem State.endCmd_sec (s : State) (f g : Fld) (a b : Nat) : (s.endCmd f g a b).sec = s.sec := rfl
@[simp] theorem State.endCmd_chn (s : State) (f g : Fld) (a b : Nat) : (s.endCmd f g a b).chn = s.chn := rfl
@[simp] theorem State.endCmd_eng (s : State) (f g : Fld) (a b : Nat) : (s.endCmd f g a b).eng = s.eng := rfl
@[simp] theorem State.endCmd_qos (s : State) (f g : Fld) (a b : Nat) : (s.endCmd f g a b).qos = s.qos := rfl
@[simp] theorem State.endCmd_mir (s : State) (f g : Fld) (a b : Nat) : (s.endCmd f g a b).mir = s.mir := rfl
@[simp] theorem State.endCmd_err (s : State) (f g : Fld) (a b : Nat) : (s.endCmd f g a b).err = s.err := rfl
@[simp] theorem State.endCmd_dbg (s : State) (f g : Fld) (a b : Nat) : (s.endCmd f g a b).dbg = s.dbg := rfl
@[simp] theorem State.endCmd_clk (s : State) (f g : Fld) (a b : Nat) : (s.endCmd f g a b).clk = s.clk := rfl
@[simp] theorem State.endCmd_mgt (s : State) (f g : Fld) (a b : Nat) : (s.endCmd f g a b).mgt = s.mgt := rfl
@[simp] theorem State.endCmd_brd (s : State) (f g : Fld) (a b : Nat) : (s.endCmd f g a b).brd = s.brd := rfl
@[simp] theorem State.endCmd_fresh (s : State) (f g : Fld) (a b : Nat) : (s.endCmd f g a b).fresh = s.fresh := rfl
@[simp] theorem State.endCmd_pending (s : State) (f g : Fld) (a b : Nat) : (s.endCmd f g a b).pending = s.pending := rfl

@[simp] theorem State.raise_dev (s : State) (f : Fld) : (s.raise f).dev = s.dev := by unfold State.raise; split <;> rfl
@[simp] theorem State.raise_mem (s : State) (f : Fld) : (s.raise f).mem = s.mem := by unfold State.raise; split <;> rfl
@[simp] theorem State.raise_poison (s : State) (f : Fld) : (s.raise f).poison = s.poison := by unfold State.raise; split <;> rfl
@[simp] theorem State.raise_ext (s : State) (f : Fld) : (s.raise f).ext = s.ext := by unfold State.raise; split <;> rfl
@[simp] theorem State.raise_dir (s : State) (f : Fld) : (s.raise f).dir = s.dir := by unfold State.raise; split <;> rfl
@[simp] theorem State.raise_noc (s : State) (f : Fld) : (s.raise f).noc = s.noc := by unfold State.raise; split <;> rfl
@[simp] theorem State.raise_mch (s : State) (f : Fld) : (s.raise f).mch = s.mch := by unfold State.raise; split <;> rfl
@[simp] theorem State.raise_plc (s : State) (f : Fld) : (s.raise f).plc = s.plc := by unfold State.raise; split <;> rfl
@[simp] theorem State.raise_xlt (s : State) (f : Fld) : (s.raise f).xlt = s.xlt := by unfold State.raise; split <;> rfl
@[simp] theorem State.raise_lnk (s : State) (f : Fld) : (s.raise f).lnk = s.lnk := by unfold State.raise; split <;> rfl
@[simp] theorem State.raise_fab (s : State) (f : Fld) : (s.raise f).fab = s.fab := by unfold State.raise; split <;> rfl
@[simp] theorem State.raise_sec (s : State) (f : Fld) : (s.raise f).sec = s.sec := by unfold State.raise; split <;> rfl
@[simp] theorem State.raise_chn (s : State) (f : Fld) : (s.raise f).chn = s.chn := by unfold State.raise; split <;> rfl
@[simp] theorem State.raise_eng (s : State) (f : Fld) : (s.raise f).eng = s.eng := by unfold State.raise; split <;> rfl
@[simp] theorem State.raise_qos (s : State) (f : Fld) : (s.raise f).qos = s.qos := by unfold State.raise; split <;> rfl
@[simp] theorem State.raise_mir (s : State) (f : Fld) : (s.raise f).mir = s.mir := by unfold State.raise; split <;> rfl
@[simp] theorem State.raise_err (s : State) (f : Fld) : (s.raise f).err = s.err := by unfold State.raise; split <;> rfl
@[simp] theorem State.raise_dbg (s : State) (f : Fld) : (s.raise f).dbg = s.dbg := by unfold State.raise; split <;> rfl
@[simp] theorem State.raise_clk (s : State) (f : Fld) : (s.raise f).clk = s.clk := by unfold State.raise; split <;> rfl
@[simp] theorem State.raise_mgt (s : State) (f : Fld) : (s.raise f).mgt = s.mgt := by unfold State.raise; split <;> rfl
@[simp] theorem State.raise_brd (s : State) (f : Fld) : (s.raise f).brd = s.brd := by unfold State.raise; split <;> rfl
@[simp] theorem State.raise_fresh (s : State) (f : Fld) : (s.raise f).fresh = s.fresh := by unfold State.raise; split <;> rfl
@[simp] theorem State.raise_pending (s : State) (f : Fld) : (s.raise f).pending = s.pending := by unfold State.raise; split <;> rfl

/-! Operations over one component. -/

@[simp] theorem State.send_fab (s : State) (p : Pkt) : (s.send p).fab = { s.fab with tx := s.fab.tx ++ [p] } := rfl
@[simp] theorem State.send_regs (s : State) (p : Pkt) : (s.send p).regs = s.regs := rfl
@[simp] theorem State.send_dev (s : State) (p : Pkt) : (s.send p).dev = s.dev := rfl
@[simp] theorem State.send_mem (s : State) (p : Pkt) : (s.send p).mem = s.mem := rfl
@[simp] theorem State.send_poison (s : State) (p : Pkt) : (s.send p).poison = s.poison := rfl
@[simp] theorem State.send_ext (s : State) (p : Pkt) : (s.send p).ext = s.ext := rfl
@[simp] theorem State.send_dir (s : State) (p : Pkt) : (s.send p).dir = s.dir := rfl
@[simp] theorem State.send_noc (s : State) (p : Pkt) : (s.send p).noc = s.noc := rfl
@[simp] theorem State.send_mch (s : State) (p : Pkt) : (s.send p).mch = s.mch := rfl
@[simp] theorem State.send_plc (s : State) (p : Pkt) : (s.send p).plc = s.plc := rfl
@[simp] theorem State.send_xlt (s : State) (p : Pkt) : (s.send p).xlt = s.xlt := rfl
@[simp] theorem State.send_lnk (s : State) (p : Pkt) : (s.send p).lnk = s.lnk := rfl
@[simp] theorem State.send_sec (s : State) (p : Pkt) : (s.send p).sec = s.sec := rfl
@[simp] theorem State.send_chn (s : State) (p : Pkt) : (s.send p).chn = s.chn := rfl
@[simp] theorem State.send_eng (s : State) (p : Pkt) : (s.send p).eng = s.eng := rfl
@[simp] theorem State.send_qos (s : State) (p : Pkt) : (s.send p).qos = s.qos := rfl
@[simp] theorem State.send_mir (s : State) (p : Pkt) : (s.send p).mir = s.mir := rfl
@[simp] theorem State.send_err (s : State) (p : Pkt) : (s.send p).err = s.err := rfl
@[simp] theorem State.send_dbg (s : State) (p : Pkt) : (s.send p).dbg = s.dbg := rfl
@[simp] theorem State.send_clk (s : State) (p : Pkt) : (s.send p).clk = s.clk := rfl
@[simp] theorem State.send_mgt (s : State) (p : Pkt) : (s.send p).mgt = s.mgt := rfl
@[simp] theorem State.send_brd (s : State) (p : Pkt) : (s.send p).brd = s.brd := rfl
@[simp] theorem State.send_fresh (s : State) (p : Pkt) : (s.send p).fresh = s.fresh := rfl
@[simp] theorem State.send_pending (s : State) (p : Pkt) : (s.send p).pending = s.pending := rfl

@[simp] theorem State.take_fresh (s : State) : s.take.2.fresh = s.fresh + 1 := rfl
@[simp] theorem State.take_regs (s : State) : s.take.2.regs = s.regs := rfl
@[simp] theorem State.take_dev (s : State) : s.take.2.dev = s.dev := rfl
@[simp] theorem State.take_mem (s : State) : s.take.2.mem = s.mem := rfl
@[simp] theorem State.take_poison (s : State) : s.take.2.poison = s.poison := rfl
@[simp] theorem State.take_ext (s : State) : s.take.2.ext = s.ext := rfl
@[simp] theorem State.take_dir (s : State) : s.take.2.dir = s.dir := rfl
@[simp] theorem State.take_noc (s : State) : s.take.2.noc = s.noc := rfl
@[simp] theorem State.take_mch (s : State) : s.take.2.mch = s.mch := rfl
@[simp] theorem State.take_plc (s : State) : s.take.2.plc = s.plc := rfl
@[simp] theorem State.take_xlt (s : State) : s.take.2.xlt = s.xlt := rfl
@[simp] theorem State.take_lnk (s : State) : s.take.2.lnk = s.lnk := rfl
@[simp] theorem State.take_fab (s : State) : s.take.2.fab = s.fab := rfl
@[simp] theorem State.take_sec (s : State) : s.take.2.sec = s.sec := rfl
@[simp] theorem State.take_chn (s : State) : s.take.2.chn = s.chn := rfl
@[simp] theorem State.take_eng (s : State) : s.take.2.eng = s.eng := rfl
@[simp] theorem State.take_qos (s : State) : s.take.2.qos = s.qos := rfl
@[simp] theorem State.take_mir (s : State) : s.take.2.mir = s.mir := rfl
@[simp] theorem State.take_err (s : State) : s.take.2.err = s.err := rfl
@[simp] theorem State.take_dbg (s : State) : s.take.2.dbg = s.dbg := rfl
@[simp] theorem State.take_clk (s : State) : s.take.2.clk = s.clk := rfl
@[simp] theorem State.take_mgt (s : State) : s.take.2.mgt = s.mgt := rfl
@[simp] theorem State.take_brd (s : State) : s.take.2.brd = s.brd := rfl
@[simp] theorem State.take_pending (s : State) : s.take.2.pending = s.pending := rfl

@[simp] theorem State.trace_regs_off (s : State) (r : TraceRec) (f : Fld) (h : f.key ≠ Reg.DBG_TSTAT_SOURCE_DROPS.key) :
    (s.trace r).get f = s.get f := by
  unfold State.trace
  split
  · dsimp only
    split
    · rfl
    · exact State.get_put_ne _ _ h
  · rfl
@[simp] theorem State.trace_dev (s : State) (r : TraceRec) : (s.trace r).dev = s.dev := by
  unfold State.trace; split
  · dsimp only; split <;> rfl
  · rfl
@[simp] theorem State.trace_mem (s : State) (r : TraceRec) : (s.trace r).mem = s.mem := by
  unfold State.trace; split
  · dsimp only; split <;> rfl
  · rfl
@[simp] theorem State.trace_poison (s : State) (r : TraceRec) : (s.trace r).poison = s.poison := by
  unfold State.trace; split
  · dsimp only; split <;> rfl
  · rfl
@[simp] theorem State.trace_ext (s : State) (r : TraceRec) : (s.trace r).ext = s.ext := by
  unfold State.trace; split
  · dsimp only; split <;> rfl
  · rfl
@[simp] theorem State.trace_dir (s : State) (r : TraceRec) : (s.trace r).dir = s.dir := by
  unfold State.trace; split
  · dsimp only; split <;> rfl
  · rfl
@[simp] theorem State.trace_noc (s : State) (r : TraceRec) : (s.trace r).noc = s.noc := by
  unfold State.trace; split
  · dsimp only; split <;> rfl
  · rfl
@[simp] theorem State.trace_mch (s : State) (r : TraceRec) : (s.trace r).mch = s.mch := by
  unfold State.trace; split
  · dsimp only; split <;> rfl
  · rfl
@[simp] theorem State.trace_plc (s : State) (r : TraceRec) : (s.trace r).plc = s.plc := by
  unfold State.trace; split
  · dsimp only; split <;> rfl
  · rfl
@[simp] theorem State.trace_xlt (s : State) (r : TraceRec) : (s.trace r).xlt = s.xlt := by
  unfold State.trace; split
  · dsimp only; split <;> rfl
  · rfl
@[simp] theorem State.trace_lnk (s : State) (r : TraceRec) : (s.trace r).lnk = s.lnk := by
  unfold State.trace; split
  · dsimp only; split <;> rfl
  · rfl
@[simp] theorem State.trace_fab (s : State) (r : TraceRec) : (s.trace r).fab = s.fab := by
  unfold State.trace; split
  · dsimp only; split <;> rfl
  · rfl
@[simp] theorem State.trace_sec (s : State) (r : TraceRec) : (s.trace r).sec = s.sec := by
  unfold State.trace; split
  · dsimp only; split <;> rfl
  · rfl
@[simp] theorem State.trace_chn (s : State) (r : TraceRec) : (s.trace r).chn = s.chn := by
  unfold State.trace; split
  · dsimp only; split <;> rfl
  · rfl
@[simp] theorem State.trace_eng (s : State) (r : TraceRec) : (s.trace r).eng = s.eng := by
  unfold State.trace; split
  · dsimp only; split <;> rfl
  · rfl
@[simp] theorem State.trace_qos (s : State) (r : TraceRec) : (s.trace r).qos = s.qos := by
  unfold State.trace; split
  · dsimp only; split <;> rfl
  · rfl
@[simp] theorem State.trace_mir (s : State) (r : TraceRec) : (s.trace r).mir = s.mir := by
  unfold State.trace; split
  · dsimp only; split <;> rfl
  · rfl
@[simp] theorem State.trace_err (s : State) (r : TraceRec) : (s.trace r).err = s.err := by
  unfold State.trace; split
  · dsimp only; split <;> rfl
  · rfl
@[simp] theorem State.trace_clk (s : State) (r : TraceRec) : (s.trace r).clk = s.clk := by
  unfold State.trace; split
  · dsimp only; split <;> rfl
  · rfl
@[simp] theorem State.trace_mgt (s : State) (r : TraceRec) : (s.trace r).mgt = s.mgt := by
  unfold State.trace; split
  · dsimp only; split <;> rfl
  · rfl
@[simp] theorem State.trace_brd (s : State) (r : TraceRec) : (s.trace r).brd = s.brd := by
  unfold State.trace; split
  · dsimp only; split <;> rfl
  · rfl
@[simp] theorem State.trace_fresh (s : State) (r : TraceRec) : (s.trace r).fresh = s.fresh := by
  unfold State.trace; split
  · dsimp only; split <;> rfl
  · rfl
@[simp] theorem State.trace_pending (s : State) (r : TraceRec) : (s.trace r).pending = s.pending := by
  unfold State.trace; split
  · dsimp only; split <;> rfl
  · rfl

/-! Reading after the other updates. -/

@[simp] theorem State.get_send (s : State) (p : Pkt) (f : Fld) : (s.send p).get f = s.get f := rfl
@[simp] theorem State.get_take (s : State) (f : Fld) : s.take.2.get f = s.get f := rfl

/-- A command's end leaves its status, where status and detail are different fields. -/
theorem State.get_endCmd_status (s : State) {f g : Fld} (a b : Nat) (h : f.key ≠ g.key) :
    (s.endCmd f g a b).get f = a % 2 ^ f.width := by
  unfold State.endCmd; rw [State.get_put_ne _ _ h, State.get_put_self]

@[simp] theorem State.get_endCmd_detail (s : State) (f g : Fld) (a b : Nat) :
    (s.endCmd f g a b).get g = b % 2 ^ g.width := by unfold State.endCmd; simp

/-- A raised event reads nonzero. -/
theorem State.raise_sets (s : State) (f : Fld) (h : f.key ≠ Reg.MGT_NOTIFY_PENDING.key) (w : f.width = 1) :
    (s.raise f).get f ≠ 0 := by
  unfold State.raise
  split
  · unfold State.notify; rw [State.get_put_ne _ _ h]; simp [w]
  · assumption

/-- Raising an event leaves every register but its own and MGT_NOTIFY. -/
theorem State.get_raise_ne (s : State) {f g : Fld} (h : g.key ≠ f.key) (n : g.key ≠ Reg.MGT_NOTIFY_PENDING.key) :
    (s.raise f).get g = s.get g := by
  unfold State.raise
  split
  · unfold State.notify; rw [State.get_put_ne _ _ n, State.get_put_ne _ _ h]
  · rfl

theorem State.get_count_self (s : State) (f : Fld) (d : Nat) : (s.count f d).get f = satAdd f.top (s.get f) d % 2 ^ f.width := by
  unfold State.count; simp

theorem State.get_count_ne (s : State) {f g : Fld} (d : Nat) (h : g.key ≠ f.key) : (s.count f d).get g = s.get g :=
  s.get_put_ne _ h

theorem State.get_bump_self (s : State) (f : Fld) (d : Nat) : (s.bump f d).get f = (s.get f + d) % 2 ^ f.width := by
  unfold State.bump; simp

end Sys2Proof.Machine
end

