-- ==== Sys2Proof/Laws/Memory.lean ====
section
/-! SUPPORT. Pool memory: a byte read after a write, the bytes a write leaves alone, and that every write keeps the
canonical form. -/

namespace Sys2Proof.Machine

@[simp] theorem rdByte_wrByte_self (m : List Host.Cell) (a : Nat) (b : Byte) : rdByte (wrByte m a b) a = b := by
  unfold rdByte wrByte
  split
  · next h => simp [h]
  · simp

@[simp] theorem rdByte_wrByte_ne (m : List Host.Cell) {a x : Nat} (b : Byte) (h : x ≠ a) :
    rdByte (wrByte m a b) x = rdByte m x := by
  unfold rdByte wrByte
  split <;> simp [h]

theorem rdByte_wrMasked (l : List (Option Byte)) (m : List Host.Cell) (a x : Nat) :
    rdByte (wrMasked m a l) x = if a ≤ x ∧ x < a + l.length then (l.getD (x - a) none).getD (rdByte m x) else rdByte m x := by
  induction l generalizing m a with
  | nil => simp [wrMasked]
  | cons b l ih =>
    by_cases hx : x = a
    · subst hx
      have h : ¬ (x + 1 ≤ x ∧ x < x + 1 + l.length) := by omega
      cases b <;> simp [wrMasked, ih, h]
    · by_cases hlt : a + 1 ≤ x
      · have e : x - a = (x - (a + 1)) + 1 := by omega
        have c : (a ≤ x ∧ x < a + (l.length + 1)) = (a + 1 ≤ x ∧ x < a + 1 + l.length) := by
          simp only [eq_iff_iff]; omega
        cases b <;> simp [wrMasked, ih, e, c, hx]
      · have h1 : ¬ (a + 1 ≤ x ∧ x < a + 1 + l.length) := by omega
        have h2 : ¬ (a ≤ x ∧ x < a + (l.length + 1)) := by omega
        cases b <;> simp only [wrMasked, ih, List.length_cons, if_neg h1, if_neg h2, rdByte_wrByte_ne _ _ hx]

/-- A write changes no byte outside its range. -/
theorem rdByte_wrMasked_off {m : List Host.Cell} {a x : Nat} {l : List (Option Byte)} (h : x < a ∨ a + l.length ≤ x) :
    rdByte (wrMasked m a l) x = rdByte m x := by
  rw [rdByte_wrMasked, if_neg]; omega

theorem memWf_iff (m : List Host.Cell) : memWf m = true ↔ NMap.wf m = true ∧ ∀ c ∈ m, c.2 ≠ 0#8 := by
  simp [memWf]

theorem memWf_wrByte {m : List Host.Cell} (a : Nat) (b : Byte) (h : memWf m = true) : memWf (wrByte m a b) = true := by
  rw [memWf_iff] at *
  unfold wrByte
  split
  · exact ⟨NMap.wf_erase a h.1, fun c hc => h.2 c (NMap.mem_erase hc)⟩
  · next hb =>
    refine ⟨NMap.wf_insert a b h.1, fun c hc => ?_⟩
    rcases NMap.mem_insert hc with rfl | hc
    · exact hb
    · exact h.2 c hc

/-- Every masked write keeps the canonical form. -/
theorem memWf_wrMasked (l : List (Option Byte)) {m : List Host.Cell} (a : Nat) (h : memWf m = true) :
    memWf (wrMasked m a l) = true := by
  induction l generalizing m a with
  | nil => exact h
  | cons b l ih => cases b with
    | none => exact ih _ h
    | some b => exact ih _ (memWf_wrByte a b h)

/-- So does taking bytes out (a scrub, R32; a page handed over, R116). -/
theorem memWf_filter {m : List Host.Cell} (f : Host.Cell → Bool) (h : memWf m = true) : memWf (m.filter f) = true := by
  rw [memWf_iff] at *
  exact ⟨NMap.wf_filter f h.1, fun c hc => h.2 c (List.mem_filter.1 hc).1⟩

theorem State.memWf_wr (s : State) (a : Nat) (l : List (Option Byte)) (p : Bool) (h : memWf s.mem = true) :
    memWf (s.wr a l p).mem = true := memWf_wrMasked l a h

theorem memWf_reset : memWf State.reset.mem = true := rfl

/-- `n` bytes read back after they were written. -/
theorem rdBytes_length (m : List Host.Cell) (a n : Nat) : (rdBytes m a n).length = n := by
  induction n generalizing a with
  | zero => rfl
  | succ n ih => simp [rdBytes, ih]

end Sys2Proof.Machine
end

