-- ==== Sys2Proof/Laws/Engine.lean ====
section
/-! SUPPORT. Engines: registers read after a write, what a retirement does (Retires), and one instruction's common shape
(runI), each said once. -/

namespace Sys2Proof.Machine

open Reg

/-! Registers. -/

theorem getD_putReg (m : NMap Nat) (n v q : Nat) : NMap.getD (putReg m n v) q 0 = if q = n then v else NMap.getD m q 0 := by
  unfold putReg
  by_cases h : v = 0 <;> by_cases hq : q = n <;> simp [h, hq]

theorem sreg_setS (x : Eng) (d v r : Nat) : sreg (x.setS d v) r = if r = d ∧ r ≠ 0 then v % 2 ^ 64 else sreg x r := by
  unfold sreg Eng.setS
  by_cases hd : d = 0
  · by_cases hr : r = 0 <;> simp [hd, hr]
  · by_cases hr : r = 0
    · subst hr; simp
    · by_cases h : r = d <;> simp [hd, hr, getD_putReg, h]

theorem preg_setP (x : Eng) (d r : Nat) (b : Bool) (hd : d < 8) (hr : r < 8) :
    preg (x.setP d b) r = if r = d ∧ r ≠ 0 then b else preg x r := by
  unfold preg Eng.setP
  have ed : d % 8 = d := Nat.mod_eq_of_lt hd
  have er : r % 8 = r := Nat.mod_eq_of_lt hr
  rw [ed, er]
  by_cases h0 : d = 0
  · by_cases h : r = 0 <;> simp [h0, h]
  · by_cases h : r = 0
    · subst h; simp
    · by_cases h' : r = d
      · subst h'; simp only [h0, if_false]; rw [getD_putReg]; cases b <;> simp [b2n, h0]
      · simp only [h0, if_false]; rw [getD_putReg]; simp [h', h]

theorem vreg_setV (x : Eng) (d v r : Nat) : vreg (x.setV d v) r = if r = d then v % 2 ^ 1024 else vreg x r := by
  unfold vreg Eng.setV
  rw [getD_putReg]
  split
  · exact Nat.mod_mod _ _
  · rfl

theorem setS_p (x : Eng) (d v : Nat) : (x.setS d v).p = x.p := by unfold Eng.setS; split <;> rfl
theorem setS_v (x : Eng) (d v : Nat) : (x.setS d v).v = x.v := by unfold Eng.setS; split <;> rfl
theorem setS_t (x : Eng) (d v : Nat) : (x.setS d v).t = x.t := by unfold Eng.setS; split <;> rfl
theorem setS_imem (x : Eng) (d v : Nat) : (x.setS d v).imem = x.imem := by unfold Eng.setS; split <;> rfl
theorem setS_prog (x : Eng) (d v : Nat) : (x.setS d v).prog = x.prog := by unfold Eng.setS; split <;> rfl
theorem setS_pc (x : Eng) (d v : Nat) : (x.setS d v).pc = x.pc := by unfold Eng.setS; split <;> rfl
theorem setP_s (x : Eng) (d : Nat) (b : Bool) : (x.setP d b).s = x.s := by unfold Eng.setP; split <;> rfl
theorem setP_v (x : Eng) (d : Nat) (b : Bool) : (x.setP d b).v = x.v := by unfold Eng.setP; split <;> rfl
theorem setP_t (x : Eng) (d : Nat) (b : Bool) : (x.setP d b).t = x.t := by unfold Eng.setP; split <;> rfl
theorem setP_imem (x : Eng) (d : Nat) (b : Bool) : (x.setP d b).imem = x.imem := by unfold Eng.setP; split <;> rfl
theorem setP_prog (x : Eng) (d : Nat) (b : Bool) : (x.setP d b).prog = x.prog := by unfold Eng.setP; split <;> rfl
theorem setP_pc (x : Eng) (d : Nat) (b : Bool) : (x.setP d b).pc = x.pc := by unfold Eng.setP; split <;> rfl

/-- What is read through sreg, preg and vreg hangs on s, p and v alone. -/
theorem sreg_congr {x y : Eng} (h : y.s = x.s) (r : Nat) : sreg y r = sreg x r := by unfold sreg; rw [h]
theorem preg_congr {x y : Eng} (h : y.p = x.p) (r : Nat) : preg y r = preg x r := by unfold preg; rw [h]
theorem vreg_congr {x y : Eng} (h : y.v = x.v) (r : Nat) : vreg y r = vreg x r := by unfold vreg; rw [h]

/-! The engine table. -/

@[simp] theorem engOf_setEng_self (s : State) (e : Nat) (x : Eng) : engOf (s.setEng e x) e = x := by
  unfold engOf State.setEng; simp
theorem engOf_setEng_ne (s : State) {e o : Nat} (x : Eng) (h : o ≠ e) : engOf (s.setEng e x) o = engOf s o := by
  unfold engOf State.setEng; simp [h]
theorem engOf_congr {s t : State} (h : t.eng = s.eng) (e : Nat) : engOf t e = engOf s e := by unfold engOf; rw [h]
theorem get_congr {s t : State} (h : t.regs = s.regs) (d : t.dev = s.dev) (f : Fld) : t.get f = s.get f := by
  unfold State.get; rw [h, d]

/-- Nothing but the engines, the register bank, the counters and the count of free values differs. -/
def EngOnly (s t : State) : Prop := t = { s with
  eng := t.eng
  regs := t.regs
  dbg := t.dbg
  fresh := t.fresh }

theorem EngOnly.rfl' (s : State) : EngOnly s s := rfl
theorem EngOnly.trans {a b c : State} (h : EngOnly a b) (k : EngOnly b c) : EngOnly a c := by
  unfold EngOnly at *; rw [k, h]
theorem EngOnly.dev {s t : State} (h : EngOnly s t) : t.dev = s.dev := by rw [h]
theorem EngOnly.setEng (s : State) (e : Nat) (x : Eng) : EngOnly s (s.setEng e x) := rfl
theorem EngOnly.put (s : State) (f : Fld) (v : Nat) : EngOnly s (s.put f v) := rfl

/-- A core that is the same but for its store. -/
theorem SameCore.rfl' (x : Eng) : SameCore x x := ⟨rfl, rfl, rfl, rfl, rfl, rfl, rfl, rfl, rfl, rfl, rfl⟩
theorem SameCore.trans {x y z : Eng} (h : SameCore x y) (k : SameCore y z) : SameCore x z := by
  obtain ⟨h1, h2, h3, h4, h5, h6, h7, h8, h9, h10, h11⟩ := h
  obtain ⟨k1, k2, k3, k4, k5, k6, k7, k8, k9, k10, k11⟩ := k
  exact ⟨k1.trans h1, k2.trans h2, k3.trans h3, k4.trans h4, k5.trans h5, k6.trans h6, k7.trans h7, k8.trans h8,
    k9.trans h9, k10.trans h10, k11.trans h11⟩

/-- What an operation on stores leaves: every core, every register field, every other kind of state. -/
def CoresKept (s t : State) : Prop := (∀ o, SameCore (engOf s o) (engOf t o)) ∧ t.regs = s.regs ∧ EngOnly s t

theorem CoresKept.rfl' (s : State) : CoresKept s s := ⟨fun _ => SameCore.rfl' _, rfl, rfl⟩
theorem CoresKept.trans {a b c : State} (h : CoresKept a b) (k : CoresKept b c) : CoresKept a c :=
  ⟨fun o => (h.1 o).trans (k.1 o), k.2.1.trans h.2.1, h.2.2.trans k.2.2⟩

theorem nbrWrite_kept (s : State) (n : NStore) : CoresKept s (s.nbrWrite n) := by
  refine ⟨fun o => ?_, rfl, rfl⟩
  unfold State.nbrWrite
  by_cases h : o = n.owner
  · subst h; rw [engOf_setEng_self]; exact ⟨rfl, rfl, rfl, rfl, rfl, rfl, rfl, rfl, rfl, rfl, rfl⟩
  · rw [engOf_setEng_ne _ _ h]; exact SameCore.rfl' _

theorem nbrWrites_kept (l : List NStore) (s : State) : CoresKept s (l.foldl State.nbrWrite s) := by
  induction l generalizing s with
  | nil => exact CoresKept.rfl' s
  | cons n l ih => exact (nbrWrite_kept s n).trans (ih _)

theorem nst_kept (s : State) (e : Nat) (l : List NStore) : CoresKept s (s.setEng e { engOf s e with nst := l }) := by
  refine ⟨fun o => ?_, rfl, rfl⟩
  by_cases h : o = e
  · subst h; rw [engOf_setEng_self]; exact ⟨rfl, rfl, rfl, rfl, rfl, rfl, rfl, rfl, rfl, rfl, rfl⟩
  · rw [engOf_setEng_ne _ _ h]; exact SameCore.rfl' _

theorem flushNbr_kept (s : State) (e : Nat) : CoresKept s (s.flushNbr e) := by
  unfold State.flushNbr
  exact (nst_kept s e []).trans (nbrWrites_kept _ _)

theorem take_kept (s : State) : CoresKept s s.take.2 := ⟨fun _ => SameCore.rfl' _, rfl, rfl⟩

theorem draw_kept (s : State) (l : Nat) : CoresKept s (s.draw l).2 := by
  unfold State.draw
  split
  · exact CoresKept.rfl' s
  · exact take_kept s

theorem nbrDrain_kept (s : State) (e : Nat) : CoresKept s (s.nbrDrain e) := by
  unfold State.nbrDrain
  split
  · exact CoresKept.rfl' s
  · dsimp only
    split
    · exact (draw_kept s 1).trans (flushNbr_kept _ e)
    · exact draw_kept s 1

theorem engCount_kept (s : State) (e i d : Nat) : CoresKept s (s.engCount e i d) := ⟨fun _ => SameCore.rfl' _, rfl, rfl⟩

/-! Retirement. -/

/-- The keys of the four fields that a retirement writes. -/
def retireFields (e : Nat) : List Fld :=
  [ENG_RETIRED_RETIRED e, ENG_CYCLES_CYCLES e, ENG_STATUS_TAGS_OUT e, ENG_STATUS_PC e]

theorem retired_ne (e : Nat) : (ENG_RETIRED_RETIRED e).key ≠ (ENG_CYCLES_CYCLES e).key ∧
    (ENG_RETIRED_RETIRED e).key ≠ (ENG_STATUS_TAGS_OUT e).key ∧ (ENG_RETIRED_RETIRED e).key ≠ (ENG_STATUS_PC e).key := by
  refine ⟨?_, ?_, ?_⟩ <;> unfold Fld.key ENG_RETIRED_RETIRED <;> dsimp only [ENG_CYCLES_CYCLES, ENG_STATUS_TAGS_OUT, ENG_STATUS_PC] <;> omega

/-- What showing an engine in ENG_STATUS does. -/
theorem showEng_regs (s : State) (e : Nat) (f : Fld) (h : f.key ∉ (retireFields e).map Fld.key) :
    (s.showEng e).get f = s.get f := by
  simp only [retireFields, List.map_cons, List.map_nil, List.mem_cons, List.not_mem_nil, or_false, not_or] at h
  unfold State.showEng
  dsimp only
  rw [State.get_put_ne _ _ h.2.2.2, State.get_put_ne _ _ h.2.2.1]

@[simp] theorem get_setEng (s : State) (e : Nat) (x : Eng) (f : Fld) : (s.setEng e x).get f = s.get f := rfl
@[simp] theorem get_engCount (s : State) (e i d : Nat) (f : Fld) : (s.engCount e i d).get f = s.get f := rfl
theorem get_cycles (s : State) (e : Nat) {f : Fld} (h : f.key ≠ (ENG_CYCLES_CYCLES e).key) : (s.cycles e).get f = s.get f := by
  unfold State.cycles State.bump
  dsimp only
  rw [get_engCount, State.get_put_ne _ _ h, State.get_take]

/-- A retirement: the next index, the count, and nothing else of any core or register. -/
theorem retireI_spec (s : State) (e pc : Nat) :
    Retires s (s.retireI e pc) e pc ∧ SameCore { engOf s e with
      pc := pc % 2 ^ 64
      from_ := (engOf s e).pc
      wait := none } (engOf (s.retireI e pc) e) := by
  obtain ⟨hc, hr, ho⟩ := nbrDrain_kept s e
  generalize ht : s.nbrDrain e = u at hc hr ho
  have hret : s.retireI e pc = (((u.setEng e { engOf u e with
      pc := pc % 2 ^ 64
      from_ := (engOf u e).pc
      wait := none }).bump (ENG_RETIRED_RETIRED e) 1).cycles e).showEng e := by
    unfold State.retireI; rw [ht]
  have he : (s.retireI e pc).eng = (u.setEng e { engOf u e with
      pc := pc % 2 ^ 64
      from_ := (engOf u e).pc
      wait := none }).eng := by rw [hret]; rfl
  have hself : engOf (s.retireI e pc) e = { engOf u e with
      pc := pc % 2 ^ 64
      from_ := (engOf u e).pc
      wait := none } := by rw [engOf_congr he]; simp
  have hget : ∀ f : Fld, u.get f = s.get f := fun f => get_congr hr ho.dev f
  obtain ⟨c1, c2, c3, c4, c5, c6, c7, c8, c9, c10, c11⟩ := hc e
  refine ⟨⟨by rw [hself], by rw [hself], by rw [hself]; exact c5, by rw [hself]; exact c6, ?_, ?_, ?_, ?_⟩, ?_⟩
  · obtain ⟨n1, n2, n3⟩ := retired_ne e
    rw [hret]
    unfold State.showEng State.bump
    dsimp only
    rw [State.get_put_ne _ _ n3, State.get_put_ne _ _ n2, get_cycles _ _ n1, State.get_put_self, get_setEng, hget]
    rfl
  · intro f hf
    have hf' := hf
    simp only [List.map_cons, List.map_nil, List.mem_cons, List.not_mem_nil, or_false, not_or] at hf
    rw [hret, showEng_regs _ _ _ hf', get_cycles _ _ hf.2.1]
    unfold State.bump
    rw [State.get_put_ne _ _ hf.1, get_setEng, hget]
  · intro o hne
    rw [engOf_congr he, engOf_setEng_ne _ _ hne]
    exact hc o
  · exact EngOnly.trans ho (by rw [hret]; rfl)
  · rw [hself]
    exact ⟨c1, c2, c3, c4, c5, c6, c7, c8, rfl, rfl, c10⟩

/-- An engine given new registers retires its instruction. -/
theorem retireWith_spec (s : State) (e : Nat) (x : Eng) (hi : x.imem = (engOf s e).imem) (hp : x.prog = (engOf s e).prog) :
    Retires s (s.retireWith e x) e (x.pc + 1) ∧ SameCore { x with
      pc := (x.pc + 1) % 2 ^ 64
      from_ := x.pc
      wait := none } (engOf (s.retireWith e x) e) := by
  obtain ⟨⟨r1, r2, r3, r4, r5, r6, r7, r8⟩, hc⟩ := retireI_spec (s.setEng e x) e (x.pc + 1)
  rw [engOf_setEng_self] at r3 r4 hc
  refine ⟨⟨r1, r2, r3.trans hi, r4.trans hp, r5, r6, fun o ho => ?_, ?_⟩, hc⟩
  · have := r7 o ho; rwa [engOf_setEng_ne _ _ ho] at this
  · exact EngOnly.trans (EngOnly.setEng s e x) r8

theorem sreg_lt (x : Eng) (n : Nat) : sreg x n < 2 ^ 64 := by
  unfold sreg; split
  · exact Nat.two_pow_pos _
  · exact Nat.mod_lt _ (Nat.two_pow_pos _)

theorem sword_toNat (x : Eng) (n : Nat) : (sword x n).toNat = sreg x n := by
  unfold sword; rw [BitVec.toNat_ofNat]; exact Nat.mod_eq_of_lt (sreg_lt x n)

/-- A scalar result: the register, the retirement, and no other register. -/
theorem retireWith_setS (s : State) (e d v : Nat) :
    Retires s (s.retireWith e ((engOf s e).setS d v)) e ((engOf s e).pc + 1) ∧
    GetsS (engOf s e) (engOf (s.retireWith e ((engOf s e).setS d v)) e) d v ∧
    KeepsP (engOf s e) (engOf (s.retireWith e ((engOf s e).setS d v)) e) ∧
    KeepsV (engOf s e) (engOf (s.retireWith e ((engOf s e).setS d v)) e) ∧
    KeepsT (engOf s e) (engOf (s.retireWith e ((engOf s e).setS d v)) e) := by
  obtain ⟨r, c⟩ := retireWith_spec s e ((engOf s e).setS d v) (setS_imem _ _ _) (setS_prog _ _ _)
  rw [setS_pc] at r
  obtain ⟨c1, c2, c3, c4, -⟩ := c
  refine ⟨r, fun q => ?_, fun q => ?_, fun q => ?_, ?_⟩
  · rw [sreg_congr c1, ← sreg_setS]; rfl
  · rw [preg_congr c2]; exact preg_congr (setS_p _ _ _) q
  · rw [vreg_congr c3]; exact vreg_congr (setS_v _ _ _) q
  · exact c4.trans (setS_t _ _ _)

/-- A predicate result. -/
theorem retireWith_setP (s : State) (e d : Nat) (b : Bool) (hd : d < 8) :
    Retires s (s.retireWith e ((engOf s e).setP d b)) e ((engOf s e).pc + 1) ∧
    GetsP (engOf s e) (engOf (s.retireWith e ((engOf s e).setP d b)) e) d b ∧
    KeepsS (engOf s e) (engOf (s.retireWith e ((engOf s e).setP d b)) e) ∧
    KeepsV (engOf s e) (engOf (s.retireWith e ((engOf s e).setP d b)) e) ∧
    KeepsT (engOf s e) (engOf (s.retireWith e ((engOf s e).setP d b)) e) := by
  obtain ⟨r, c⟩ := retireWith_spec s e ((engOf s e).setP d b) (setP_imem _ _ _) (setP_prog _ _ _)
  rw [setP_pc] at r
  obtain ⟨c1, c2, c3, c4, -⟩ := c
  refine ⟨r, fun q hq => ?_, fun q => ?_, fun q => ?_, ?_⟩
  · rw [preg_congr c2, ← preg_setP _ _ _ _ hd hq]; rfl
  · rw [sreg_congr c1]; exact sreg_congr (setP_s _ _ _) q
  · rw [vreg_congr c3]; exact vreg_congr (setP_v _ _ _) q
  · exact c4.trans (setP_t _ _ _)

/-- A vector result. -/
theorem retireWith_setV (s : State) (e d v : Nat) :
    Retires s (s.retireWith e ((engOf s e).setV d v)) e ((engOf s e).pc + 1) ∧
    GetsV (engOf s e) (engOf (s.retireWith e ((engOf s e).setV d v)) e) d v ∧
    KeepsS (engOf s e) (engOf (s.retireWith e ((engOf s e).setV d v)) e) ∧
    KeepsP (engOf s e) (engOf (s.retireWith e ((engOf s e).setV d v)) e) ∧
    KeepsT (engOf s e) (engOf (s.retireWith e ((engOf s e).setV d v)) e) := by
  obtain ⟨r, c⟩ := retireWith_spec s e ((engOf s e).setV d v) rfl rfl
  obtain ⟨c1, c2, c3, c4, -⟩ := c
  refine ⟨r, fun q => ?_, fun q => ?_, fun q => ?_, c4⟩
  · rw [vreg_congr c3, ← vreg_setV]; rfl
  · exact sreg_congr c1 q
  · exact preg_congr c2 q

/-- The same, of a retirement without a result. -/
theorem retireI_keeps (s : State) (e pc : Nat) :
    Retires s (s.retireI e pc) e pc ∧ KeepsS (engOf s e) (engOf (s.retireI e pc) e) ∧
    KeepsP (engOf s e) (engOf (s.retireI e pc) e) ∧ KeepsV (engOf s e) (engOf (s.retireI e pc) e) ∧
    KeepsT (engOf s e) (engOf (s.retireI e pc) e) := by
  obtain ⟨r, c1, c2, c3, c4, -⟩ := retireI_spec s e pc
  exact ⟨r, sreg_congr c1, preg_congr c2, vreg_congr c3, c4⟩

/-- A count of an operation before a retirement is no more than a count: registers, stores and queues are as without it. -/
theorem retires_count {s t : State} {e pc i d : Nat} (h : Retires (s.engCount e i d) t e pc) : Retires s t e pc := by
  obtain ⟨r1, r2, r3, r4, r5, r6, r7, r8⟩ := h
  exact ⟨r1, r2, r3, r4, r5, r6, r7, by rw [r8]; rfl⟩

theorem retires_take {s t : State} {e pc : Nat} (h : Retires s.take.2 t e pc) : Retires s t e pc := by
  obtain ⟨r1, r2, r3, r4, r5, r6, r7, r8⟩ := h
  exact ⟨r1, r2, r3, r4, r5, r6, r7, by rw [r8]; rfl⟩

theorem getsS_congr {x y : Eng} {d v v' : Nat} (h : v % 2 ^ 64 = v' % 2 ^ 64) (g : GetsS x y d v) : GetsS x y d v' := by
  intro r; rw [g r, h]

theorem getsP_congr {x y : Eng} {d : Nat} {b b' : Bool} (h : b = b') (g : GetsP x y d b) : GetsP x y d b' := h ▸ g

/-! Faults. -/

/-- The registers of ENG_FAULT and ENG_STATUS that a stop writes, and the barrier registers that it leaves by. -/
def stopFields (e : Nat) : List Fld :=
  [ENG_FAULT_CAUSE e, ENG_FAULT_STATUS e, ENG_FAULT_DETAIL e, ENG_FAULT_PC e, ENG_FAULT_TAG e, ENG_FAULT_ADDR_ADDR e,
    ENG_FAULT_MORE e, ENG_STATUS_STATE e, ENG_STATUS_TAGS_OUT e, ENG_STATUS_PC e, CIRQ_BAR0_ARRIVED (e / 16), CIRQ_BAR1_ARRIVED (e / 16)]

/-- An engine's register fields lie on its own page: no stop of another engine writes them. -/
theorem stopFields_other {e o : Nat} (h : o ≠ e) (f : Fld) (hf : f ∈ [ENG_FAULT_CAUSE e, ENG_FAULT_STATUS e, ENG_FAULT_PC e,
    ENG_FAULT_ADDR_ADDR e, ENG_STATUS_STATE e]) : f.key ∉ (stopFields o).map Fld.key := by
  simp only [List.mem_cons, List.not_mem_nil, or_false] at hf
  simp only [stopFields, List.map_cons, List.map_nil, List.mem_cons, List.not_mem_nil, or_false, not_or]
  rcases hf with rfl | rfl | rfl | rfl | rfl <;> refine ⟨?_, ?_, ?_, ?_, ?_, ?_, ?_, ?_, ?_, ?_, ?_, ?_⟩ <;>
    unfold Fld.key <;> dsimp only [ENG_FAULT_CAUSE, ENG_FAULT_STATUS, ENG_FAULT_DETAIL, ENG_FAULT_PC, ENG_FAULT_TAG,
      ENG_FAULT_ADDR_ADDR, ENG_FAULT_MORE, ENG_STATUS_STATE, ENG_STATUS_TAGS_OUT, ENG_STATUS_PC, CIRQ_BAR0_ARRIVED,
      CIRQ_BAR1_ARRIVED] <;> omega

/-- What a stop of engine `o` leaves of another engine, and of everything but the engines and the register bank. -/
def StopKept (o : Nat) (s t : State) : Prop :=
  (∀ e, e ≠ o → engOf t e = engOf s e) ∧ (∀ f : Fld, f.key ∉ (stopFields o).map Fld.key → t.get f = s.get f) ∧
  (engOf t o).s = (engOf s o).s ∧ (engOf t o).p = (engOf s o).p ∧ (engOf t o).v = (engOf s o).v ∧
  (engOf t o).t = (engOf s o).t ∧ (engOf t o).pc = (engOf s o).pc ∧ (engOf t o).neve = (engOf s o).neve ∧ t.mem = s.mem

theorem abandon_kept (s : State) (e : Nat) : StopKept e s (s.abandon e) := by
  have key : ∀ u : State, u.dev = s.dev → u.mem = s.mem → (∀ o, engOf u o = engOf s o) →
      (∀ f : Fld, f.key ∉ (stopFields e).map Fld.key → u.get f = s.get f) →
      StopKept e s (u.setEng e { engOf u e with wait := none }) := by
    intro u _ hm he hg
    refine ⟨fun o ho => ?_, fun f hf => ?_, ?_, ?_, ?_, ?_, ?_, ?_, hm⟩
    · rw [engOf_setEng_ne _ _ ho, he]
    · rw [get_setEng]; exact hg f hf
    all_goals rw [engOf_setEng_self, he]
  unfold State.abandon
  dsimp only
  split
  · next b _ =>
    refine key _ rfl rfl (fun _ => rfl) fun f hf => ?_
    simp only [stopFields, List.map_cons, List.map_nil, List.mem_cons, List.not_mem_nil, or_false, not_or] at hf
    rw [State.get_put_ne]
    split
    · exact hf.2.2.2.2.2.2.2.2.2.2.1
    · exact hf.2.2.2.2.2.2.2.2.2.2.2
  · exact key _ rfl rfl (fun _ => rfl) fun f _ => rfl
  · exact key _ rfl rfl (fun _ => rfl) fun f _ => rfl

theorem engStop_kept (s : State) (e : Nat) (x : EFault) : StopKept e s (s.engStop e x) := by
  unfold State.engStop
  dsimp only
  split
  · obtain ⟨h1, h2, h3, h4, h5, h6, h7, h8, h9⟩ := abandon_kept s e
    generalize hu : ((((((((s.abandon e).put (ENG_FAULT_CAUSE e) x.cause).put (ENG_FAULT_STATUS e) x.status).put
      (ENG_FAULT_DETAIL e) x.detail).put (ENG_FAULT_PC e) x.pc).put (ENG_FAULT_TAG e) x.tag).put
      (ENG_FAULT_ADDR_ADDR e) x.addr).putSt e 4).showEng e = u
    have heng : u.eng = (s.abandon e).eng := by rw [← hu]; rfl
    have hmem : u.mem = (s.abandon e).mem := by rw [← hu]; rfl
    have ho : ∀ o, engOf u o = engOf (s.abandon e) o := engOf_congr heng
    refine ⟨fun o hne => (ho o).trans (h1 o hne), fun f hf => ?_, ?_, ?_, ?_, ?_, ?_, ?_, hmem.trans h9⟩
    · have hf' := hf
      simp only [stopFields, List.map_cons, List.map_nil, List.mem_cons, List.not_mem_nil, or_false, not_or] at hf
      obtain ⟨f1, f2, f3, f4, f5, f6, f7, f8, f9, f10, f11, f12⟩ := hf
      rw [← hu]
      unfold State.showEng State.putSt
      dsimp only
      rw [State.get_put_ne _ _ f10, State.get_put_ne _ _ f9, State.get_put_ne _ _ f8, State.get_put_ne _ _ f6,
        State.get_put_ne _ _ f5, State.get_put_ne _ _ f4, State.get_put_ne _ _ f3, State.get_put_ne _ _ f2,
        State.get_put_ne _ _ f1]
      exact h2 f hf'
    all_goals rw [ho]; assumption
  · split
    · refine ⟨fun _ _ => rfl, fun f hf => ?_, rfl, rfl, rfl, rfl, rfl, rfl, rfl⟩
      simp only [stopFields, List.map_cons, List.map_nil, List.mem_cons, List.not_mem_nil, or_false, not_or] at hf
      exact State.get_put_ne _ _ hf.2.2.2.2.2.2.1
    · exact ⟨fun _ _ => rfl, fun _ _ => rfl, rfl, rfl, rfl, rfl, rfl, rfl, rfl⟩

/-- What the stop of other engines leaves of engine `e`. -/
theorem abortEngines_kept (l : List Nat) (s : State) (e : Nat) (h : ∀ o ∈ l, o ≠ e) :
    engOf (s.abortEngines l) e = engOf s e ∧ (s.abortEngines l).mem = s.mem ∧
    ∀ f ∈ [ENG_FAULT_CAUSE e, ENG_FAULT_STATUS e, ENG_FAULT_PC e, ENG_FAULT_ADDR_ADDR e, ENG_STATUS_STATE e],
      (s.abortEngines l).get f = s.get f := by
  induction l generalizing s with
  | nil => exact ⟨rfl, rfl, fun _ _ => rfl⟩
  | cons o l ih =>
    have ho : o ≠ e := h o (List.mem_cons_self ..)
    obtain ⟨i1, i2, i3⟩ := ih (s.engStop o (faultOf ecAborted (engOf s o).pc 0)) fun q hq => h q (List.mem_cons_of_mem _ hq)
    obtain ⟨k1, k2, -, -, -, -, -, -, k9⟩ := engStop_kept s o (faultOf ecAborted (engOf s o).pc 0)
    refine ⟨i1.trans (k1 e (Ne.symm ho)), i2.trans k9, fun f hf => (i3 f hf).trans (k2 f (stopFields_other ho f hf))⟩

/-- A stop of a running engine: its state, its cause, and nothing of its core. -/
theorem engStop_spec (s : State) (e : Nat) (x : EFault) (he : e < 256) (hr : engSt s e = 2) :
    engSt (s.engStop e x) e = 4 ∧ (s.engStop e x).get (ENG_FAULT_CAUSE e) = x.cause % 2 ^ 4 ∧
    (s.engStop e x).get (ENG_FAULT_STATUS e) = x.status % 2 ^ 8 ∧ (s.engStop e x).get (ENG_FAULT_PC e) = x.pc % 2 ^ 13 ∧
    (s.engStop e x).get (ENG_FAULT_ADDR_ADDR e) = x.addr % 2 ^ 64 := by
  have hs : s.engStop e x = (((((((((s.abandon e).put (ENG_FAULT_CAUSE e) x.cause).put (ENG_FAULT_STATUS e) x.status).put
      (ENG_FAULT_DETAIL e) x.detail).put (ENG_FAULT_PC e) x.pc).put (ENG_FAULT_TAG e) x.tag).put (ENG_FAULT_ADDR_ADDR e) x.addr).putSt
      e 4).showEng e) := by unfold State.engStop; simp [hr]
  have ne : ∀ f g : Fld, f ∈ stopFields e → g ∈ stopFields e → f ≠ g → 64 * f.off + f.lo ≠ 64 * g.off + g.lo → f.key ≠ g.key :=
    fun f g _ _ _ h => h
  rw [hs]
  unfold engSt State.showEng State.putSt
  dsimp only
  rw [if_pos he]
  refine ⟨?_, ?_, ?_, ?_, ?_⟩
  all_goals
    repeat first
      | rw [State.get_put_self]
      | rw [State.get_put_ne _ _ (by
          unfold Fld.key
          dsimp only [ENG_FAULT_CAUSE, ENG_FAULT_STATUS, ENG_FAULT_DETAIL, ENG_FAULT_PC, ENG_FAULT_TAG, ENG_FAULT_ADDR_ADDR,
            ENG_STATUS_STATE, ENG_STATUS_TAGS_OUT, ENG_STATUS_PC]
          omega)]
  all_goals rfl

/-- A precise fault of a running engine (R192 step 1, R232). -/
theorem preciseFault_spec (s : State) (e cause addr : Nat) (he : e < 256) (hr : engSt s e = 2) :
    Faults s (s.preciseFault e cause addr) e (cause % 2 ^ 4) (causeStatus cause % 2 ^ 8) ∧
    (s.preciseFault e cause addr).get (ENG_FAULT_ADDR_ADDR e) = addr % 2 ^ 64 := by
  unfold State.preciseFault State.engFault
  dsimp only
  obtain ⟨p1, p2, p3, p4, p5⟩ := engStop_spec s e (faultOf cause (engOf s e).pc addr) he hr
  obtain ⟨-, -, k3, k4, k5, k6, k7, -, k9⟩ := engStop_kept s e (faultOf cause (engOf s e).pc addr)
  generalize s.engStop e (faultOf cause (engOf s e).pc addr) = u at *
  have done : Faults s u e (cause % 2 ^ 4) (causeStatus cause % 2 ^ 8) ∧ u.get (ENG_FAULT_ADDR_ADDR e) = addr % 2 ^ 64 :=
    ⟨⟨p1, p2, p3, p4, k7, sreg_congr k3, preg_congr k4, vreg_congr k5, k6, k9⟩, p5⟩
  split
  · have ho : ∀ o ∈ (((launchOf s e).map fun l => l.engines.filter (· ≠ e)).getD []), o ≠ e := by
      cases launchOf s e with
      | none => intro o h; simp at h
      | some l => intro o h; simp at h; exact h.2
    obtain ⟨a1, a2, a3⟩ := abortEngines_kept _ u e ho
    obtain ⟨⟨d1, d2, d3, d4, d5, d6, d7, d8, d9, d10⟩, d11⟩ := done
    refine ⟨⟨?_, ?_, ?_, ?_, ?_, ?_, ?_, ?_, ?_, ?_⟩, ?_⟩
    · unfold engSt at d1 ⊢; rw [if_pos he] at d1 ⊢; rw [a3 _ (by simp)]; exact d1
    · rw [a3 _ (by simp)]; exact d2
    · rw [a3 _ (by simp)]; exact d3
    · rw [a3 _ (by simp)]; exact d4
    · rw [a1]; exact d5
    · rw [a1]; exact d6
    · rw [a1]; exact d7
    · rw [a1]; exact d8
    · rw [a1]; exact d9
    · rw [a2]; exact d10
    · rw [a3 _ (by simp)]; exact d11
  · exact done

/-! One instruction. -/

/-- At its own word and with its predicate on, an instruction with a legal encoding does its body. -/
theorem runI_does {s : State} {e cls op : Nat} {w : Ins} {legal : Bool} {body : Eng → State → State}
    (h : Issues s e cls op w) (l : legal = true) : runI e cls op w legal body s = .next (body (engOf s e) s) := by
  unfold runI; simp [h.2.1, h.2.2, l]

/-- Predicated off, it retires without effect (R217). -/
theorem runI_off {s : State} {e cls op : Nat} {w : Ins} {legal : Bool} {body : Eng → State → State}
    (h : atWord s e cls op w = true) (p : predOn (engOf s e) w = false) (l : legal = true) :
    runI e cls op w legal body s = .next (s.retireI e ((engOf s e).pc + 1)) := by
  unfold runI; simp [h, p, l]

/-- An illegal encoding faults, whatever its predicate (R215). -/
theorem runI_illegal {s : State} {e cls op : Nat} {w : Ins} {legal : Bool} {body : Eng → State → State}
    (h : atWord s e cls op w = true) (l : legal = false) :
    runI e cls op w legal body s = .next (s.preciseFault e ecIllegal 0) := by
  unfold runI; simp [h, l]

/-- Where the engine is not at the word, nothing happens. -/
theorem runI_idle {s : State} {e cls op : Nat} {w : Ins} {legal : Bool} {body : Eng → State → State}
    (h : atWord s e cls op w = false) : runI e cls op w legal body s = .next s := by
  unfold runI; simp [h]

end Sys2Proof.Machine
end

