-- ==== Sys2Proof/Laws/Regs.lean ====
section
/-! SUPPORT. What each operation over registers does, said once: which fields it leaves (RegsKept), and what an event, a
counter and the end of a register command read after it. -/

namespace Sys2Proof.Machine

open Reg

namespace RegsKept

theorem rfl' (s : State) (l : List Fld) : RegsKept s s l := fun _ _ => rfl

theorem trans {s t u : State} {l : List Fld} (h : RegsKept s t l) (k : RegsKept t u l) : RegsKept s u l :=
  fun f hf => (k f hf).trans (h f hf)

theorem mono {s t : State} {l m : List Fld} (h : RegsKept s t l) (k : ∀ x, x ∈ l.map Fld.key → x ∈ m.map Fld.key) :
    RegsKept s t m := fun f hf => h f fun hx => hf (k _ hx)

/-- A field written is the only one that differs. -/
theorem put {s t : State} {l : List Fld} (h : RegsKept s t l) {f : Fld} (v : Nat) (hf : f.key ∈ l.map Fld.key) :
    RegsKept s (t.put f v) l := fun g hg => by
  rw [State.get_put_ne]
  · exact h g hg
  · intro e; rw [e] at hg; exact hg hf

theorem count {s t : State} {l : List Fld} (h : RegsKept s t l) {f : Fld} (d : Nat) (hf : f.key ∈ l.map Fld.key) :
    RegsKept s (t.count f d) l := h.put _ hf

theorem bump {s t : State} {l : List Fld} (h : RegsKept s t l) {f : Fld} (d : Nat) (hf : f.key ∈ l.map Fld.key) :
    RegsKept s (t.bump f d) l := h.put _ hf

theorem notify {s t : State} {l : List Fld} (h : RegsKept s t l) (b : Nat) (hf : MGT_NOTIFY_PENDING.key ∈ l.map Fld.key) :
    RegsKept s (t.notify b) l := h.put _ hf

theorem raise {s t : State} {l : List Fld} (h : RegsKept s t l) {f : Fld} (hf : f.key ∈ l.map Fld.key)
    (hp : MGT_NOTIFY_PENDING.key ∈ l.map Fld.key) : RegsKept s (t.raise f) l := by
  unfold State.raise; split
  · exact (h.put _ hf).notify _ hp
  · exact h

theorem endCmd {s t : State} {l : List Fld} (h : RegsKept s t l) {f g : Fld} (a b : Nat) (hf : f.key ∈ l.map Fld.key)
    (hg : g.key ∈ l.map Fld.key) : RegsKept s (t.endCmd f g a b) l := (h.put _ hf).put _ hg

theorem foldl {α : Type} {s : State} {l : List Fld} (f : State → α → State)
    (hf : ∀ t a, RegsKept s t l → RegsKept s (f t a) l) :
    ∀ (as : List α) (t : State), RegsKept s t l → RegsKept s (as.foldl f t) l
  | [], _, h => h
  | a :: as, t, h => foldl f hf as (f t a) (hf t a h)

/-- Nothing but what lies beside the register bank and the fuses differs: every field is kept. -/
theorem of_regs {s t u : State} {l : List Fld} (h : RegsKept s t l) (hr : u.regs = t.regs) (hd : u.dev = t.dev) :
    RegsKept s u l := fun f hf => by
  have e : u.get f = t.get f := by unfold State.get; rw [hr, hd]
  rw [e]; exact h f hf

end RegsKept

/-- The state with fields other than the register bank changed reads every register as before. -/
theorem get_regs {s t : State} (hr : t.regs = s.regs) (hd : t.dev = s.dev) (f : Fld) : t.get f = s.get f := by
  unfold State.get; rw [hr, hd]

theorem ite_lt {c : Prop} [Decidable c] {a b n : Nat} (h : a < n) (k : b < n) : (if c then a else b) < n := by
  split <;> assumption

theorem bit_testBit (x i : Nat) : bit x i = x.testBit i := by
  unfold bit; rw [Nat.testBit_eq_decide_div_mod_eq]; rfl

/-- An event raised is set, whatever it was; its PENDING bit follows it. -/
theorem raised_raise (s : State) (f : Fld) (hw : f.width = 1) (hk : f.key ≠ MGT_NOTIFY_PENDING.key) : Raised s (s.raise f) f := by
  have hb : notifyBit f.off < 17 := by
    unfold notifyBit
    repeat' refine ite_lt ?_ ?_
    all_goals decide
  by_cases h : s.get f = 0
  · have hp : (s.raise f).get f = 1 := by
      unfold State.raise State.notify
      rw [if_pos h, State.get_put_ne _ _ hk, State.get_put_self, hw]
      all_goals rfl
    have hn : (s.raise f).get MGT_NOTIFY_PENDING = Nat.lor (s.get MGT_NOTIFY_PENDING) (2 ^ notifyBit f.off) % 2 ^ 17 := by
      unfold State.raise State.notify
      rw [if_pos h, State.get_put_self, State.get_put_ne _ _ (Ne.symm hk)]; rfl
    refine ⟨by rw [hp]; decide, fun _ => ?_⟩
    rw [hn]
    rw [bit_testBit]
    rw [Nat.testBit_mod_two_pow]
    show (decide _ && ((s.get MGT_NOTIFY_PENDING) ||| (2 ^ notifyBit f.off)).testBit (notifyBit f.off)) = true
    rw [Nat.testBit_or, Nat.testBit_two_pow_self]; simp [hb]
  · have e : s.raise f = s := by unfold State.raise; rw [if_neg h]
    rw [e]; exact ⟨h, fun k => absurd k h⟩

/-- A command's end: STATUS and DETAIL as given, nothing else. -/
theorem endCmd_get (s : State) {f g : Fld} (a b : Nat) (h : f.key ≠ g.key) :
    (s.endCmd f g a b).get f = a % 2 ^ f.width ∧ (s.endCmd f g a b).get g = b % 2 ^ g.width := by
  unfold State.endCmd
  exact ⟨by rw [State.get_put_ne _ _ h, State.get_put_self], State.get_put_self _ _ _⟩

end Sys2Proof.Machine
end

