-- ==== Sys2Proof/WellFormed.lean ====
section
/-! DEFINITION. Which commands are well formed: every operand in the range that the spec gives it (the field widths of
Table 14.1 and chapter 13, the numbers of units in chapters 01, 02, 04, 07, 08 and 14). The meanings run on every operand;
statements name the ranges that they need. -/

namespace Sys2Proof

/-- Every header field in its width of Table 14.1, and at most 1,024 bytes of payload. -/
def Pkt.wf (p : Pkt) : Bool :=
  p.opcode < 256 && p.tblEpoch < 2 && p.colour < 4 && p.mclass < 8 && p.domain < 8 && p.status < 256 &&
  p.src < 4096 && p.dst < 4096 && p.tenant < 1024 && p.psn < 65536 && p.tag < 4096 && p.len < 2048 &&
  p.addr < 2 ^ 56 && p.svcEpoch < 2 ^ 32 && p.tenEpoch < 65536 && p.hops < 256 && p.grant < 4 && p.result < 8 &&
  p.target < 4096 && p.srcInc < 65536 && p.aux < 2 ^ 64 && p.arg < 2 ^ 128 && p.rsvd < 2 && p.payload.length ≤ 1024

/-- A graupel is 256 bytes (R255). -/
def Rx.wf (r : Rx) : Bool := r.bytes.length == 256

/-- A DIMM has one to four package ranks (R77 serves one or two). -/
def Dimm.wf (d : Dimm) : Bool := 1 ≤ d.ranks && d.ranks ≤ 4

/-- Two inputs, and the widths of TYPE and TIME in Table 20.1. -/
def TimeCode.wf (c : TimeCode) : Bool := c.input < 2 && c.type < 256 && c.time < 2 ^ 64

/-- The operands of a command lie in their ranges. -/
def Instr.wf : Instr → Bool
  | .extCreate => true
  | .extRevoke => true
  | .setHolder => true
  | .setRights => true
  | .extQuery => true
  | .leaseRenew w src term => decide (w < 4096) && decide (src < 4096) && decide (term < 65536)
  | .leaseLapsed agent => decide (agent < 4096)
  | .leaseExpired agent => decide (agent < 4096)
  | .fenceGenerationBegin => true
  | .fenceDone => true
  | .reclaimDone => true
  | .rd port p => decide (port < 88) && p.wf
  | .wr port p => decide (port < 88) && p.wf
  | .wrposted port p => decide (port < 88) && p.wf
  | .flushreq port p => decide (port < 88) && p.wf
  | .flushdone src dom => decide (src < 4096) && decide (dom < 8)
  | .veracquire port p region => decide (port < 88) && p.wf && decide (region < 2 ^ 32)
  | .verrelease port p region _ => decide (port < 88) && p.wf && decide (region < 2 ^ 32)
  | .loadCopy port p => decide (port < 88) && p.wf
  | .loadOwn port p => decide (port < 88) && p.wf
  | .claim port p => decide (port < 88) && p.wf
  | .peek port p => decide (port < 88) && p.wf
  | .putLine port p => decide (port < 88) && p.wf
  | .putMasked port p => decide (port < 88) && p.wf
  | .dropClean port p => decide (port < 88) && p.wf
  | .dropDirty port p => decide (port < 88) && p.wf
  | .killAck p => p.wf
  | .fwdAck p => p.wf
  | .fwdAckLine p => p.wf
  | .retrieveLine p => p.wf
  | .inboundSnoop port p => decide (port < 88) && p.wf
  | .homeTransactionStart line => decide (line < 2 ^ 43)
  | .holdWindowEnd line => decide (line < 2 ^ 43)
  | .directoryEviction line => decide (line < 2 ^ 43)
  | .snoopTimeout line agent => decide (line < 2 ^ 43) && decide (agent < 4096)
  | .entryLost line => decide (line < 2 ^ 43)
  | .dirAgentMapWrite n _ => decide (n < 64)
  | .mapSweepDone => true
  | .publishAccept region => decide (region < 2 ^ 32)
  | .publishComplete region => decide (region < 2 ^ 32)
  | .regionCreate => true
  | .regionDestroy => true
  | .setHold => true
  | .regionQuery => true
  | .addVersion => true
  | .removeVersion => true
  | .clearReaders => true
  | .dirProbeAddrWrite _ => true
  | .memRefresh ctl unit => decide (ctl < 40) && decide (unit < 1024)
  | .retrainPause ctl ch _ => decide (ctl < 40) && decide (ch < 32)
  | .fullRetrainEnd ctl ch _ => decide (ctl < 40) && decide (ch < 32)
  | .memSchedIssue cmd => decide (cmd.ctl < 40)
  | .patrolScrub ctl unit _ _ _ => decide (ctl < 40) && decide (unit < 1024)
  | .dimmTempSample ch _ => decide (ch < 24)
  | .uncorrectableError ctl unit _ => decide (ctl < 40) && decide (unit < 1024)
  | .caParityError ctl hit => decide (ctl < 40) && decide (hit.place < 1024)
  | .caReissue ctl unit => decide (ctl < 40) && decide (unit < 1024)
  | .phyLockLoss hit => decide (hit.place < 40)
  | .memhRetire site => decide (site < 16)
  | .memhRetrainFull site => decide (site < 16)
  | .powerDown site => decide (site < 16)
  | .memdRetire ch => decide (ch < 24)
  | .memdRetrainFull ch => decide (ch < 24)
  | .memdEvacuate ch => decide (ch < 24)
  | .evacuated set => decide (set < 6)
  | .memdRestore ch => decide (ch < 24)
  | .restored ch ds => decide (ch < 24) && decide (ds.length ≤ 2) && ds.all Dimm.wf
  | .retireStart q => decide (q < 22)
  | .retireGranuleCopy q _ => decide (q < 22)
  | .retireDone q => decide (q < 22)
  | .setReform set => decide (set < 6)
  | .heatSample page => decide (page < 2 ^ 29)
  | .heatDecay => true
  | .pageMoveStart page node _ => decide (page < 2 ^ 29) && decide (node < 64)
  | .pageLineHandover page _ => decide (page < 2 ^ 29)
  | .pageMoveDone page => decide (page < 2 ^ 29)
  | .frameScrubDone tier set _ => decide (tier < 2) && decide (set < 6)
  | .zeroFillDone page => decide (page < 2 ^ 29)
  | .returnRequest node => decide (node < 64)
  | .lodgeLost node => decide (node < 64)
  | .plcHint => true
  | .plcMove => true
  | .plcQuery => true
  | .plcRecall => true
  | .plcRelease => true
  | .ctxCreate => true
  | .ctxDestroy => true
  | .xltMap => true
  | .unmap => true
  | .protect => true
  | .remap => true
  | .windowAdd => true
  | .windowRemove => true
  | .xltQuery => true
  | .cntClear => true
  | .invalDone => true
  | .xltMissFill cirq _ va => decide (cirq < 16) && decide (va < 2 ^ 57)
  | .cntEpoch => true
  | .xltHotPop => true
  | .doorbell w c a _ => decide (w < 64) && decide (c < 4096) && decide (a < 4096)
  | .cdtLoad c => decide (c < 4096)
  | .descriptorAccept c => decide (c < 4096)
  | .descriptorStart c _ => decide (c < 4096)
  | .channelSchedSelect => true
  | .tileStart c _ => decide (c < 4096)
  | .tileDelivered c _ _ => decide (c < 4096)
  | .pushAckTimeout c _ => decide (c < 4096)
  | .completionRecord c _ => decide (c < 4096)
  | .dFill c _ => decide (c < 4096)
  | .dCopy c _ => decide (c < 4096)
  | .dCompare c _ => decide (c < 4096)
  | .dReduce c _ => decide (c < 4096)
  | .dGather c _ => decide (c < 4096)
  | .dScatter c _ => decide (c < 4096)
  | .dFilter c _ => decide (c < 4096)
  | .dConvert c _ => decide (c < 4096)
  | .dLaunch c _ => decide (c < 4096)
  | .dPushStream c _ => decide (c < 4096)
  | .dPublish c _ => decide (c < 4096)
  | .dFlush c _ => decide (c < 4096)
  | .dMark c _ => decide (c < 4096)
  | .dFence c _ => decide (c < 4096)
  | .chnCreate => true
  | .chnDestroy => true
  | .chnQuery => true
  | .chnEnable => true
  | .chnReset => true
  | .chnResume => true
  | .setSched => true
  | .tctlEnable w c a => decide (w < 64) && decide (c < 4096) && decide (a < 4096)
  | .tctlReset w c a => decide (w < 64) && decide (c < 4096) && decide (a < 4096)
  | .tctlResume w c a => decide (w < 64) && decide (c < 4096) && decide (a < 4096)
  | .channelResetDone c => decide (c < 4096)
  | .launchStart c _ => decide (c < 4096)
  | .engineStart cirq => decide (cirq < 16)
  | .launchComplete c _ => decide (c < 4096)
  | .tagComplete e t => decide (e < 256) && decide (t < 512)
  | .engineFault e _ => decide (e < 256)
  | .engineFaultDrained e => decide (e < 256)
  | .watchdog e => decide (e < 256)
  | .engStop e => decide (e < 256)
  | .neveEccError e addr _ => decide (e < 256) && decide (addr < 2 ^ 20)
  | .idleEngineUnitFault e => decide (e < 256)
  | .barrierRelease cirq b => decide (cirq < 16) && decide (b < 8)
  | .semwaitGrant cirq b => decide (cirq < 16) && decide (b < 32)
  | .waitSatisfied e => decide (e < 256)
  | .tagHoldRelease e => decide (e < 256)
  | .iNop e _ => decide (e < 256)
  | .iBr e _ => decide (e < 256)
  | .iCb e _ => decide (e < 256)
  | .iJal e _ => decide (e < 256)
  | .iJr e _ => decide (e < 256)
  | .iHalt e _ => decide (e < 256)
  | .iAdd e _ => decide (e < 256)
  | .iSub e _ => decide (e < 256)
  | .iAnd e _ => decide (e < 256)
  | .iOr e _ => decide (e < 256)
  | .iXor e _ => decide (e < 256)
  | .iShl e _ => decide (e < 256)
  | .iShr e _ => decide (e < 256)
  | .iSra e _ => decide (e < 256)
  | .iMin e _ => decide (e < 256)
  | .iMax e _ => decide (e < 256)
  | .iMinu e _ => decide (e < 256)
  | .iMaxu e _ => decide (e < 256)
  | .iSel e _ => decide (e < 256)
  | .iAddi e _ => decide (e < 256)
  | .iSubi e _ => decide (e < 256)
  | .iAndi e _ => decide (e < 256)
  | .iOri e _ => decide (e < 256)
  | .iXori e _ => decide (e < 256)
  | .iShli e _ => decide (e < 256)
  | .iShri e _ => decide (e < 256)
  | .iSrai e _ => decide (e < 256)
  | .iMini e _ => decide (e < 256)
  | .iMaxi e _ => decide (e < 256)
  | .iMinui e _ => decide (e < 256)
  | .iMaxui e _ => decide (e < 256)
  | .iLi e _ => decide (e < 256)
  | .iLih e _ => decide (e < 256)
  | .iMul e _ => decide (e < 256)
  | .iMulh e _ => decide (e < 256)
  | .iMulhu e _ => decide (e < 256)
  | .iDiv e _ => decide (e < 256)
  | .iDivu e _ => decide (e < 256)
  | .iRem e _ => decide (e < 256)
  | .iRemu e _ => decide (e < 256)
  | .iPcmp e _ => decide (e < 256)
  | .iPcmpi e _ => decide (e < 256)
  | .iPand e _ => decide (e < 256)
  | .iPor e _ => decide (e < 256)
  | .iPxor e _ => decide (e < 256)
  | .iPandn e _ => decide (e < 256)
  | .iPtos e _ => decide (e < 256)
  | .iStop e _ => decide (e < 256)
  | .iVadd e _ => decide (e < 256)
  | .iVsub e _ => decide (e < 256)
  | .iVmul e _ => decide (e < 256)
  | .iVfma e _ => decide (e < 256)
  | .iVmin e _ => decide (e < 256)
  | .iVmax e _ => decide (e < 256)
  | .iVadds e _ => decide (e < 256)
  | .iVmuls e _ => decide (e < 256)
  | .iVfmas e _ => decide (e < 256)
  | .iVcmp e _ => decide (e < 256)
  | .iVand e _ => decide (e < 256)
  | .iVor e _ => decide (e < 256)
  | .iVxor e _ => decide (e < 256)
  | .iVsel e _ => decide (e < 256)
  | .iVmov e _ => decide (e < 256)
  | .iVzero e _ => decide (e < 256)
  | .iVbcast e _ => decide (e < 256)
  | .iVext e _ => decide (e < 256)
  | .iVins e _ => decide (e < 256)
  | .iVrot e _ => decide (e < 256)
  | .iLdb e _ => decide (e < 256)
  | .iLdbu e _ => decide (e < 256)
  | .iLdh e _ => decide (e < 256)
  | .iLdhu e _ => decide (e < 256)
  | .iLdw e _ => decide (e < 256)
  | .iLdwu e _ => decide (e < 256)
  | .iLdd e _ => decide (e < 256)
  | .iStb e _ => decide (e < 256)
  | .iSth e _ => decide (e < 256)
  | .iStw e _ => decide (e < 256)
  | .iStd e _ => decide (e < 256)
  | .iVld e _ => decide (e < 256)
  | .iVst e _ => decide (e < 256)
  | .iAget e _ => decide (e < 256)
  | .iAput e _ => decide (e < 256)
  | .iTwait e _ => decide (e < 256)
  | .iTwaitall e _ => decide (e < 256)
  | .iTwaitn e _ => decide (e < 256)
  | .iTstat e _ => decide (e < 256)
  | .iBar e _ => decide (e < 256)
  | .iBarmask e _ => decide (e < 256)
  | .iSemsig e _ => decide (e < 256)
  | .iSemwait e _ => decide (e < 256)
  | .iSemtry e _ => decide (e < 256)
  | .iNfence e _ => decide (e < 256)
  | .iDot e _ => decide (e < 256)
  | .iDots e _ => decide (e < 256)
  | .iTzero e _ => decide (e < 256)
  | .iTrd e _ => decide (e < 256)
  | .iTwr e _ => decide (e < 256)
  | .iTscale e _ => decide (e < 256)
  | .iVexp e _ => decide (e < 256)
  | .iVexp2 e _ => decide (e < 256)
  | .iVrcp e _ => decide (e < 256)
  | .iVrmax e _ => decide (e < 256)
  | .iVrmin e _ => decide (e < 256)
  | .iVrsum e _ => decide (e < 256)
  | .iVexps e _ => decide (e < 256)
  | .iSexps e _ => decide (e < 256)
  | .iSfma e _ => decide (e < 256)
  | .iCvt e _ => decide (e < 256)
  | .iPtor e _ => decide (e < 256)
  | .iPtov e _ => decide (e < 256)
  | .iAadd e _ => decide (e < 256)
  | .iAand e _ => decide (e < 256)
  | .iAor e _ => decide (e < 256)
  | .iAxor e _ => decide (e < 256)
  | .iAmin e _ => decide (e < 256)
  | .iAmax e _ => decide (e < 256)
  | .iAminu e _ => decide (e < 256)
  | .iAmaxu e _ => decide (e < 256)
  | .iAswap e _ => decide (e < 256)
  | .iAcas e _ => decide (e < 256)
  | .iAfadd e _ => decide (e < 256)
  | .iAfmin e _ => decide (e < 256)
  | .iAfmax e _ => decide (e < 256)
  | .iCred e _ => decide (e < 256)
  | .iCgath e _ => decide (e < 256)
  | .iMark e _ => decide (e < 256)
  | .iRdcyc e _ => decide (e < 256)
  | .iRdret e _ => decide (e < 256)
  | .iRdtime e _ => decide (e < 256)
  | .idleGraupel port r => decide (port < 72) && r.wf
  | .dataGraupel port r => decide (port < 72) && r.wf
  | .lnkParam port r => decide (port < 72) && r.wf
  | .lnkInit port r => decide (port < 72) && r.wf
  | .initAck port r => decide (port < 72) && r.wf
  | .sleepReq port r => decide (port < 72) && r.wf
  | .sleepAck port r => decide (port < 72) && r.wf
  | .goingDown port r => decide (port < 72) && r.wf
  | .initResend port => decide (port < 72)
  | .ackTimer port => decide (port < 72)
  | .sendPacket port => decide (port < 72)
  | .replayTimeout port => decide (port < 72)
  | .lockLost port => decide (port < 72)
  | .rxSilent port => decide (port < 72)
  | .autoRetrain port => decide (port < 72)
  | .trainingStepDone port lanes => decide (port < 72) && decide (lanes < 16)
  | .trainFail port => decide (port < 72)
  | .framingRelock port => decide (port < 72)
  | .lnkReset port => decide (port < 72)
  | .lnkDown port => decide (port < 72)
  | .lnkEnable port _ => decide (port < 72)
  | .packetForward _ _ => true
  | .portSchedSelect port => decide (port < 88)
  | .routeWaitExpiry _ => true
  | .reorderSkip src dom => decide (src < 4096) && decide (dom < 8)
  | .retryTimer dst tag => decide (dst < 4096) && decide (tag < 4096)
  | .fabDoubt p => p.wf
  | .rdData p => p.wf
  | .wrAck p => p.wf
  | .atomicRsp p => p.wf
  | .atomic port p => decide (port < 88) && p.wf
  | .redContrib port p => decide (port < 88) && p.wf
  | .redResult p => p.wf
  | .gathContrib port p => decide (port < 88) && p.wf
  | .gathAck p => p.wf
  | .chunkTimeout group slot => decide (group < 512) && decide (slot < 64)
  | .plRd port p => decide (port < 88) && p.wf
  | .plWr port p => decide (port < 88) && p.wf
  | .plData p => p.wf
  | .plAck p => p.wf
  | .pushAck p => p.wf
  | .ctlRd port p => decide (port < 88) && p.wf
  | .ctlWr port p => decide (port < 88) && p.wf
  | .mgmtPkt port p => decide (port < 88) && p.wf
  | .fabRtDataWrite _ => true
  | .grpCreate => true
  | .grpDestroy => true
  | .grpQuery => true
  | .shaperRefill => true
  | .policerRefill => true
  | .histSample => true
  | .qosHistSelWrite _ => true
  | .tenantCreate => true
  | .loadKey => true
  | .genKey => true
  | .tenantReset => true
  | .tenCtlReset w => decide (w < 64)
  | .tenantResetDone tenant => decide (tenant < 1024)
  | .tenantFence => true
  | .secPurge p => p.wf
  | .purgeResend tenant => decide (tenant < 1024)
  | .tenantDrained tenant => decide (tenant < 1024)
  | .secErase => true
  | .tenantRemoved tenant => decide (tenant < 1024)
  | .secUnseal => true
  | .svnCommit => true
  | .secAgentDataWrite _ => true
  | .getVersion m => (m.via.all Pkt.wf)
  | .getCapabilities m => (m.via.all Pkt.wf)
  | .negotiateAlgorithms m => (m.via.all Pkt.wf)
  | .getDigests m => (m.via.all Pkt.wf)
  | .getCertificate m => (m.via.all Pkt.wf)
  | .spdmChallenge m => (m.via.all Pkt.wf)
  | .getMeasurements m => (m.via.all Pkt.wf)
  | .keyExchange m => (m.via.all Pkt.wf)
  | .spdmFinish m => (m.via.all Pkt.wf)
  | .spdmHeartbeat m => (m.via.all Pkt.wf)
  | .keyUpdate m => (m.via.all Pkt.wf)
  | .endSession m => (m.via.all Pkt.wf)
  | .sessionHeartbeatTimeout _ => true
  | .formActive _ _ => true
  | .formStandby _ => true
  | .mirBreak => true
  | .recoverDone => true
  | .ownBind => true
  | .ownRelease => true
  | .ownClaim => true
  | .ownUnbind => true
  | .ownQuery p => p.wf
  | .ownTransfer p => p.wf
  | .ownClaimMsg p => p.wf
  | .ownReply p => p.wf
  | .ownReturn p => p.wf
  | .ownMsgResend slot => decide (slot < 16384)
  | .handoffDeadline stateId => decide (stateId < 2 ^ 64)
  | .renewTimer => true
  | .renewGrant p => p.wf
  | .selfFence => true
  | .selfFenceDrainEnd => true
  | .mirrorTimeout => true
  | .soloGrant p => p.wf
  | .mirDeny p => p.wf
  | .mirHeartbeat p => p.wf
  | .heartbeatTimer => true
  | .detectTimer => true
  | .takeoverGrant p => p.wf
  | .resyncDone => true
  | .mirrorCompareBlock _ _ _ => true
  | .retentionExpiry src => decide (src < 4096)
  | .recoveryClose _ _ => true
  | .deviceFatalStop => true
  | .autoReset => true
  | .errViewSelWrite _ => true
  | .moraineFreeze => true
  | .moraineUnfreeze => true
  | .morPostReached => true
  | .traceWrite _ _ => true
  | .triggerArmed => true
  | .traceFrozen => true
  | .sourceDropRecord _ _ => true
  | .dbgTcfgModeWrite _ => true
  | .snapshotTake => true
  | .snapshotDone => true
  | .dbgCntSnap => true
  | .tenCntSnap w => decide (w < 64)
  | .timeCode c => c.wf
  | .trefLoss input => decide (input < 2)
  | .trefRecover input => decide (input < 2)
  | .trefRevert input => decide (input < 2)
  | .frostStop => true
  | .clockRestart => true
  | .pllLock kind _ => decide (kind < 5)
  | .pllUnlock kind _ => decide (kind < 5)
  | .applyEng => true
  | .pwrSleep => true
  | .pwrDeep => true
  | .pwrWake => true
  | .powerStateEntry => true
  | .wakeEvent source => decide (source < 8)
  | .wakeDone => true
  | .coldReset addr pos => decide (addr < 128) && decide (pos < 256)
  | .rstInNLow => true
  | .rstWarm => true
  | .startupPhaseDone _ => true
  | .mgmtWatchdog => true
  | .mgtKick => true
  | .mgtRestart => true
  | .bootOk => true
  | .bootLimit => true
  | .mboxReq r => (r.via.all Pkt.wf)
  | .bootData off total _ => decide (off < 2 ^ 32) && decide (total < 2 ^ 32)
  | .bootFetchRetry => true
  | .mgtOwner _ => true
  | .ownerPoll => true
  | .mgtNotify => true
  | .notifyResend => true
  | .mgtNotifyWrite _ => true
  | .mgtApply => true
  | .unitImageApply _ => true
  | .sbRead off => decide (off < 2 ^ 32)
  | .sbWrite off _ => decide (off < 2 ^ 32)
  | .sbWarmReset => true
  | .sbWake => true
  | .smbusFallback => true
  | .ethDown => true
  | .usageReport => true
  | .meterBind slot _ => decide (slot < 64)
  | .calUserWrite _ => true
  | .authNonceRead _ => true
  | .authProve _ => true
  | .vinShutdown => true
  | .powerGovernor _ _ => true
  | .thermalSample _ => true
  | .thermalTrip => true
  | .tapExtest _ => true
  | .tapSample _ => true
  | .tapPreload _ => true
  | .tapClamp => true
  | .tapHighz => true
  | .tapExtestPulse _ => true
  | .tapExtestTrain _ => true
  | .tapBypass => true
  | .registerWrite _ off _ => decide (off < 2 ^ 32)
  | .purgeAck p => p.wf
  | .resyncLineCopy _ => true
  | .traceStreamSend => true
  | .rstInNRelease => true
  | .ethLinkUp => true
  | .dynamicAddressAssigned addr => decide (addr < 128)
  | .firstDeliveryStatusExpiry src => decide (src < 4096)

end Sys2Proof
end

