-- ==== Sys2Proof/Tests/Slice0.lean ====
section
/-! SUPPORT. The model's own tests. First the commands that are not well formed, one for each kind of check; then words and
register values that the spec writes out; then, statement by statement, a state and operands that meet its hypotheses
together, at the edge of a range where it has one. -/

namespace Sys2Proof.Tests
open Sys2Proof.Machine Sys2Proof.Machine.Reg

/-! States built from the one after reset. -/

/-- A state with these register fields set. -/
def regs (l : List (Fld × Nat)) (s : State) : State := l.foldl (fun s p => s.put p.1 p.2) s

/-- Extent 1 of tenant 5, held by agent 9, with every right, in region 1: one granule at offset 0. -/
def extent (st : ExtState) (mode : RMode) : Extent :=
  { tenant := 5, st := st, mode := mode, mirrored := false, rights := 15, base := 0, length := 1, holder := 9, createTime := 0,
    fenceTime := 0, fenceGen := 0, regionId := 1, cause := 0 }

/-- Region 1 of tenant 5, with one STAGING slot of extent 1. -/
def region (mode : RMode) : Region :=
  { mode := mode, grantE := false, hold := 0, curVersion := 0, tenant := 5, slots := [⟨1, 0, .staging, 0⟩, ⟨0, 0, .empty, 0⟩] }

/-- A node that serves: tenant 5 is LIVE at slot 1 with agent 9 in it, extent 1 is `st` and of `mode`, and its page holds
written data in HBM. -/
def node (st : ExtState) (mode : RMode) : State :=
  let s := State.reset
  regs [(EXT_CFG_ENABLE, 1), (DIR_CFG_ENABLE, 1), (DIR_AGENT_MAP_MAP 0, 2 ^ 9), (EXT_CAP_NODE_CAP, 8)] { s with
    ext := { s.ext with table := [(1, extent st mode)], leases := [(9, ⟨.held, 1000, 100, 0⟩)] }
    dir := { s.dir with regions := [(1, region mode)] }
    sec := { s.sec with tenants := [(5, ⟨.live, 1, 0, 0⟩)], agents := [(9, 5)] }
    mch := { s.mch with hbmForm := [0] }
    plc := { s.plc with map := [(0, ⟨0, .hbm, 0, false, false, 0, 0, 0⟩)] } }

/-- The node at a rack time. -/
def late (t : Nat) (s : State) : State := s.put CLK_RACK_TIME t

/-- A packet of agent 9 and tenant 5 to this node. -/
def pkt (op cls len : Nat) (payload : List Byte) : Pkt :=
  { Pkt.zero with opcode := op, mclass := cls, src := 9, tenant := 5, len := len, payload := payload }

/-- Engine 3 runs with this word under its PC. -/
def engine (cls op : Nat) (w : Ins) : State :=
  let s := regs [(ENG_STATUS_STATE 3, 2)] State.reset
  { s with eng := { s.eng with engs := [(3, { Eng.idle with imem := [wordOf cls op w], prog := 1 })] } }

/-- The engine word whose fields are all zero: predicate p0, format 0, registers 0, IMM 0. -/
def zeros : Ins := { p := 0, n := 0, f4 := 0, rd := 0, ra := 0, rb := 0, imm := 0 }

/-! Commands that are not well formed. -/

theorem test_wf_port : Instr.wf (.rd 88 (pkt 1 0 8 [])) = false := by decide
theorem test_wf_opcode : Instr.wf (.rd 87 (pkt 256 0 8 [])) = false := by decide
theorem test_wf_tenant : Instr.wf (.wr 0 { pkt 2 0 0 [] with tenant := 1024 }) = false := by decide
theorem test_wf_packet : Instr.wf (.rd 87 (pkt 1 0 8 [])) = true := by decide
theorem test_wf_lease_term : Instr.wf (.leaseRenew 4095 4095 65536) = false := by decide
theorem test_wf_agent : Instr.wf (.leaseLapsed 4096) = false := by decide
theorem test_wf_line : Instr.wf (.homeTransactionStart (2 ^ 43)) = false := by decide
theorem test_wf_controller : Instr.wf (.memRefresh 40 0) = false := by decide
theorem test_wf_unit : Instr.wf (.memRefresh 39 1024) = false := by decide
theorem test_wf_site : Instr.wf (.memhRetire 16) = false := by decide
theorem test_wf_channel : Instr.wf (.memdRetire 24) = false := by decide
theorem test_wf_set : Instr.wf (.evacuated 6) = false := by decide
theorem test_wf_queue : Instr.wf (.retireStart 22) = false := by decide
theorem test_wf_dimm : Instr.wf (.restored 0 [⟨true, 4, 5, 2 ^ 37, 32, 1, 56, 410⟩]) = false := by decide
theorem test_wf_page : Instr.wf (.heatSample (2 ^ 29)) = false := by decide
theorem test_wf_node : Instr.wf (.returnRequest 64) = false := by decide
theorem test_wf_cirque : Instr.wf (.engineStart 16) = false := by decide
theorem test_wf_tag : Instr.wf (.tagComplete 255 512) = false := by decide
theorem test_wf_engine : Instr.wf (.iNop 256 zeros) = false := by decide
theorem test_wf_link : Instr.wf (.ackTimer 72) = false := by decide
theorem test_wf_graupel : Instr.wf (.idleGraupel 0 ⟨[], false, 0, 0⟩) = false := by decide
theorem test_wf_group : Instr.wf (.chunkTimeout 512 0) = false := by decide
theorem test_wf_window : Instr.wf (.tenCtlReset 64) = false := by decide
theorem test_wf_slot : Instr.wf (.ownMsgResend 16384) = false := by decide
theorem test_wf_offset : Instr.wf (.sbRead (2 ^ 32)) = false := by decide
theorem test_wf_pll : Instr.wf (.pllLock 5 0) = false := by decide

/-! What the spec writes out: the sample words of R229 and R236, and values after reset. -/

theorem test_no_row_has_bits : decodeTableWord 64 0x8081D6D4040C0800 = none := by decide
/-- AGET, CB and DOTS of the examples beside R231 and R236, field by field. -/
theorem test_word_aget : wordOf 0x0e 0 { zeros with ra := 10, rb := 11, imm := 0x600007ff } = 0x7000014B600007FF := by decide
theorem test_word_cb : wordOf 0 2 { zeros with f4 := 1, ra := 13, imm := 0xfffffffa } = 0x010081A0FFFFFFFA := by decide
theorem test_word_dots : wordOf 0x10 1 { zeros with f4 := 3, rd := 21, ra := 22, rb := 20, imm := 0x040c0800 } = 0x8081D6D4040C0800 := by
  decide
theorem test_word_fields : wordClass 0x7000014B600007FF = 0x0e ∧ wordOp 0x7000014B600007FF = 0 ∧ (insOf 0x7000014B600007FF).a = 10 ∧
    (insOf 0x7000014B600007FF).b = 11 ∧ (insOf 0x7000014B600007FF).rc = 12 := by decide

/-- GLB_CAP0 of an HLD-0802, and TEN_ID of tenant 37 (the examples after Table 22.10). -/
theorem test_cap0_of_an_hld0802 :
    regVal { State.reset with dev := { State.reset.dev with part := .hld0802 } } GLB_CAP0 = 0x0018424000095555 := by decide
theorem test_ten_id : regVal (regs [(TEN_ID_EPOCH 5, 4), (TEN_ID_SLOT 5, 5), (TEN_ID_STATE 5, 2), (TEN_ID_RACK_TENANT 5, 37)] State.reset)
    (TEN_ID 5) = 0x0004000500020025 := by decide

theorem test_idle_step_ticks : ∃ t, step State.reset = .next t := ⟨_, rfl⟩
theorem test_reset_queue_is_empty : State.reset.pending = [] := by decide

/-! Engine instructions. -/

/-- Every CLASS and OP of Table 10.2 issues somewhere (R217). -/
theorem test_every_form_issues : ([(0, 6), (1, 13), (2, 14), (3, 7), (4, 8), (8, 10), (9, 10), (0x0c, 12), (0x0d, 2), (0x0e, 2),
    (0x0f, 10), (0x10, 2), (0x11, 4), (0x12, 3), (0x13, 6), (0x14, 1), (0x15, 2), (0x16, 13), (0x17, 2), (0x18, 4)] :
    List (Nat × Nat)).all (fun p => (List.range p.2).all fun op =>
      atWord (engine p.1 op zeros) 3 p.1 op zeros && predOn (engOf (engine p.1 op zeros) 3) zeros) = true := by decide

/-- The word whose fields are zero meets what the statements ask of F4, RD, RA, RB, RC, X and IMM. -/
theorem test_meets_fields_zero : zeros.f = 0 ∧ zeros.imm = 0 ∧ zeros.d = 0 ∧ zeros.a = 0 ∧ zeros.b = 0 ∧ zeros.rc = 0 ∧ zeros.x = 0 := by
  decide

/-- A load at the last aligned byte of the store reads, one past it faults (R227, Table 8.6). -/
def loads (a : Nat) : State :=
  let s := engine 0x0c 6 { zeros with ra := 1 }
  s.setEng 3 ((engOf s 3).setS 1 a)
theorem test_meets_loads_own_store : storeAt (loads 0xffff8) 3 0xffff8 = some (3, 0xffff8) ∧
    Claims.address { zeros with ra := 1 } (engOf (loads 0xffff8) 3) = 0xffff8 ∧ 0xffff8 % 8 = 0 ∧
    bytesPoisoned (engOf (loads 0xffff8) 3) 0xffff8 8 = false ∧
    (List.range 8).all (fun i => !filling (engOf (loads 0xffff8) 3) (0xffff8 + i)) = true := by decide
theorem test_meets_loads_range : storeAt (loads 0x100000) 3 0x100000 = none := by decide
theorem test_meets_loads_align : storeAt (loads 4) 3 4 ≠ none ∧ 4 % 8 ≠ 0 := by decide

/-- SEMWAIT of one on a semaphore that holds one, and on one that holds none; BAR of a member; TSTAT of no tag (R230, R231). -/
def sync (op : Nat) (imm : BitVec 32) (l : List (Fld × Nat)) : State := regs l (engine 0x0f op { zeros with imm := imm })
theorem test_meets_semwait : (({ zeros with imm := 32 } : Ins).x / 32 = 1) ∧ semWaiters (sync 7 32 []) 0 0 = [] ∧
    semCount (sync 7 32 []) 0 0 = 0 ∧ atWord (sync 7 32 []) 3 0x0f 7 { zeros with imm := 32 } = true := by decide
theorem test_meets_bar : let s := regs [(CIRQ_BARMASK0_PARTICIPANTS 0, 8)] (engine 0x0f 4 zeros)
    bit (members s 0 0) 3 = true ∧ brokenBar s 0 0 = false := by decide
theorem test_meets_twait : tagOut (engOf (engine 0x0f 0 zeros) 3) 0 = false ∧ tagsOut (engOf (engine 0x0f 1 zeros) 3) = 0 := by decide

/-! Extents, leases and fences. -/

/-- CREATE of the last granule under NODE_CAP, and of one past it (R27, R29). -/
def creates (base len : Nat) : State :=
  regs [(EXT_CMD0_EXTENT_ID, 2), (EXT_CMD1_BASE, base), (EXT_CMD2_LENGTH, len), (EXT_CMD0_HOLDER, 9), (EXT_CMD0_TENANT, 5),
    (EXT_CMD2_REGION_ID, 1), (EXT_CMD2_MODE, 2), (EXT_CMD2_RIGHTS, 3), (MEMH_TIER_STATUS_RESERVE_DIV, 8)] (node .active .software)
theorem test_meets_create : let s := creates (7 * 0x200000) 1
    s.get EXT_CMD_CTL_BUSY = 0 ∧ 7 * 0x200000 + 0x200000 ≤ s.get EXT_CAP_NODE_CAP * 0x200000 ∧
    s.ext.table.length < s.get EXT_CAP_MAX_EXTENTS ∧ NMap.find s.ext.table 2 = none ∧ 2 / 2 ^ 26 = s.node ∧
    s.get MIR_STATUS_STATE ≠ 3 ∧ s.get MIR_STATUS_STATE ≠ 4 ∧ configured s 5 = true ∧ agentOf s 9 = some 5 ∧
    s.get EXT_EVENT_OVERCOMMIT = 0 ∧ (NMap.find s.dir.regions 1).map Region.tenant = some 5 ∧ (s.placePages 7 1).isSome = true := by
  decide
theorem test_meets_create_range : let s := creates (8 * 0x200000) 1
    8 * 0x200000 % 0x200000 = 0 ∧ ¬ 8 * 0x200000 + 0x200000 ≤ s.get EXT_CAP_NODE_CAP * 0x200000 := by decide
theorem test_meets_create_shape : ¬ (creates 1 1).get EXT_CMD1_BASE % 0x200000 = 0 ∧ (creates 0 262145).get EXT_CMD2_LENGTH = 262145 := by
  decide
theorem test_create_ends : ∃ t, exec .extCreate (creates (7 * 0x200000) 1) = .next t ∧ t.get EXT_CMD_CTL_STATUS = stOK ∧
    (NMap.find t.ext.table 2).map Extent.base = some (7 * 0x200000) := ⟨_, rfl, by decide⟩

/-- REVOKE, SET_HOLDER, SET_RIGHTS and QUERY of extent 1, ACTIVE and FENCING (R30, R39, R42). -/
def extCmd (st : ExtState) : State := regs [(EXT_CMD0_EXTENT_ID, 1), (EXT_CMD0_HOLDER, 9)] (node st .software)
theorem test_meets_extent_commands : let s := extCmd .active
    s.get EXT_CMD_CTL_BUSY = 0 ∧ NMap.find s.ext.table 1 = some (extent .active .software) ∧
    s.get EXT_FENCE_CUR_GEN + 1 ≤ s.get EXT_FENCE_DONE_GEN + 3 ∧ agentOf s 9 = some 5 ∧ s.dir.entries = [] := by decide
theorem test_meets_extent_fenced : NMap.find (extCmd .fencing).ext.table 1 = some (extent .fencing .software) := by decide
theorem test_meets_revoke_waits : let s := (extCmd .active).put EXT_FENCE_CUR_GEN 3
    s.get EXT_FENCE_DONE_GEN + 3 < s.get EXT_FENCE_CUR_GEN + 1 := by decide

/-- A renewal of the shortest and the longest term, and of one beyond each (R34); a lease at its expiry, in its grace and at the
end of it (R35). -/
def leased (st : LeaseState) (t : Nat) : State :=
  let s := late t (node (if st = .held then .active else .grace) .software)
  { s with ext := { s.ext with leases := [(9, ⟨st, 1000, 100, 1000⟩)] } }
theorem test_meets_renewal : let s := leased .held 0
    NMap.find s.ext.leases 9 = some ⟨.held, 1000, 100, 1000⟩ ∧ slotOfAgent s 9 = some 1 ∧ 100 ≤ s.get EXT_CFG_TERM_MAX_MS ∧
    s.get EXT_CFG_TERM_MAX_MS < 65536 ∧ s.get EXT_CFG_TERM_MAX_MS + 1 < 65536 ∧ 99 < 100 := by decide
theorem test_meets_lapse : let s := leased .held 1000
    (1000 ≤ s.now) ∧ s.get MIR_STATUS_STATE ≠ 3 ∧ s.get MIR_STATUS_STATE ≠ 4 ∧ (leased .held 999).now < 1000 := by decide
theorem test_meets_expiry : let s := leased .grace (1000 + State.reset.get EXT_CFG_GRACE_MS * 1000000)
    NMap.wf s.ext.table = true ∧ s.get EXT_CFG_GRACE_MS * 1000000 + 1000 ≤ s.now ∧ s.dir.entries = [] ∧
    ¬ (leased .grace 1000).get EXT_CFG_GRACE_MS * 1000000 + 1000 ≤ (leased .grace 1000).now := by decide
theorem test_lease_lapses : ∃ t, exec (.leaseLapsed 9) (leased .held 1000) = .next t ∧
    (NMap.find t.ext.leases 9).map Lease.st = some .grace ∧ (NMap.find t.ext.table 1).map Extent.st = some .grace := ⟨_, rfl, by decide⟩

/-- A fence that waits, one whose requests are gone, one whose request is still here, and an extent to scrub (R32, R39). -/
def fence (cur gen : Nat) : State :=
  let s := (node .fencing .software).put EXT_FENCE_CUR_GEN cur
  { s with ext := { s.ext with table := [(1, { extent .fencing .software with fenceGen := gen })] } }
theorem test_meets_fence_begin : let s := fence 2 0
    s.dir.entries = [] ∧ s.get EXT_FENCE_CUR_GEN < s.get EXT_FENCE_DONE_GEN + 3 ∧
    (NMap.vals s.ext.table).any (fun x => x.st = .fencing && x.fenceGen == 0) = true ∧
    (fence 3 0).get EXT_FENCE_DONE_GEN + 3 ≤ (fence 3 0).get EXT_FENCE_CUR_GEN := by decide
theorem test_meets_fence_done : let s := fence 1 1
    s.get EXT_FENCE_DONE_GEN + 1 ≤ s.get EXT_FENCE_CUR_GEN ∧ NMap.keys s.ext.inflight = [] ∧ s.ext.leaving = [] ∧
    entryLines s { extent .fencing .software with fenceGen := 1 } = [] ∧ s.dir.txns = [] ∧ s.ext.revokeWait = none ∧
    (fence 0 0).get EXT_FENCE_CUR_GEN < (fence 0 0).get EXT_FENCE_DONE_GEN + 1 := by decide
def scrubs : State :=
  let s := node .scrubbing .software
  { s with ext := { s.ext with scrubQ := [1] } }
theorem test_meets_reclaim : scrubs.ext.scrubQ = [1] ∧ NMap.find scrubs.ext.table 1 = some (extent .scrubbing .software) ∧
    NMap.keys scrubs.plc.moves = [] ∧ scrubs.plc.fills = [] := by decide

/-! Regions and versions. -/

theorem test_meets_region_create : let s := regs [(REG_CMD0_REGION_ID, 2), (REG_CMD1_HOLD_10NS, 500), (REG_CMD1_TENANT, 5)] (node .active .published)
    s.get REG_CMD_CTL_BUSY = 0 ∧ NMap.find s.dir.regions 2 = none ∧ 2 / 2 ^ 26 = s.node ∧ s.dir.regions.length < 65536 ∧
    s.get REG_CMD1_MODE ≠ 3 ∧ s.get REG_CMD1_HOLD_10NS ≤ 500 ∧ configured s (s.get REG_CMD1_TENANT) = true ∧
    ((s.put REG_CMD1_HOLD_10NS 501).get REG_CMD1_HOLD_10NS = 501) := by decide
/-- Extents 1 and 2 in the region; ADD_VERSION names the second, which has no slot yet. -/
def versions (role : Role) (cur : Nat) : State :=
  let s := regs [(REG_CMD0_REGION_ID, 1), (REG_CMD0_ARG, 2)] (node .active .published)
  { s with
    ext := { s.ext with table := [(1, extent .active .published), (2, { extent .active .published with base := 0x200000 })] }
    dir := { s.dir with regions := [(1, { region .published with
      curVersion := cur
      slots := [⟨1, cur, role, 1⟩, ⟨0, 0, .empty, 0⟩] })] } }
theorem test_meets_add_version : let s := versions .staging 0
    (NMap.find s.dir.regions 1).any (fun r => r.mode = .published && r.slots.any (fun v => v.role = .empty) &&
      r.slots.all fun v => v.role = .empty || v.extent != 2) = true ∧
    (NMap.find s.ext.table 2).any (fun e => e.regionId == 1) = true := by decide
theorem test_meets_acquire : let s := versions .current 7
    fabricGate s (pkt 0x72 0 0 []) = .pass ∧ (NMap.find s.dir.regions 1).any (fun r => r.mode = .published && r.tenant == 5 &&
      r.curVersion != 0 && (r.slots.find? fun v => v.role = .current) == some ⟨1, 7, .current, 1⟩) = true := by decide
/-- A PUBLISH waiting for the slot, accepted or not. -/
def publishes (acc : Bool) : State :=
  let s := versions (if acc then .publishing else .staging) 0
  { s with dir := { s.dir with pubs := [⟨1, 0, 1, 0, 0, acc, 0⟩] } }
theorem test_meets_publish : ((publishes false).dir.pubs.find? fun q => q.region = 1) = some ⟨1, 0, 1, 0, 0, false, 0⟩ ∧
    ((publishes true).dir.pubs.find? fun q => q.region = 1) = some ⟨1, 0, 1, 0, 0, true, 0⟩ ∧
    NMap.find (publishes true).ext.table 1 = some (extent .active .published) ∧ writesTo (publishes true) (extent .active .published) = false := by
  decide

/-! The firn directory. -/

/-- A coherent line 0 that agent 9 may take, with this entry. -/
def coherent (e : NMap DirEntry) : State :=
  let s := node .active .coherent
  { s with dir := { s.dir with entries := e } }
theorem test_meets_served : let s := coherent []
    let p := pkt 0x40 0 0 []
    fabricGate s p = .pass ∧ dirServes s p = true ∧ s.get MIR_STATUS_COH_RECOVER = 0 ∧
    admitRpa s 5 0 1 .coherence rtRead = .ok 1 (extent .active .coherent) ∧ s.err.waitDup = [] ∧ s.dir.txns = [] ∧ s.dir.lost = [] ∧
    s.dir.lostDue = [] ∧ extAt s 0 = some (1, extent .active .coherent) ∧ inSlice s (homeTile s 0) < 2048 ∧
    NMap.find s.dir.entries 0 = none ∧ (setLines s 0).length < 16 ∧ needFetch s 0 = false ∧ s.dir.sweepAgents = [] := by decide
theorem test_meets_plain_line : let s := coherent []
    backingLost s 0 = false ∧ (frameOf s 0).zero = false ∧ (frameAt s 0).tier ≠ .remote ∧ mirrors s (extent .active .coherent) = false := by
  decide
theorem test_meets_held_line : let s := coherent [(0, ⟨.ownedEx, 3, .exact [], 0⟩)]
    NMap.find s.dir.entries 0 = some ⟨.ownedEx, 3, .exact [], 0⟩ ∧ 3 ≠ (pkt 0x40 0 0 []).src ∧ holder s 0 ≠ some 3 := by decide
/-- A snoop sent to agent 3 and one to agent 4, both unanswered; the second answer is late at 1,000 ms. -/
def snooped (t : Nat) : State :=
  let s := late t (coherent [])
  { s with dir := { s.dir with txns := [⟨0, .loadOwn, pkt 0x41 0 0 [], 0, 0, 9, true, [⟨.kill, 3, 0, 7⟩, ⟨.kill, 4, 0, 7⟩], 0, false, false⟩] } }
theorem test_meets_answer : let s := snooped 0
    let p := { pkt 0x5a 2 0 [] with src := 3, tag := 7 }
    (waiting s p [.kill, .retrieve]).any (fun u => u.waits.any fun w => w.agent != p.src) = true ∧ s.dir.accs = [] ∧
    NMap.find s.dir.lost 0 = none := by decide
theorem test_meets_stray_answer : let s := snooped 0
    s.dir.txns.all (fun v => v.waits.all fun w => w.agent != 3 || w.tag != 8) = true := by decide
theorem test_meets_snoop_timeout : let s := snooped 1000000000
    0 + 1000 * s.get DIR_CFG_SNOOP_TIMEOUT_US ≤ s.now ∧ s.dir.accs = [] ∧ NMap.find s.dir.lost 0 = none ∧ NMap.find s.dir.entries 0 = none := by
  decide
/-- A request that waits for line 0, owned by agent 3, without and with a running hold window (R60, R61). -/
def queued (h : NMap (Nat × Nat)) : State :=
  let s := coherent [(0, ⟨.ownedEx, 3, .exact [], 0⟩)]
  { s with dir := { s.dir with holds := h, txns := [⟨0, .loadOwn, pkt 0x41 0 0 [], 0, 0, 9, false, [], 0, false, false⟩] } }
theorem test_meets_start : let s := queued []
    let u : Txn := ⟨0, .loadOwn, pkt 0x41 0 0 [], 0, 0, 9, false, [], 0, false, false⟩
    s.dir.accs = [] ∧ (s.dir.txns.find? fun v => v.line = 0) = some u ∧ breaksRule s u = false ∧ zeroWaits s u = false ∧
    needsSnoops s u = [(.fwdOwn, 3)] ∧ holder s 0 ≠ some 3 ∧ inSlice s (homeTile s 0) < 2048 := by decide
theorem test_meets_start_waits : let s := queued [(0, (3, 1))]
    holder s 0 = some 3 ∧ s.now < 1 := by decide
theorem test_meets_window_end : let s := late 1 (coherent [])
    let t := { s with dir := { s.dir with holds := [(0, (3, 1))] } }
    NMap.find t.dir.holds 0 = some (3, 1) ∧ 1 ≤ t.now ∧ t.dir.txns = [] := by decide
theorem test_meets_entry_lost : let s := coherent [(0, ⟨.shared, 0, .exact [9], 0⟩)]
    NMap.find s.dir.entries 0 = some ⟨.shared, 0, .exact [9], 0⟩ ∧ extAt s 0 = some (1, extent .active .coherent) ∧ s.dir.txns = [] ∧
    (s.sec.agents.filter fun (a : Nat × Nat) => a.2 = 5 && mapped s a.1) = [(9, 5)] := by decide
theorem test_meets_map_write : (State.reset.dir.sweepAgents = []) ∧ State.reset.dir.entries = [] ∧ 63 < 64 := by decide
theorem test_meets_sweep_done : let s := late 1966080 { State.reset with dir := { State.reset.dir with sweepAgents := [4095], sweepEnd := 1966080 } }
    s.dir.sweepAgents ≠ [] ∧ s.dir.sweepAgents.all (· < 4096) = true ∧ s.dir.sweepEnd ≤ s.now ∧ s.dir.txns = [] := by decide

/-! Fabric accesses. -/

theorem test_meets_read : let s := node .active .software
    let p := pkt 1 0 8 []
    fabricGate s p = .pass ∧ admitRpa s 5 0 8 .read rtRead = .ok 1 (extent .active .software) ∧ s.dir.accs = [] ∧ s.err.waitDup = [] ∧
    s.dir.txns = [] ∧ zeroIn s 0 8 = false ∧ lostIn s 0 8 = false ∧ heldAt s 0 = false ∧ inCoherent s 0 = false ∧
    (frameAt s 0).tier ≠ .remote ∧ needHeal s 0 = false := by decide
theorem test_meets_last_byte : let s := node .active .software
    admitRpa s 5 0x1fffff 1 .read rtRead = .ok 1 (extent .active .software) ∧ ¬ (0x1fffff + 2 ≤ 0x200000) := by decide
theorem test_meets_refusals : let s := node .fencing .software
    fabricGate s (pkt 1 0 8 []) = .pass ∧ s.get EXT_CFG_ENABLE = 1 ∧ extAt s 0 = some (1, extent .fencing .software) ∧
    extAt s 0x200000 = none ∧ 2 ^ 50 / 2 ^ 50 % 64 ≠ s.node ∧ regionOk (node .active .software) (extent .active .coherent) = false := by decide
theorem test_meets_stale_epoch : let s := node .active .software
    NMap.find s.sec.tenants 5 = some ⟨.live, 1, 0, 0⟩ ∧ shut s = false ∧ headerBad (pkt 1 0 8 []) = false ∧
    ({ pkt 1 0 8 [] with tenEpoch := 1 } : Pkt).tenEpoch ≠ 0 := by decide
theorem test_meets_flush : let s := node .active .software
    let f : Flush := ⟨pkt 0x71 0 0 [], stOK, []⟩
    let t := { s with dir := { s.dir with flushes := [f] } }
    t.dir.flushes.find? (fun f => domKey f.req = 8 * 9 + 0) = some f ∧ t.err.waitDup = [] := by decide
theorem test_meets_atomic : let s := node .active .software
    let p := { pkt 8 0 8 [] with arg := 0x100 }
    headerBad p = false ∧ shut s = false ∧ epochGate s p = .pass ∧ serviceGate s p = .pass ∧ atomicOk p.arg p.addr = true ∧
    agentOf s p.src = some p.tenant ∧ admitRpa s 5 0 8 .atomic rtAtomic = .ok 1 (extent .active .software) ∧ poisonedIn s 0 8 = false := by
  decide
theorem test_meets_atomic_retry : let s := node .active .software
    requestRuns s { pkt 8 0 8 [] with retry := true } = false ∧ retained s (pkt 8 0 8 []) = none ∧ s.now < s.fab.enabledAt + 200000 := by
  decide

/-! Memory tiers. -/

/-- Sites 0 and 1 form the HBM tier with a spare area in eight, and are in service at a rack time. -/
def memory (t : Nat) : State :=
  let s := late t (node .active .software)
  regs ([(MEMH_STATUS_STATE 0, 2), (MEMH_STATUS_STATE 1, 2), (MEMH_TIER_STATUS_RESERVE_DIV, 8), (MEMH_STATUS_STATE 2, 0)] ++
    (List.range 64).map fun i => (MEMH_PC_STATE 0 i, 0)) { s with mch := { s.mch with hbmForm := [0, 1] } }
theorem test_meets_refresh : let s := memory 0
    ctlHas 0 63 = true ∧ ctlServes s 0 = true ∧ s.get (unitSt (ctlType 0) 0) ≤ 2 ∧ refreshDue s 0 0 ≤ s.now ∧ s.now < refreshDue s 0 63 := by
  decide
/-- A refresh of pseudo-channel 0 ended 9 ns ago, or 10 ns ago (R84). -/
def refreshed (t : Nat) : State :=
  let s := memory t
  { s with mch := { s.mch with ctl := [(0, { ctlOf s 0 with refreshEnd := [(0, 1000)] })] } }
theorem test_meets_retrain : let s := refreshed 1009
    retrainEn s 0 = true ∧ memAwake s = true ∧ ctlServes s 0 = true ∧ 3125000 * 0 ≤ s.now ∧ (1000 ≤ s.now ∧ s.now < 1000 + 10) ∧
    (chanUnits 0 0) = [0, 1] ∧ ¬ (refreshed 1010).now < 1000 + 10 := by decide
/-- One request waits, from the fabric or from the scrub port (R83, R88). -/
def waiting1 (port : Nat) : State :=
  let s := memory 0
  { s with mch := { s.mch with ctl := [(0, { ctlOf s 0 with queue := [⟨port, 0, 0, 0, 5, 0, 0, 0⟩] })] } }
theorem test_meets_issue : let s := waiting1 0
    memPick s 0 (ctlOf s 0) = some ⟨0, 0, 0, 0, 5, 0, 0, 0⟩ ∧ memAwake s = true ∧ (ctlOf s 0).throttled = false ∧ hbmStep s 0 ≠ 3 ∧
    memPick (waiting1 3) 0 (ctlOf (waiting1 3) 0) = some ⟨3, 0, 0, 0, 5, 0, 0, 0⟩ := by decide
theorem test_meets_corrected : let s := waiting1 0
    corrLimit (s.put (MEMH_CTL_CORR_LIMIT 0) 0) utPc 0 = 0 ∧ mergesWith s ⟨0, utPc, 0, 0x0001, stOK, none, 0, none, 0⟩ = none := by decide
theorem test_meets_uncorrectable : let s := memory 0
    s.get (unitSt (ctlType 0) 0) = 0 ∧ inUnit s utPc 0 [0] = [0] := by decide
/-- A parity error at 0 and the second within 1 ms, at its edge (R92). -/
theorem test_meets_parity : let s := memory 999999
    let t := { s with mch := { s.mch with parity := [(unitKey utPc 0, 0)] } }
    NMap.find t.mch.parity (unitKey utPc 0) = some 0 ∧ t.now < 0 + 1000000 ∧ ¬ (t.put CLK_RACK_TIME 1000000).now < 1000000 := by decide
theorem test_meets_lock_loss : (memory 0).get (MEMH_STATUS_STATE 0) = 2 ∧ (memory 0).get (MEMH_STATUS_STATE 2) ≠ 2 := by decide
theorem test_meets_scrub : let s := memory 0
    scrubEn s 0 = true ∧ memAwake s = true ∧ ctlServes s 0 = true ∧ NMap.find s.mch.scrubPos (unitKey utPc 0) = none := by decide
/-- A DIMM at 83, 84, 85 and 86 °C (R86): limited above 85, freed at 83. -/
def hotDimm (on : Bool) (temp : Nat) : Bool :=
  let s := (memory 0).put (MEMD_STATUS_STATE 23) 2
  let s := { s with mch := { s.mch with ctl := [(39, { ctlOf s 39 with throttled := on })] } }
  match exec (.dimmTempSample 23 temp) s with
  | .next t => (ctlOf t 39).throttled
  | _ => on
theorem test_dimm_temperatures : [hotDimm false 86, hotDimm false 85, hotDimm true 84, hotDimm true 83] = [true, false, true, false] := by decide
theorem test_meets_commands : let s := memory 0
    s.get (MEMH_CMD_BUSY 0) = 0 ∧ s.get (MEMH_STATUS_STATE 0) = 2 ∧ s.get (MEMH_CMD_PC 0) = 0 ∧ s.get (MEMH_PC_STATE 0 0) = 0 := by decide
set_option maxRecDepth 4000 in
theorem test_meets_retire : let s := memory 0
    canSpare s utPc 0 = true ∧ s.mch.retiring = [] ∧ (tierUnits s utPc 0).length = 128 ∧
    canSpare (s.put MEMH_TIER_STATUS_RESERVE_DIV 0) utPc 0 = false := by decide
/-- Channel 3, alone in its set, with ranks of one DIMM or of none, in a state. -/
def ddr5 (st set : Nat) : State :=
  let s := regs [(MEMD_STATUS_STATE 3, st), (MEMD_SET_STATE 0, set), (MGT_STATUS_STATE, 2), (MEMD_RANK_STATE 3 0, 0)] (memory 0)
  { s with mch := { s.mch with dimm := [(3, [⟨true, 4, 1, 2 ^ 36, 16, 1, 48, 295⟩])], setForm := [(0, [12])], restoring :=
  if st = 5 then [3] else [] } }
theorem test_meets_evacuate : let s := ddr5 2 1
    s.get (MEMD_CMD_BUSY 3) = 0 ∧ s.get (MEMD_STATUS_STATE 3) = 2 ∧ s.get (MEMD_SET_STATE 0) = 1 ∧ setFits s 0 = true := by decide
theorem test_meets_evacuated : let s := ddr5 3 2
    let t := { s with mch := { s.mch with drains := [(0, .evacuate 3)] } }
    NMap.find t.mch.drains 0 = some (.evacuate 3) ∧ setFrames t 0 = 0 ∧ NMap.find t.mch.retiring 16 = none := by decide
theorem test_meets_restored : let s := ddr5 5 3
    3 ∈ s.mch.restoring ∧ s.get MGT_STATUS_STATE = 2 ∧
    ([0, 1, 2].all fun x => s.get (MEMD_STATUS_STATE x) != 4 && s.get (MEMD_STATUS_STATE x) != 2) = true := by decide
/-- The DIMMs of Table 4.2 at its edges: 256 GiB at 6,400 MT/s alone, 5,600 MT/s in pairs; one beyond each is refused (R77, R78). -/
def fitted (ds : List Dimm) : Nat := match exec (.restored 3 ds) (ddr5 5 3) with
  | .next t => t.get (MEMD_STATUS_STATE 3)
  | _ => 0
def dimm (gb speed : Nat) : Dimm := ⟨true, 4, 2, gb * 2 ^ 30, 32, 1, speed, 410⟩
theorem test_dimms_served : [fitted [dimm 256 64], fitted [dimm 256 56, dimm 256 56]] = [2, 2] := by decide
theorem test_dimms_refused : [fitted [dimm 512 64], fitted [dimm 256 72], fitted [dimm 256 60, dimm 256 60],
    fitted [dimm 256 56, dimm 128 56]] = [6, 6, 6, 6] := by decide
theorem test_meets_retirement_runs : let s := (memory 0).put (MEMH_PC_STATE 0 0) 1
    let t := { s with mch := { s.mch with retireQ := [(0, [0])] } }
    NMap.getD t.mch.retireQ 0 [] = [0] ∧ NMap.find t.mch.retiring 0 = none ∧ t.get (unitSt utPc 0) = 1 := by decide
theorem test_meets_copy : let s := (memory 0).put (MEMH_PC_STATE 0 0) 2
    let r : Retire := ⟨0, (List.range 7).map fun i => ⟨i, 64 + i⟩, 0⟩
    let t := { s with mch := { s.mch with retiring := [(0, r)] } }
    NMap.find t.mch.retiring 0 = some r ∧ r.part < divOf t utPc 0 - 1 ∧ (r.donors.find? fun h => h.part = 0) = some ⟨0, 64⟩ ∧
    areasHeld t utPc r = false ∧ (granuleLines t utPc 0 0).all (fun l => !lineBusy t l) = true ∧ unitPieces t utPc 0 = [] ∧
    t.get (cursorOf utPc 0) + 1 < unitU t utPc 0 := by decide
theorem test_meets_copied : let s := memory 0
    let t := { s with mch := { s.mch with retiring := [(0, ⟨0, [], 8⟩)] } }
    divOf t utPc 0 ≤ 8 ∧ NMap.find t.mch.retiring 0 = some ⟨0, [], 8⟩ := by decide

/-! Placement. -/

/-- Page 0 has been sampled, the fourth and the fifth time in 10 ns (R110). -/
def sampled (n : Nat) : State :=
  let s := regs [(PLC_CFG_ENABLE, 1)] (node .active .software)
  { s with plc := { s.plc with samples := [0], sampleCnt := n } }
theorem test_meets_sample : let s := sampled 3
    NMap.find s.plc.map 0 = some (frameOf s 0) ∧ 0 ∈ s.plc.samples ∧ s.get PLC_CFG_ENABLE = 1 ∧ s.plc.sampleCnt < 4 ∧
    (sampled 4).plc.sampleTime = (sampled 4).now / 10 ∧ 4 ≤ (sampled 4).plc.sampleCnt := by decide
theorem test_meets_decay : let s := late (1000000 * State.reset.get PLC_CFG_DECAY_MS) (memory 0)
    s.plc.lastDecay + 1000000 * s.get PLC_CFG_DECAY_MS ≤ s.now ∧ s.get PLC_LIMITS_FREE_LOW ≤ hbmFree s := by decide
/-- Page 0 lies at holder 7. -/
def lodged : State :=
  let s := node .active .software
  { s with plc := { s.plc with map := [(0, ⟨4, .remote, 0, false, false, 7, 0, 0⟩)] } }
theorem test_meets_lodged : lodged.plc.map.any (fun p => p.2.tier = .remote && p.2.holder == 7) = true ∧ 7 ∉ lodged.plc.lost ∧
    noRoute lodged 7 = true ∧ lodged.dir.accs = [] ∧ lodged.dir.txns = [] ∧ inRecovery lodged utIcefall 0 = false := by decide
/-- Page 0 of DDR5 set 0 heads the promotion queue; it moves, with lines left or none. -/
def promotes : State :=
  let s := regs [(PLC_CFG_ENABLE, 1), (MEMD_SET_STATE 0, 1)] (memory 0)
  { s with
    mch := { s.mch with dimm := [(0, [⟨true, 4, 1, 2 ^ 36, 16, 1, 48, 295⟩])], setForm := [(0, [0])] }
    plc := { s.plc with map := [(0, ⟨0, .ddr5, 0, false, false, 0, 0, 9000⟩)], promQ := [0] } }
theorem test_meets_promotion : movable promotes 0 = true ∧ promotes.plc.cmd = .none ∧ heatMoves promotes = true ∧
    promotes.get PLC_LIMITS_FREE_LOW < hbmFree promotes ∧ (frameOf promotes 0).hint ≠ 2 ∧ excess promotes 0 = false ∧
    reliefDue promotes = false := by decide
theorem test_meets_move_start : moveReason promotes 0 0 = some (.promote, hbmDest promotes) ∧ destFree promotes (hbmDest promotes) = true ∧
    budgetLeft promotes = true := by decide
def moving (c : Nat) : State := { promotes with plc := { promotes.plc with moves := [(0, ⟨hbmDest promotes, 3, c, .promote⟩)] } }
theorem test_meets_handover : let s := moving 16383
    (NMap.find s.plc.moves 0).map Move.cursor = some 16383 ∧ lineBusy s 16383 = false ∧ budgetLeft s = true ∧ needFetch s 16383 = false ∧
    backingLost s (128 * 16383) = false := by decide
theorem test_meets_move_done : (NMap.find (moving 16384).plc.moves 0).map Move.cursor = some 16384 ∧ placeWaits (moving 16384) 0 none = false := by
  decide
theorem test_meets_scrub_and_fill : let s := node .active .software
    let t := { s with plc := { s.plc with scrub := [⟨.hbm, 0, 3⟩], fills := [0] } }
    t.plc.scrub.contains ⟨.hbm, 0, 3⟩ = true ∧ t.sec.purgeDue = [] ∧ 0 ∈ t.plc.fills ∧ t.dir.txns = [] ∧ t.dir.accs = [] ∧
    t.ext.table.all (fun e => !mirrors t e.2) = true := by decide
/-- HINT of the last page of extent 1, and of one past it (R122). -/
def places (page : Nat) : State := regs [(PLC_CMD0_EXTENT_ID, 1), (PLC_CMD0_PAGE, page), (PLC_CMD1_COUNT, 1), (PLC_CMD1_NODE, 7)] (memory 0)
theorem test_meets_placement_command : let s := places 0
    s.get PLC_CMD_CTL_BUSY = 0 ∧ NMap.find s.ext.table (s.get PLC_CMD0_EXTENT_ID) = some (extent .active .software) ∧
    s.get PLC_CMD1_COUNT = 1 ∧ s.get PLC_CMD0_PAGE + 1 ≤ 1 ∧ 1 < (places 1).get PLC_CMD0_PAGE + 1 ∧ s.get PLC_CMD1_NODE ≠ s.node ∧
    (NMap.find s.plc.map 0).isSome = true := by decide

/-! Translation. -/

/-- Context 1 of tenant 5, POOL or not, with one entry for the first 2 MiB, and one window. -/
def context (pool : Bool) (inval : Bool) : State :=
  let s := regs [(XLT_CFG_ENABLE, 1), (XLT_CMD2_CTX, 1), (XLT_CMD2_COUNT, 1), (XLT_CMD3_NODES, 64), (XLT_CMD3_AGENTS, 4096),
    (XLT_CMD3_MODE, 1), (XLT_CMD3_TENANT, 5), (XLT_CMD2_RIGHTS, 1)] (node .active .software)
  { s with xlt := { s.xlt with
    ctxs := [(1, ⟨5, pool, if pool then [] else [(0, ⟨false, 3, 0, 0, inval⟩)], if pool then [⟨0, 0, 1, 0, inval⟩] else []⟩)]
    hotQ := [⟨0, 0, 1, 0⟩] } }
theorem test_meets_context_create : let s := (context true false).put XLT_CMD2_CTX 1023
    s.get XLT_CMD_CTL_BUSY = 0 ∧ NMap.find s.xlt.ctxs 1023 = none ∧ configured s (s.get XLT_CMD3_TENANT) = true ∧
    1 ≤ s.get XLT_CMD3_NODES ∧ s.get XLT_CMD3_NODES ≤ 64 ∧ 1 ≤ s.get XLT_CMD3_AGENTS ∧ s.get XLT_CMD3_AGENTS ≤ 4096 ∧
    s.get XLT_CMD3_MODE ≠ 0 := by decide
theorem test_meets_context_command : let s := context false false
    s.get XLT_CMD_CTL_BUSY = 0 ∧ s.get XLT_CMD2_CTX ≠ 0 ∧ (NMap.find s.xlt.ctxs (s.get XLT_CMD2_CTX)).any (fun c => !c.pool &&
      (NMap.vals c.entries).all (fun e => e.pins == 0) && c.taken (s.get XLT_CMD2_SIZE == 1) 0 && !c.taken (s.get XLT_CMD2_SIZE == 1) 32) = true ∧
    s.get XLT_CMD2_SIZE ≤ 1 ∧ 1 ≤ s.get XLT_CMD2_COUNT ∧ s.get XLT_CMD2_COUNT ≤ 262144 ∧ entriesUsed s + 2 ≤ 16777216 := by decide
theorem test_meets_window_command : let s := (context true false).put XLT_CMD0_VA 0x200000
    (NMap.find s.xlt.ctxs 1).any (fun c => c.pool && c.windows.all fun w => !meets w.va w.count 0x200000 1) = true ∧ windowsUsed s < 65536 ∧
    (context true false).get XLT_CMD0_VA = 0 := by decide
theorem test_meets_translation : let s := context false false
    NMap.find s.xlt.ctxs 1 = some ⟨5, false, [(0, ⟨false, 3, 0, 0, false⟩)], []⟩ ∧ s.get XLT_CFG_ENABLE = 1 ∧ 0x1fffff < 2 ^ 57 ∧
    0x1fffff / 65536 / 32 * 32 = 0 ∧ 0x200000 / 65536 / 32 * 32 ≠ 0 := by decide
theorem test_translation_ends : translate (context false false) 1 5 true 0x1fffff 1 ≠ .fault xrNotMapped ∧
    translate (context false false) 1 5 true 0x200000 1 = .fault xrNotMapped ∧
    translate (context true false) 1 5 true 0x200000 1 = .fault xrNoWindow := by decide
theorem test_meets_invalidation : let s := context false false
    cmdSlots s = [0] ∧ NMap.vals s.chn.chans = [] ∧ Nat.land 3 (s.get XLT_CMD2_RIGHTS) ≠ 3 := by decide
theorem test_meets_inval_done : let s := context false true
    let t := { s with xlt := { s.xlt with change := some (.unmap 1 [0]) } }
    chased t (.unmap 1 [0]) = false ∧ pinsHeld t (.unmap 1 [0]) = false := by decide
theorem test_meets_epoch : let s := late (1000000 * State.reset.get XLT_CFG_CNT_EPOCH_MS) (context false false)
    s.xlt.lastEpoch / (1000000 * s.get XLT_CFG_CNT_EPOCH_MS) < s.now / (1000000 * s.get XLT_CFG_CNT_EPOCH_MS) ∧ s.xlt.hotQ ≠ [] := by decide

/-! Engines. -/

/-- Engine 3 of a launch of tenant 5 on the node, at this word, with register s2 holding a pool address. -/
def launched (st cls op : Nat) (w : Ins) (a : Nat) (tags : NMap ATag) : State :=
  let s := regs [(ENG_STATUS_STATE 3, st), (ENG_STATUS_TENANT 3, 5)] (node .active .software)
  { s with eng := { s.eng with
    engs := [(3, { Eng.idle with imem := [wordOf cls op w], prog := 1, s := [(2, a)], tags := tags })]
    launches := [⟨0, 0, 5, 0, [3], true, true, []⟩] } }
def getByte : Ins := { zeros with rb := 2 }
def request (fin : Bool) : AReq := ⟨.get, 0, 0, 1, [], [], false, none, [⟨0, 0, 1, if fin then .done 0 0 else .remote, false⟩], [], 0⟩
theorem test_meets_async : let s := launched 2 0x0e 0 getByte 0 []
    let x := engOf s 3
    atWord s 3 0x0e 0 getByte = true ∧ asyncLegal 0x0e 0 getByte = true ∧ asyncFault s 3 0x0e 0 getByte = none ∧
    tagOut x (asyncTag x 0x0e getByte) = false ∧ isVirtual s (engCtx s 3) = false ∧ rpaNode 0 = s.node ∧
    admitOff s (engTenant s 3) 0 1 .engRead (rtRead + rtEngine) = .ok 1 (extent .active .software) ∧ sliceTakes s 0 1 = true ∧
    nocAt s (homeTile s 0) .request = [] ∧ needHeal s 0 = false ∧ poisonedIn s 0 1 = false ∧ filling x 0 = false := by decide
theorem test_meets_async_waits : let s := launched 2 0x0e 0 getByte 0 [(0, .out (request false))]
    tagOut (engOf s 3) (asyncTag (engOf s 3) 0x0e getByte) = true ∧ asyncFault s 3 0x0e 0 getByte = none := by decide
theorem test_meets_async_fault : asyncFault (launched 2 0x0e 0 getByte 1 []) 3 0x0e 0 getByte ≠ none ∧
    asyncLegal 0x0e 0 { getByte with rd := 1 } = false := by decide
theorem test_meets_engine_states : [engSt (launched 1 0 0 zeros 0 []) 3, engSt (launched 4 0 0 zeros 0 []) 3] = [1, 4] ∧
    tagsOut (engOf (launched 4 0 0 zeros 0 []) 3) = 0 ∧ inRecovery (launched 4 0 0 zeros 0 []) utEngine 3 = false ∧
    reservedWord (wordOf 0x1f 0 zeros) = true := by decide
/-- The watchdog at its bound of 1,024 cycles and one past it (R191). -/
def watched (n : Nat) : State := regs [(ENG_CTL_WDOG_KCYC 3, 1), (ENG_CYCLES_CYCLES 3, n)] (launched 2 0 0 zeros 0 [])
theorem test_meets_watchdog : 1024 * (watched 1025).get (ENG_CTL_WDOG_KCYC 3) < (watched 1025).get (ENG_CYCLES_CYCLES 3) ∧
    (watched 1024).get (ENG_CYCLES_CYCLES 3) ≤ 1024 * (watched 1024).get (ENG_CTL_WDOG_KCYC 3) := by decide
theorem test_meets_tag_complete : let s := launched 2 0 0 zeros 0 [(511, .out (request true))]
    reqOf s 3 511 = some (request true) ∧ (request true).finished = true ∧ refusalStatus (tagStatus (request true)).1 = false ∧
    (request false).finished = false := by decide
theorem test_meets_wait_over : let s := launched 3 0x0f 1 zeros 0 []
    waitOver { engOf s 3 with wait := some .all } = true ∧ engSt s 3 = 3 ∧ tagsOut (engOf s 3) = 0 := by decide
theorem test_meets_barrier : let s := regs [(CIRQ_BARMASK0_PARTICIPANTS 0, 8), (CIRQ_BAR0_ARRIVED 0, 8)] (launched 3 0x0f 4 zeros 0 [])
    arrived s 0 0 ≠ 0 ∧ arrived s 0 0 = members s 0 0 ∧ bit (members s 0 0) 3 = true := by decide
theorem test_meets_grant : let s := launched 3 0x0f 7 zeros 0 []
    let t := { (s.putSem 0 31 2) with eng := { s.eng with semQ := [(31, [(3, 2)])] } }
    semWaiters t 0 31 = [(3, 2)] ∧ 2 ≤ semCount t 0 31 ∧ engSt t 3 = 3 := by decide
/-- A request of engine 3 in context 1 that missed the cache. -/
def missed : State :=
  let s := context false false
  { s with eng := { s.eng with
    engs := [(3, { Eng.idle with tags := [(0, .out { request false with missing := true, lines := [] })] })]
    launches := [⟨0, 0, 5, 1, [3], true, true, []⟩] } }
theorem test_meets_miss : engCtx missed 3 = 1 ∧ (reqOf missed 3 0).any AReq.missing = true ∧
    firstMiss missed 3 = some (0, { request false with missing := true, lines := [] }) ∧ cached missed 3 1 0 = none ∧
    translate missed 1 0 false 0 0 ≠ .wait := by decide +kernel
/-- DOT of tile 0 with a row every line of the store, FP32 rows (R236). -/
def dotWord : Ins := { zeros with imm := 0x80 }
theorem test_meets_dot : dotLegal false dotWord = true ∧ dotFault (engOf (engine 0x10 0 dotWord) 3) false dotWord = none := by
  decide +kernel
theorem test_meets_tiles : (tileOf (engOf (engine 0x11 1 zeros) 3) 0).int = false ∧ accIdx (engOf (engine 0x11 1 zeros) 3) 0 0 % 2 = 0 ∧
    cvtLegal zeros = true := by decide
theorem test_meets_pointer : let s := context true false
    (NMap.find s.xlt.ctxs 1).any (fun c => c.pool && (c.windows.find? fun n => n.va ≤ 0x1fffff && 0x1fffff < n.va + 0x200000 * n.count).isSome) = true := by
  decide

/-! Channels. -/

/-- Channel 4095 of tenant 5, in context 0, with rings of 16 descriptors at offset 0 and of 16 records behind them. -/
def chan (st : Nat) : Chan :=
  { tenant := 5, ctx := 0, st := st, stopOnErr := false, sqLog := 4, cqLog := 4, sqBase := 0, cqBase := 0x800, liveMax := 4, prio := 3,
    weight := 1, sqHead := 0, sqTail := 1, cqTail := 0, cqHead := 0, phase := true, fStatus := 0, fDetail := 0, fIndex := 0,
    descDone := 0, bytesDone := 0, live := [], rings := [] }
def channel (st : Nat) (cache : List Nat) : State :=
  let s := regs [(CHN_CFG_ENABLE, 1), (CHN_CMD_CHANNEL, 4095), (TEN_ID_RACK_TENANT 1, 5), (TEN_ID_STATE 1, 2)] (node .active .software)
  { s with chn := { s.chn with chans := [(4095, chan st)], cache := cache } }
theorem test_meets_channel_command : let s := channel 0 []
    s.get CHN_CMD_BUSY = 0 ∧ chanOf' s (s.get CHN_CMD_CHANNEL) = some (chan 0) ∧ s.eng.launches = [] ∧
    chanOf' (s.put CHN_CMD_CHANNEL 1) 1 = none := by decide
theorem test_meets_window : windowTenant (channel 1 []) 1 = some 5 ∧ windowTenant (channel 1 []) 2 ≠ some 5 := by decide
theorem test_meets_reset_done : (chan 4).live = [] ∧ (channel 4 []).err.openRecs = [] := by decide
theorem test_meets_doorbell : let s := channel 1 [4095]
    s.get CHN_CFG_ENABLE = 1 ∧ chanOf' s 4095 = some (chan 1) ∧ windowTenant s 1 = some (chan 1).tenant ∧ s.chn.cache.contains 4095 = true ∧
    ahead 16 (chan 1).sqTail ≤ ahead 16 (chan 1).sqHead ∧ ahead 16 (chan 1).sqHead ≤ 2 ^ 4 ∧ 2 ^ 4 < ahead 17 (chan 1).sqHead ∧
    inRecovery s utChannel 4095 = false ∧ bellOk s 2 4095 = false ∧ (channel 1 []).chn.cache.length < 512 := by decide
theorem test_meets_accept : let s := channel 1 [4095]
    stagedOf (chan 1) = none ∧ mayRead s 4095 (chan 1) = true ∧ (chan 1).sqBase % 128 = 0 ∧ NMap.wf s.chn.chans = true ∧
    admitOff s 5 0 128 .engRead rtRead = .ok 1 (extent .active .software) ∧ needHeal s 0 = false ∧ poisonedIn s 0 128 = false ∧
    descRefusal s 5 0 (descOf (rdBytes s.mem 0 128)) ≠ none := by decide
/-- The same with a MARK in the ring's first slot. -/
def marks : State := { channel 1 [4095] with mem := [(0, 0x30), (4, 1), (0x28, 1), (0x2a, 1), (0x2c, 1), (0x2e, 1)] }
theorem test_meets_accepted : let d := descOf (rdBytes marks.mem 0 128)
    d.op = opMark ∧ descRefusal marks 5 0 d = none ∧ xlSegs marks 0 5 d.conv (d.allSegs []) [] = .ok [] ∧ onNode marks [] = true := by decide

/-! Work descriptors and launches. -/

/-- Channel 4095 with one live descriptor of an opcode, started, on pages that map onto themselves. -/
def live (op : Nat) (f : LiveDesc → LiveDesc) : LiveDesc :=
  f { LiveDesc.blank 0 with
    d := { descOf [] with op := op, cnt := [1, 1, 1, 1, 1] }
    read := true
    ready := true
    started := true
    xl := [⟨0, false, 3, 0⟩] }
def worksOn (l : LiveDesc) : State :=
  let s := channel 1 [4095]
  { s with chn := { s.chn with chans := [(4095, { chan 1 with live := [l] })] } }
def tile0 (done : Bool) : Tile := ⟨0, [], 0, 0, done, false, 0, 0, 0, false, []⟩
theorem test_meets_tile : let l := live opFill fun l => { l with tiles := [tile0 false], next := 1 }
    let s := worksOn l
    chanOf' s 4095 = some { chan 1 with live := [l] } ∧ liveOf s 4095 0 = some l ∧ nextWork s l = some (tile0 false) ∧ s.dir.txns = [] ∧
    l.xl.all (fun r => r.rpa % 0x200000 == 0) = true ∧ (xlAt l.xl 0x1fffff).isSome = true ∧ xlAt l.xl 0x200000 = none ∧
    (tilePieces l 0).all (fun p => !lostIn s p.1 p.2.1) = true ∧ heldAt s 0 = false ∧ (frameAt s 0).tier ≠ .remote := by decide
theorem test_fill_writes_its_byte :
    let l := live opFill fun l => { l with d := { l.d with imm := 0x5a }, tiles := [tile0 false], next := 1 }
    ∃ t, exec (.dFill 4095 0) (worksOn l) = .next t ∧ t.mem = [(0, 0x5a)] := ⟨_, rfl, by decide⟩
theorem test_meets_push : let l := live opPush fun l => { l with tiles := [tile0 false], next := 1 }
    freeTag (worksOn l) (l.d.imm2 % 4096) = some 0 ∧ l.ctrAccs = [] := by decide +kernel
theorem test_meets_plain : let l := live opFence id
    liveOf (worksOn l) 4095 0 = some l ∧ l.started = true ∧ l.ended = none ∧ l.stop = none ∧ (worksOn l).eng.launches = [] ∧
    (worksOn l).dir.pubs = [] ∧ l.covers = [] := by decide
theorem test_meets_delivery : let l := live opFill fun l => { l with tiles := [tile0 true], next := 1 }
    (l.tiles = [tile0 true]) ∧ heldFor (worksOn l) (.tile 4095 0 0) = false ∧ 0 = l.d.first + l.delivered ∧ l.d.op ≠ opPush := by decide
theorem test_meets_push_timeout : let q := { tile0 true with due := 1 }
    let l := live opPush fun l => { l with tiles := [q], next := 1 }
    let s := late 1000000 (worksOn l)
    q.began + 1000000 ≤ s.now ∧ ¬ q.began + 1000000 ≤ (late 999999 s).now := by decide
theorem test_meets_record : let l := live opFence fun l => { l with ended := some ⟨stOK, 0⟩ }
    let s := worksOn l
    l.over s 4095 = true ∧ l.accs = [] ∧ l.pinned = false ∧ l.outcome.1 = stOK ∧ (chan 1).cqBase % 32 = 0 ∧
    admitOff s 5 0x800 32 .engWrite rtWrite = .ok 1 (extent .active .software) := by decide
/-- A LAUNCH of engine 255 that waits, that has ended, and that finds its engine OFFLINE. -/
def launch (off : Nat) (loaded : Bool) : State :=
  let s := (worksOn (live opLaunch fun l => { l with d := { l.d with cnt := [8, 1, 1, 1, 1] }, engines := [255] })).put (ENG_CTL_OFFLINE 255) off
  { s with eng := { s.eng with launches := [⟨4095, 0, 5, 0, [255], loaded, loaded, if loaded then [(255, ⟨0, 0, 0⟩)] else []⟩] } }
theorem test_meets_launch : let s := launch 0 false
    launchOfDesc s 4095 0 = some ⟨4095, 0, 5, 0, [255], false, false, []⟩ ∧ s.get CLK_CMD_BUSY = 0 ∧ engSt s 255 = 0 ∧
    s.get (ENG_CTL_OFFLINE 255) = 0 ∧ s.get (CIRQ_STATUS_BUSY 15) = 0 ∧ (launch 1 false).get (ENG_CTL_OFFLINE 255) ≠ 0 := by decide
theorem test_meets_launch_end : launchOfDesc (launch 0 true) 4095 0 = some ⟨4095, 0, 5, 0, [255], true, true, [(255, ⟨0, 0, 0⟩)]⟩ := by decide

/-! Links. -/

/-- An IDLE graupel that publishes no acknowledgement and returns no credit. -/
def idle : Graupel :=
  { type := 0, seq := 0, cls := 0, ack := 0, ackV := false, len := 0, sop := false, eop := false, crA := (7, 0), crB := (7, 0),
    payload := [], crcOk := true }
def idleRx : Rx := ⟨graupelBytes idle, false, 0, 0⟩
theorem test_meets_good_graupel : let g := graupelOf idleRx.bytes
    (g.type, g.crcOk, g.ackV, g.crA.1, g.crB.1, idleRx.bytes.length) = (0, true, false, 7, 7, 256) := by decide +kernel
/-- Port 71 in a state. -/
def link (st : Nat) (f : LnkPort → LnkPort) : State := ((State.reset.put (LNK_STATUS_STATE 71) st).put (LNK_CTL_ENABLE 71) 1).setLnk 71 (f LnkPort.idle)
theorem test_meets_port : hasPort State.reset 71 = true ∧ hasPort State.reset 72 = false ∧ lnkSt (link lkUp id) 71 = lkUp := by decide
/-- A packet selected for the port, at the edge of the window and one graupel past it (R262). -/
def selected (out : Nat) : State :=
  let s := regs [(LNK_TXSTATE_OUTSTANDING 71, out), (credF 71 1, 1)] (link lkUp id)
  { s with fab := { s.fab with sel := [(71, ⟨pkt 1 0 8 [], 72, 0, false, none, 0, 1⟩)] } }
theorem test_meets_send : let q := pkt 1 0 8 []
    graupels q = 1 ∧ pktClass q = 1 ∧ 2046 + graupels q ≤ 2047 ∧ 2047 < 2047 + graupels q ∧ (selected 2047).get (LNK_TXSTATE_OUTSTANDING 71) = 2047 ∧
    (selected 2046).get (credF 71 1) = 1 ∧ (lnkOf (selected 2046) 71).replay = none := by decide
theorem test_meets_replay : let s := late (100 * State.reset.get (LNK_TIMERS_REPLAY_TMO_100NS 71)) (selected 1)
    (lnkOf s 71).timer + 100 * s.get (LNK_TIMERS_REPLAY_TMO_100NS 71) ≤ s.now ∧ 1 ≤ s.get (LNK_TIMERS_DOWN_SHORT 71) ∧
    1 ≤ s.get (LNK_TIMERS_DOWN_LONG 71) := by decide
theorem test_meets_training : (lnkOf (link lkTraining fun x => { x with step := 3 }) 71).step = 3 ∧
    (lnkOf (late 500000000 (link lkTraining fun x => { x with fails := 2 })) 71).fails = 2 ∧ lnkSt (link lkFailed id) 71 = lkFailed := by decide
theorem test_meets_wake : let s := late 5000 (link lkSleep fun x => { x with waking := some 0 })
    lnkSt s 71 = lkSleep ∧ s.now ≤ 0 + 5000 ∧ ¬ (late 5001 s).now ≤ 0 + 5000 := by decide
theorem test_meets_idle_tick : let s := (link lkUp id).put CLK_STATUS_ROOT_LOCK 1
    s.pending = [] ∧ counting s = true ∧ pwrSt s ≠ pwEnterSleep ∧ (lnkOf s 71).replay = none := by decide

/-! The switch. -/

/-- A node whose switch routes agent 7 to port 71, which is UP with credits for every class, and agent 8 nowhere. -/
def switch (tx : List Pkt) (inq : List QPkt) : State :=
  let s := regs [(FAB_CFG_ENABLE, 1), (FAB_CFG_HOP_LIMIT, 8), (FAB_SPARE1_SPARE, 0), (LNK_STATUS_STATE 71, lkUp), (credF 71 1, 9),
    (credF 71 4, 9), (credF 71 5, 9)]
    (node .active .software)
  { s with fab := { s.fab with rt := [(7, 2 ^ 63 + 2 ^ 56 + 71)], tx := tx, inq := inq } }
def sent (dst : Nat) : Pkt := { pkt 1 0 8 [] with dst := dst }
def arrived (dst : Nat) (seen : Bool) (since : Option Nat) : QPkt := ⟨sent dst, 71, 0, seen, since, 1, 3⟩
theorem test_meets_own_packet : let s := switch [sent 7, sent 8, sent 0] []
    s.fab.tx[0]? = some (sent 7) ∧ movesNow s (sent 7) = true ∧ behind (sent 8) [sent 7] = false ∧ behind (sent 7) [sent 7] = true ∧
    (sent 7).hops + 1 ≤ s.get FAB_CFG_HOP_LIMIT ∧ s.get FAB_CFG_HOP_LIMIT < { sent 7 with hops := 8 }.hops + 1 ∧
    forUs s (sent 0) = true ∧ forUs s (sent 7) = false ∧ takingGroup s (sent 7) = none ∧
    usablePorts s (rtEntry s 0 7) 1 = [71] ∧ usablePorts s (rtEntry s 0 8) 1 = [] := by decide
theorem test_meets_no_move : movesNow ((switch [sent 7] []).put FAB_CFG_ENABLE 0) (sent 7) = false := by decide
theorem test_meets_arrival : let s := switch [] [arrived 7 true none, arrived 8 false none]
    s.fab.inq[1]? = some (arrived 8 false none) ∧ movesNow s (sent 8) = true ∧ behind (sent 8) [sent 7] = false ∧ takingGroup s (sent 8) = none ∧
    fltExempt (sent 8) = false ∧ (List.range 64).find? (fltMatches s (sent 8)) = none ∧ fltExempt (pkt 0x50 0 0 []) = true ∧
    metered (pkt 0x50 0 0 []) = false ∧ metered (sent 0) = true := by decide
/-- A rule that drops everything, and tenant 5 metered by policer entry 63. -/
theorem test_meets_filter : let s := regs [(FAB_FLT_CTL_ENABLE 63, 1), (FAB_FLT_CTL_ACTION 63, 1)] (switch [] [arrived 8 false none])
    (List.range 64).find? (fltMatches s (sent 8)) = some 63 ∧ s.get (FAB_FLT_CTL_ACTION 63) = 1 ∧ replyOp (sent 8).opcode = some 0x03 := by decide
theorem test_meets_policer : let s := (switch [] [arrived 0 false none]).put (QOS_TMAP_MAP 0) (0xbf * 2 ^ 40)
    let t := { s with qos := { s.qos with police := [(4096 + 63, { Policer.off with algo := 1 })] } }
    tmapOf t 5 = some 63 ∧ (policerOf t (4096 + 63)).algo ≠ 0 ∧ epochGate t (sent 0) = .pass ∧ t.get (POLA_RED_ACT (polBank 4159)) ≠ 1 := by
  decide
/-- A packet with no route, at the end of its wait and one nanosecond before it (R276). -/
theorem test_meets_route_wait : let s := late (1000 * State.reset.get FAB_TIMERS_ROUTE_WAIT_US) (switch [] [arrived 8 true (some 0)])
    s.fab.inq[0]? = some (arrived 8 true (some 0)) ∧ 0 + 1000 * s.get FAB_TIMERS_ROUTE_WAIT_US ≤ s.now ∧
    s.now < 1 + 1000 * s.get FAB_TIMERS_ROUTE_WAIT_US := by decide
theorem test_meets_table_write : let s := regs [(FAB_RT_SEL_TABLE, 1)] (switch [] [])
    s.get FAB_CFG_TX_EPOCH ≠ 1 ∧ epochCount s 1 = 0 ∧ rtStorable s (2 ^ 63 + 2 ^ 56 + 71) = true ∧ rtStorable s (2 ^ 63 + 2 ^ 56 + 72) = false := by
  decide
/-- Packets that wait for port 71: of VC1, of management replies and requests. -/
def waitsAt (l : NMap (List QPkt)) : State :=
  let s := switch [] []
  { s with fab := { s.fab with outq := l } }
def waiter (op cls port : Nat) : QPkt := ⟨{ pkt op cls 8 [] with dst := 7 }, port, 0, true, none, cls, 0⟩
theorem test_meets_port_choice : let s := waitsAt [(8 * 71 + 1, [waiter 1 0 72]), (8 * 71 + 4, [waiter 0x38 4 72]), (8 * 71 + 5, [waiter 0x39 4 72])]
    shut s = false ∧ NMap.find s.dbg.stopped 2 = none ∧ portUp s 71 = true ∧ NMap.find s.fab.sel 71 = none ∧
    ([1, 4, 5].all fun c => (headOf s 71 c).any fun q => portTakes s 71 c q.pkt) = true := by decide
theorem test_meets_data_choice : let s := waitsAt [(8 * 71 + 1, [waiter 1 0 72])]
    headOf s 71 1 = some (waiter 1 0 72) ∧ clsBacklogged s 71 1 = true ∧ ([0, 2, 3].all fun c => !clsBacklogged s 71 c) = true ∧
    headOf s 71 4 = none ∧ headOf s 71 5 = none := by decide
/-- A management request for port 87 that is one ahead, and one held until REORDER_US. -/
theorem test_meets_reorder : let q := waiter 0x38 4 71
    let s := waitsAt [(8 * 87 + 4, [q])]
    let t := { s with fab := { s.fab with expect := [(72, 65535)], incs := [(9, 0)] } }
    domKey q.pkt = 72 ∧ headOf t 87 4 = some q ∧ portTakes t 87 4 q.pkt = true ∧ (q.pkt.psn + 65536 - 65535) % 65536 = 1 ∧
    NMap.find t.fab.incs q.pkt.src = some q.pkt.srcInc := by decide
theorem test_meets_skip : let q : QPkt := ⟨pkt 0x28 2 8 [], 71, 0, true, none, 2, 0⟩
    let s := late (1000 * State.reset.get FAB_TIMERS_REORDER_US) (switch [] [])
    let t := { s with fab := { s.fab with held := [q], expect := [(72, 65534)] } }
    t.fab.held.filter (fun h => domKey h.pkt = 72) = [q] ∧ q.at_ + 1000 * t.get FAB_TIMERS_REORDER_US ≤ t.now ∧ headerBad q.pkt = false ∧
    fabricGate t q.pkt = .pass := by decide

/-! Replies. -/

/-- This node waits for the reply of agent 9 with tag 0. -/
def waitsFor (op cls : Nat) (w : Purpose) (s : State) : State :=
  { s with fab := { s.fab with reqs := [(4096 * 9, ⟨{ pkt op cls 8 [] with dst := 9 }, 0, 0, w⟩)] } }
theorem test_meets_reply : let s := waitsFor 1 0 .mgmt (switch [] [])
    Claims.replyForm Instr.rdData 3 ∧ headerBad (pkt 3 0 0 []) = false ∧ shut s = false ∧ s.fab.waitTag = [] ∧
    NMap.find s.fab.reqs (4096 * 9 + 0) = some ⟨{ pkt 1 0 8 [] with dst := 9 }, 0, 0, .mgmt⟩ ∧ replyOp 1 = some 3 ∧
    NMap.find s.fab.reqs (4096 * 9 + 1) = none ∧ headerBad { pkt 3 0 0 [] with rsvd := 1 } = true :=
  ⟨List.Mem.head _, by decide⟩
theorem test_meets_reply_to_engine : let s := waitsFor 1 0 (.engine 3 0 0) (launched 2 0x0e 0 getByte 0 [(0, .out (request false))])
    reqOf s 3 0 = some (request false) ∧ (request false).kind = .get ∧ statusRead 0 = stOK ∧ statusRead 15 ≠ stOK := by decide
theorem test_meets_reply_to_page : let s := waitsFor 0x20 1 (.place 0 0) (node .active .software)
    let t := { s with ext := { s.ext with table := [] }, plc := { s.plc with map := [(0, ⟨0, .remote, 0, false, false, 3, 0, 0⟩)] } }
    needFetch t 0 = true ∧ extAt t 0 = none ∧ replyOp 0x20 = some 0x22 ∧ (List.replicate 128 (0 : Byte)).length = 128 := by decide +kernel
theorem test_meets_reply_to_tile : let l := live opPush fun l => { l with tiles := [{ tile0 true with due := 1 }], next := 1, ctrDue := 1 }
    let s := worksOn l
    chanOf' s 4095 = some { chan 1 with live := [l] } ∧ liveOf s 4095 0 = some l ∧ replyOp 0x28 = some 0x29 ∧ 0 ≠ ctrTile := by decide
/-- A reply is late from RETRY_US on, and the last try is the RETRY_MAXth. -/
theorem test_meets_retry : let s := late (1000 * State.reset.get FAB_TIMERS_RETRY_US) (switch [] [])
    0 + 1000 * s.get FAB_TIMERS_RETRY_US ≤ s.now ∧ ¬ 1 + 1000 * s.get FAB_TIMERS_RETRY_US ≤ s.now ∧ 0 < s.get FAB_TIMERS_RETRY_MAX ∧
    s.get FAB_TIMERS_RETRY_MAX ≤ 8 := by decide
theorem test_meets_doubt : let s := waitsFor 1 0 .mgmt (switch [] [])
    let p := pkt 0x0e 0 0 []
    headerBad p = false ∧ (s.fab.reqs.find? (fun x => x.2.pkt.tag = p.tag && x.2.pkt.psn = p.psn && x.2.pkt.dst = p.src)).isSome = true := by
  decide
theorem test_meets_refill : let s := late 1000 (State.reset.put QOS_CFG_HIST_EN 1)
    s.qos.shapedAt / 1000 < s.now / 1000 ∧ s.qos.policedAt / 1000 < s.now / 1000 ∧ s.qos.sampledAt / 1000 < s.now / 1000 ∧
    ¬ s.qos.shapedAt / 1000 < (late 999 s).now / 1000 ∧ s.get QOS_CFG_HIST_EN ≠ 0 := by decide
theorem test_meets_histogram : (∀ b, NMap.getD (NMap.getD State.reset.qos.hist 0 []) b 0 < 2 ^ 32) ∧
    bits 0x5fff 14 12 = 5 := ⟨fun _ => Nat.two_pow_pos 32, rfl⟩

/-! Groups. -/

/-- Group 511: REDUCE in FP32, root or not, of contributors 0 and 255, with chunk 0 holding the first. -/
def sums (root : Bool) : Group :=
  { kind := 0, op := 0, fmt := 0, tenant := 5, slots := 64, root := root, rootAgent := 7, parentIndex := 0, engBase := 0, chunkBytes := 128,
    timeout := 10, gatherAgent := 0, gatherAddr := 0, expect := [0, 255] }
def part (i : Nat) : Pkt := { pkt 0x10 3 4 [0, 0, 0, 0] with arg := 511 + i * 2 ^ 32 }
def groups (root : Bool) : State :=
  let s := node .active .software
  { s with fab := { s.fab with groups := [(511, sums root)], chunks := [(64 * 511, ⟨0, [0], [⟨0, part 0⟩], false, 0, false, []⟩)] } }
theorem test_meets_contribution : let s := groups true
    contribGate s (part 255) = .pass ∧ takingGroup s (part 255) = some (sums true) ∧ slotKey (sums true) 511 0 = 64 * 511 ∧
    (part 255).tenant = 5 ∧ ctFmt (part 255) = 0 ∧ contribVals 0 (part 255).payload = [0] ∧ ctIndex (part 255) = 255 ∧
    takingGroup s (part 254) = none ∧ freeTag (groups false) 7 ≠ none := by decide +kernel
theorem test_meets_duplicate : ((NMap.getD (groups true).fab.chunks (64 * 511) ⟨0, [], [], false, 0, false, []⟩).taken.map Taken.index) = [0] ∧
    ctIndex (part 0) = 0 := by decide
theorem test_meets_chunk_timeout : let s := late 10000 (groups true)
    (NMap.getD s.fab.chunks (64 * 511) ⟨0, [], [], false, 1, false, []⟩).began + 1000 * 10 ≤ s.now ∧
    NMap.find s.fab.chunks (64 * 511 + 63) = none := by decide
theorem test_meets_group_command : let s := groups true
    s.get FAB_GRP_CMD_BUSY = 0 ∧ grpBusy s 511 = true ∧ grpBusy s 0 = false ∧ NMap.find s.fab.groups 0 = none ∧
    groupOfRec (recOfGroup 511 (sums true)) = some (sums true) ∧ groupOfRec (recOfGroup 511 { sums true with slots := 65 }) = none := by
  decide +kernel

/-! Control space. -/

theorem test_meets_write : DIR_CFG ∈ Claims.plainRegs ∧ NMap.find State.reset.dbg.stopped 1 = none ∧ (∃ f ∈ DIR_CFG, f = DIR_CFG_ENABLE) ∧
    assigned 0xffff8 = false ∧ assigned 0x100000 = true ∧ awakeBlock 0xffff = false ∧ awakeBlock 0x10000 = true := by decide
/-- A session that has proved itself, and what a full mailbox holds. -/
def talks (admin : Bool) : State :=
  let s := State.reset.put MGT_STATUS_STATE 2
  { s with sec := { s.sec with sess := [(1, ⟨true, none, [], [], 0, admin, 0, 0⟩)] } }
theorem test_meets_session : let s := talks true
    s.get MGT_STATUS_STATE = 2 ∧ (NMap.find s.sec.sess 1).any (fun c => c.up && c.admin) = true ∧
    (NMap.find (talks false).sec.sess 1).any (fun c => c.up && !c.admin) = true ∧ s.mgt.kept = [] := by decide
theorem test_meets_deep : let s := (talks true).put PWR_STATE_STATE 5
    NMap.find { s with dbg := { s.dbg with stopped := [(1, 0)] } }.dbg.stopped 1 ≠ none ∧ awakeBlock 0 = false := by decide
/-- Agent 9 of tenant 5 reads its own window, and another one's. -/
theorem test_meets_control : let s := node .active .software
    let p := { pkt 0x30 0 8 [] with addr := 0x8010000 }
    ctlGate s p = .pass ∧ windowOf p.addr = 1 ∧ (TEN_ID 1).any (fun f => f.off = 0x8010000) = true ∧
    ctlGate s { p with addr := 0x8020000 } = .refuse stPermission ∧ headerBad { p with addr := 0x8020000 } = false ∧
    windowRegs 0x8017ff8 = none ∧ (CHN_TSEL 1).length ≠ 0 := by decide
/-- Node 2's page 0 is lodged in frame 3; the node is the STANDBY of agent 9 or not. -/
def lodges (st : Nat) : State :=
  let s := regs [(MIR_STATUS_STATE, st), (MIR_CFG_PEER_AGENT, 9)] (node .active .software)
  { s with plc := { s.plc with lodgedIn := [(3, ⟨2, 0, 5⟩)] } }
theorem test_meets_placement : let s := lodges 0
    let p := { pkt 0x20 1 8 [] with addr := 2 * 2 ^ 50 + 0x1fff80 }
    placeGate s p = .pass ∧ fromActive s p = false ∧ lodgeFrame s 2 0 = some 3 ∧ lodgeFrame s 2 1 = none ∧ lodgedLost s 3 0 = false ∧
    fromActive (lodges mirStandby) { p with addr := 0 } = true ∧ p.svcEpoch = s.get MIR_STATUS_SVC_EPOCH := by decide
theorem test_meets_management : headerBad (pkt 0x38 4 0 [0xe7, 2]) = false ∧ leNat ((pkt 0x38 4 0 [0xe7, 2]).payload.take 1) = 0xe7 ∧
    leNat (slice [0xe7, 0x14] 1 1) = 0x14 ∧ headerBad { pkt 0x38 4 0 [] with rsvd := 1 } = true := by decide

/-! Tenants and sessions. -/

/-- Tenant 5 stands at slot 1 in a state; the security commands name slot 1, or another. -/
def tenancy (st : TenSt) (slot : Nat) : State :=
  let s := regs [(SEC_CMD0_SLOT, slot), (SEC_CMD0_RACK_TENANT, 6), (SEC_CMD2_EPOCH, 32767)] (node .active .software)
  { s with sec := { s.sec with tenants := [(5, ⟨st, 1, 7, 7⟩)] } }
theorem test_meets_tenant_create : let s := tenancy .live 63
    s.get SEC_CMD_CTL_BUSY = 0 ∧ slotRec s 63 = none ∧ NMap.find s.sec.tenants 6 = none ∧ (s.get SEC_CMD2_EPOCH + 65536 - 0) % 65536 < 32768 ∧
    32768 ≤ ((s.put SEC_CMD2_EPOCH 32768).get SEC_CMD2_EPOCH + 65536 - 0) % 65536 := by decide
theorem test_meets_tenant_command : ([TenSt.keyless, .live, .drained, .fenced, .resetting, .erased].all fun st =>
      slotRec (tenancy st 1) 1 == some (5, ⟨st, 1, 7, 7⟩)) = true ∧ (tenancy .live 1).chn.chans = [] ∧
    (tenancy .live 1).eng.launches = [] ∧ (tenancy .live 1).fab.chunks = [] ∧ slotRec (tenancy .none 1) 1 = none := by decide
theorem test_meets_key : (readable (tenancy .keyless 1) 0 1).isSome = true ∧ readable (tenancy .keyless 1) 0x200000 1 = none := by decide
theorem test_meets_tenant_ends : tenantStopped (tenancy .resetting 1) 5 = true ∧ tenantDrained (tenancy .fenced 1) 5 = false ∧
    (let s := tenancy .fenced 1
     tenantDrained { s with ext := { s.ext with table := [] } } 5 = true) ∧
    NMap.find (tenancy .erased 1).mgt.meters 1 = none := by decide
theorem test_meets_agent_map : let s := regs [(SEC_AGENT_SEL_AGENT, 9)] (node .active .software)
    NMap.find s.sec.agents 9 = some 5 ∧ (NMap.find s.ext.leases 9).isSome = true ∧ mapped s 9 = true ∧ mapped s 10 = false := by decide
/-- A PURGE that waits for node 3, which is lost or not, and a holder of node 2's page. -/
def purging (lost : List Nat) : State :=
  let s := lodges 0
  { s with sec := { s.sec with purges := [(5, ⟨[3], 0, false⟩)] }, plc := { s.plc with lost := lost } }
theorem test_meets_purge : let s := late 1000000 (purging [])
    NMap.find s.sec.purges 5 = some ⟨[3], 0, false⟩ ∧ ([3].filter fun k => !s.plc.lost.contains k) ≠ [] ∧ 0 + 1000000 ≤ s.now ∧
    ([3].filter fun k => !(purging [3]).plc.lost.contains k) = [] ∧ s.sec.purgeDue = [] ∧
    (s.plc.lodgedIn.filter fun l => l.2.owner = 2 && l.2.tenant = 5).map Prod.fst = [3] := by decide
theorem test_meets_fence : let s := tenancy .live 1
    let t := { s with plc := { s.plc with map := [] }, ext := { s.ext with table := [] } }
    t.plc.map = [] ∧ t.plc.moves = [] ∧ t.plc.cmd = .none ∧ t.ext.table = [] := by decide
/-- A package of one member and one byte, at offset 0. -/
def package : List Byte := [1, 0, 1, 0] ++ List.replicate 20 0 ++ [1] ++ List.replicate 87 0
theorem test_meets_package : leNat (package.take 2) = 1 ∧ leNat (slice package 2 2) = 1 ∧ leNat (slice package 0x18 8) = 1 ∧
    package.length = 0x70 ∧ unsealDest ((tenancy .live 1).put SEC_CMD0_EXTENT_ID 1) 5 65536 = some 0 ∧
    unsealDest ((tenancy .live 1).put SEC_CMD0_EXTENT_ID 2) 5 1 = none := by decide +kernel
/-- SPDM requests, outside a session and in session 1. -/
def spdm (n : Option Nat) (code : Nat) : SpdmIn := ⟨some (pkt 0x38 4 0 []), n, [0x12, BitVec.ofNat 8 code]⟩
theorem test_meets_spdm : ([0x84, 0xe1, 0xe3, 0x81, 0x82, 0x83, 0xe0, 0xe9, 0xe4].all fun c => spdmOn (talks true) (spdm none c) c) = true ∧
    ([0xe8, 0xe5, 0xec].all fun c => spdmOn (talks true) (spdm (some 1) c) c) = true ∧ (talks true).sec.sess.length < 8 := by decide
theorem test_meets_eight_sessions : (List.replicate 8 (talks true).sec.sess).flatten.length = 8 := by decide
theorem test_meets_proof : (NMap.find (talks true).sec.sess 1).any (fun c => c.up && c.nonce.isNone && c.fails < 7) = true ∧
    NMap.find (talks true).sec.sess 2 = none := by decide

/-! The mirror pair and ownership. -/

/-- A node of a pair: its peer is agent 8 and the witness agent 9. -/
def pair (st : Nat) (f : MirUnit → MirUnit) : State :=
  let s := regs [(MIR_STATUS_STATE, st), (MIR_CFG_PEER_AGENT, 8), (MIR_CFG_WITNESS_AGENT, 9)] (node .active .software)
  { s with mir := f s.mir }
def tells (msg : Nat) : Pkt := pkt 0x38 4 64 ([0xe7, BitVec.ofNat 8 msg, 0, 0, 0, 0, 0, 0, 1] ++ List.replicate 55 0)
theorem test_meets_renew : let s := late (1000000 * State.reset.get MIR_TIMERS_RENEW_MS) (pair 1 id)
    s.mir.renewAt + 1000000 * s.get MIR_TIMERS_RENEW_MS ≤ s.now ∧ ¬ s.mir.renewAt + 1 + 1000000 * s.get MIR_TIMERS_RENEW_MS ≤ s.now := by decide
theorem test_meets_lease_grant : Claims.hears (tells 2) 2 ∧ (tells 2).src = (pair 2 id).get MIR_CFG_WITNESS_AGENT ∧
    leNat (slice (tells 2).payload 2 1) = stOK ∧ leNat (slice (tells 2).payload 0x10 8) ∈ (pair 2 fun m => { m with renewals := [0] }).mir.renewals :=
  ⟨⟨rfl, by decide, by decide⟩, by decide, by decide, by decide⟩
theorem test_meets_self_fence : let s := late (1000000 * State.reset.get MIR_TIMERS_FENCE_MS) (pair 2 id)
    s.get MIR_LEASE_ANCHOR + 1000000 * s.get MIR_TIMERS_FENCE_MS ≤ s.now ∧ s.now < 1 + 1000000 * s.get MIR_TIMERS_FENCE_MS := by decide
def held : Held := ⟨0, 8, 1, 0, .reply (pkt 4 0 0 []) 0⟩
theorem test_meets_drain_end : let s := late 1000000 (pair 5 fun m => { m with fencedAt := some 0, held := [(0, held)] })
    s.mir.fencedAt = some 0 ∧ 0 + 1000000 ≤ s.now ∧ (late 999999 s).now < 0 + 1000000 ∧ s.err.waitDup = [] := by decide
theorem test_meets_solo : let s := late (100000 * State.reset.get MIR_TIMERS_MIRROR_TMO_100US) (pair 1 fun m => { m with held := [(0, held)] })
    s.mir.soloAsked = false ∧ 0 + 100000 * s.get MIR_TIMERS_MIRROR_TMO_100US ≤ s.now ∧ s.get MIR_STATUS_SVC_EPOCH = 0 ∧
    leNat (slice (tells 6).payload 8 4) = 1 ∧ (pair 1 fun m => { m with soloAsked := true }).mir.soloAsked = true := by decide +kernel
theorem test_meets_form : let s := pair 0 id
    s.get MIR_CMD_BUSY = 0 ∧ s.get MIR_STATUS_STATE = 0 ∧ (s.ext.table.all fun x => !x.2.mirrored) = true ∧
    (pair 0 fun m => { m with forming := 1 }).mir.forming = 1 := by decide
theorem test_meets_break : let s := pair 1 id
    s.get MIR_CMD_BUSY = 0 ∧ s.mir.cipher = [] ∧ s.mir.held = [] ∧ (s.put MIR_STATUS_COH_RECOVER 1).get MIR_STATUS_COH_RECOVER ≠ 0 := by decide
theorem test_meets_beats : Claims.hears (tells 7) 7 ∧ Claims.hears (tells 8) 8 ∧ leNat (slice (tells 7).payload 2 1) ≠ stEpoch ∧
    { tells 8 with src := 8 }.src = (pair 3 id).get MIR_CFG_PEER_AGENT :=
  ⟨⟨rfl, by decide, by decide⟩, ⟨rfl, by decide, by decide⟩, by decide, by decide⟩
theorem test_meets_timers : let s := late 100000000000 (pair 3 id)
    s.mir.beatAt + 100000 * s.get MIR_TIMERS_HB_100US ≤ s.now ∧ s.mir.peerSeen + 1000000 * s.get MIR_TIMERS_DETECT_MS ≤ s.now ∧
    s.mir.denied = false ∧ s.mir.takeAt + 1000000 ≤ s.now := by decide
theorem test_meets_takeover : Claims.hears (tells 4) 4 ∧ (tells 4).src = (pair 5 id).get MIR_CFG_WITNESS_AGENT ∧
    leNat (slice (tells 4).payload 8 4) = ((pair 5 id).get MIR_STATUS_SVC_EPOCH + 1) % 2 ^ 32 ∧ (pair 5 id).mir.cipher = [] :=
  ⟨⟨rfl, by decide, by decide⟩, by decide, by decide, by decide⟩
/-- The pair with extent 1 mirrored and a resync at its last line, or past it. -/
def copies (pos : Nat) : State :=
  let s := pair 1 fun m => { m with copyPos := some pos }
  { s with ext := { s.ext with table := [(1, { extent .active .software with mirrored := true })] } }
theorem test_meets_resync : nextMirLine (copies 16383) 16383 = some 16383 ∧ nextMirLine (copies 16384) 16384 = none ∧
    lineBusy (copies 0) 16383 = false ∧ freeTag (copies 0) 8 = some 0 ∧ (extAt (copies 0) (128 * 16383)).isSome = true := by decide +kernel
theorem test_meets_compare : let s := (pair 1 fun m => { m with synced := true, cmpNext := [0, 1] }).put MIR_TIMERS_COMPARE_GBPS 1
    s.get MIR_TIMERS_COMPARE_GBPS ≠ 0 ∧ s.mir.synced = true ∧ s.mir.cmpNext = [0, 1] := by decide

/-- Slot 16,383 is bound to state 7, whose home is agent 9, and holds its token or not; its request is unanswered since time 0. -/
def slot (hold : Bool) : OwnSlot := ⟨7, 1, 0, 1, 0, 0x200000, 9, 0, hold, false⟩
def owns (hold : Bool) : State := (pair 0 fun m => { m with
  slots := [(16383, slot hold)]
  msgs := [(16383, ⟨.query, 0, [], some 0⟩)]
  recs := [(7, ⟨7, 9, 0, 1, true, 1000000⟩)] }).put MIR_OWN_SEL_SLOT 16383
theorem test_meets_bind : let m := (owns true).mir
    let s := { owns true with mir := { m with staged := [(4 * 16383 + 1, 2 ^ 32), (4 * 16383 + 2, 2 ^ 32)], slots := [] } }
    s.get MIR_CMD_BUSY = 0 ∧ NMap.find s.mir.slots 16383 = none ∧ bits (NMap.getD s.mir.staged (4 * 16383 + 1) 0) 63 32 = 1 ∧
    bits (NMap.getD s.mir.staged (4 * 16383 + 2) 0) 50 32 = 1 := by decide
theorem test_meets_slot : NMap.find (owns true).mir.slots ((owns true).get MIR_OWN_SEL_SLOT) = some (slot true) ∧
    NMap.find (owns false).mir.slots 16383 = some (slot false) ∧ rangeDrained (owns true) (slot true) ⟨.transfer, 0, [], none⟩ = true ∧
    slotOfState (owns true) 7 = some (16383, slot true) ∧ slotOfState (owns true) 8 = none := by decide
theorem test_meets_own_resend : (NMap.find (owns true).mir.msgs 16383) = some ⟨.query, 0, [], some 0⟩ ∧ 0 + 1000000 ≤ (late 1000000 (owns true)).now ∧
    ¬ 0 + 1000000 ≤ (late 999999 (owns true)).now := by decide
def owner (msg : Nat) : Pkt := pkt 0x38 4 64 ([0xe7, BitVec.ofNat 8 msg] ++ List.replicate 30 0 ++ [7] ++ List.replicate 31 0)
theorem test_meets_own_message : (∀ m ∈ [0x10, 0x11, 0x12, 0x13, 0x14], Claims.hears (owner m) m) ∧ leNat (slice (owner 0x10).payload 0x20 8) = 7 ∧
    (owner 0x13).src = (slot true).home ∧ NMap.find (owns true).mir.recs 7 = some ⟨7, 9, 0, 1, true, 1000000⟩ ∧
    NMap.find (owns true).mir.recs 8 = none := ⟨fun m h => by revert m; unfold Claims.hears; decide, by decide +kernel, rfl, by decide, by decide⟩
theorem test_meets_handoff : 1000000 ≤ (late 1000000 (owns true)).now ∧ ¬ 1000000 ≤ (late 999999 (owns true)).now := by decide

/-! Errors, trace and snapshots. -/

theorem test_meets_recovery : let s := { State.reset with err := { State.reset.err with openRecs := [⟨5, 71, 3⟩] } }
    (s.err.openRecs.all fun r => !(r.unitType == 5 && r.unitIndex == 70)) = true ∧ s.err.openRecs = [⟨5, 71, 3⟩] ∧ s.err.postLeft = none := by decide
theorem test_meets_freeze : State.reset.get ERR_MOR_STATUS_FROZEN = 0 ∧ State.reset.err.postLeft = none ∧ State.reset.get ERR_CFG_MOR_POST ≠ 0 ∧
    (State.reset.put ERR_CFG_MOR_POST 0).get ERR_CFG_MOR_POST = 0 ∧
    ({ State.reset with err := { State.reset.err with postLeft := some 0 } } : State).err.postLeft = some 0 := by decide
theorem test_meets_stop : (State.reset.put ERR_STATUS_DEVICE_FATAL 1).get ERR_STATUS_DEVICE_FATAL ≠ 0 ∧ State.reset.err.stopStep = 0 ∧
    State.reset.get ERR_STATUS_DEVICE_FATAL = 0 := by decide
/-- Source 1, 0 has a record; the trace buffer is extent 1, of 1 MiB, in this mode and state. -/
def fault : TraceRec := ⟨0, 12, 1, 0, none, 0, 0⟩
def traced (mode st : Nat) : State :=
  let s := regs [(DBG_TCFG_MODE, mode), (DBG_TRIG_STATUS_STATE, st), (DBG_TBUF_SIZE_MIB, 1), (DBG_TBUF_EXTENT_ID, 1), (DBG_TWIN_PRE, 1)]
    (node .active .software)
  { s with dbg := { s.dbg with srcs := [(unitKey 1 0, ⟨[fault], 0, 0⟩)], postLeft := 2 } }
theorem test_meets_trace : let s := traced 1 1
    NMap.find s.dbg.srcs (unitKey 1 0) = some ⟨[fault], 0, 0⟩ ∧ shut s = false ∧ 12 ≤ fault.type ∧
    NMap.find s.ext.table (s.get DBG_TBUF_EXTENT_ID) = some (extent .active .software) ∧ 1 ≤ 32768 * s.get DBG_TBUF_SIZE_MIB ∧
    (s.ext.table.all fun e => !e.2.mirrored) = true ∧ (linesOf 0 32).all (fun l => (frameAt s (128 * l)).tier ≠ .remote) = true ∧
    ((List.range 4).all fun k => !triggerHits s fault k) = true ∧
    triggerHits (regs [(DBG_TRIG_CTL_ENABLE 3, 1), (DBG_TRIG_CTL_UNIT_TYPE 3, 0xff)] s) fault 3 = true := by decide
/-- A stop-mode buffer at its end and one record before it (R372). -/
theorem test_meets_full_buffer : let s := (traced 2 0).put DBG_TPOS_WRITTEN 32768
    32768 * s.get DBG_TBUF_SIZE_MIB ≤ s.get DBG_TPOS_WRITTEN ∧
    ¬ 32768 * s.get DBG_TBUF_SIZE_MIB ≤ (s.put DBG_TPOS_WRITTEN 32767).get DBG_TPOS_WRITTEN := by
  decide
theorem test_meets_arming : let s := (traced 1 0).put DBG_TPOS_WRITTEN 1
    s.get DBG_TWIN_PRE ≤ s.get DBG_TPOS_WRITTEN ∧ s.get DBG_TRIG_STATUS_STATE = 0 ∧
    ¬ s.get DBG_TWIN_PRE ≤ (traced 1 0).get DBG_TPOS_WRITTEN := by decide
theorem test_meets_frozen : let s := traced 1 2
    ({ s with dbg := { s.dbg with postLeft := 0 } } : State).dbg.postLeft = 0 ∧ s.get DBG_TRIG_STATUS_STATE = 2 := by decide
theorem test_meets_drops : let s := traced 1 0
    NMap.find { s with dbg := { s.dbg with srcs := [(unitKey 1 0, ⟨[], 3, 7⟩)] } }.dbg.srcs (unitKey 1 0) = some ⟨[], 3, 7⟩ := by decide
theorem test_meets_stream : let s := regs [(DBG_TPOS_WRITTEN, 45), (MGT_ETH_LINK_UP, 1)] (traced 3 0)
    min 44 (s.get DBG_TPOS_WRITTEN - s.dbg.streamed) = 44 ∧ s.get MGT_ETH_LINK_UP ≠ 0 := by decide
theorem test_meets_snapshot : let s := (node .active .software).put DBG_SNAP_CTL_EXTENT_ID 1
    s.get DBG_SNAP_STATUS_BUSY = 0 ∧ s.get DBG_SNAP_CTL_DEST ≠ 1 ∧ ((NMap.find s.ext.table 1).any fun y => decide (y.length < 2)) = true ∧
    (s.put DBG_SNAP_CTL_DEST 1).get DBG_SNAP_CTL_DEST = 1 := by decide
theorem test_meets_snapshot_done : let s := (node .active .software).put DBG_SNAP_STATUS_BUSY 1
    let t := { s with dbg := { s.dbg with snapTo := some 0 } }
    t.get DBG_SNAP_STATUS_BUSY ≠ 0 ∧ extAt t 0 = some (1, extent .active .software) ∧ s.dbg.snapTo = none := by decide
theorem test_meets_counter_copy : slotRec (tenancy .live 1) 1 = some (5, ⟨.live, 1, 7, 7⟩) ∧ slotRec (tenancy .live 1) 63 = none := by decide

/-! Clocks and power. -/

/-- Both inputs are good, input 0 is active, rack time is valid and the root PLL has locked. -/
def runs : State := regs [(CLK_STATUS_A_GOOD, 1), (CLK_STATUS_B_GOOD, 1), (CLK_STATUS_ROOT_LOCK, 1), (CLK_STATUS_RACK_VALID, 1), (CLK_RACK_TIME, 1000)]
  State.reset
/-- Differences of 2 ns and of 3 ns from the counter, and of 20 and 21 ns between the inputs (R384). -/
theorem test_meets_code : let c : TimeCode := ⟨0, 1, 1003, true, 0⟩
    c.crcOk = true ∧ c.type = 1 ∧ runs.get CLK_STATUS_ROOT_LOCK ≠ 0 ∧ c.input = runs.get CLK_STATUS_ACTIVE ∧ runs.get (CLK_TREF_DELAY_NS 0) = 0 ∧
    runs.now = 1000 ∧ 2 < ((1003 : Int) - runs.now).natAbs ∧ ¬ 2 < ((1002 : Int) - runs.now).natAbs ∧ NMap.find runs.clk.diff 1 = none ∧
    20 < (toInt 64 21 - toInt 64 0).natAbs ∧ ¬ 20 < (toInt 64 20 - toInt 64 0).natAbs := by decide
theorem test_meets_third_mismatch : ((∀ x ∈ [3, 5, 4], ∀ y ∈ [3, 5, 4], (toInt 64 x - toInt 64 y).natAbs ≤ 2) ∧
    ¬ ∀ x ∈ [3, 6, 4], ∀ y ∈ [3, 6, 4], (toInt 64 x - toInt 64 y).natAbs ≤ 2) ∧ (0 : Int) < 4 := by decide
theorem test_meets_loss : runs.get CLK_STATUS_A_GOOD ≠ 0 ∧ runs.get CLK_STATUS_ACTIVE = 0 ∧ (runs.put CLK_STATUS_B_GOOD 0).get CLK_STATUS_B_GOOD = 0 ∧
    (runs.put ERR_CFG_CORR_MERGE_US 0).get ERR_CFG_CORR_MERGE_US = 0 ∧ runs.chn.chans = [] := by decide
theorem test_meets_return : let s := late 1000000000 (regs [(CLK_STATUS_A_GOOD, 0), (CLK_STATUS_ACTIVE, 1), (CLK_CTL_REVERT, 1)] runs)
    let t := { s with clk := { s.clk with goodFrom := [(0, 0)] } }
    0 + 1000000 ≤ t.now ∧ t.clk.bothLost = none ∧ t.get CLK_CTL_PREF = 0 ∧ t.get CLK_CTL_REVERT ≠ 0 ∧ 0 + 1000000000 ≤ t.now := by decide
/-- Both inputs were lost 1 ms ago; then the frost group has stopped. -/
def lost (stopped : Bool) : State :=
  let s := late 1000000 runs
  { s with clk := { s.clk with bothLost := some 0, stopped := stopped }, dbg := { s.dbg with stopped := if stopped then [(4, 0)] else [] } }
theorem test_meets_frost : (lost false).clk.bothLost = some 0 ∧ 0 + 1000000 ≤ (lost false).now ∧ NMap.find (lost false).dbg.stopped 4 = none ∧
    memQuiet { lost false with dir := { (lost false).dir with accs := [] } } = true := by decide +kernel
theorem test_meets_restart : let s := regs [(RST_STATUS_PHASE, 5)] (lost true)
    s.clk.latched = none ∧ NMap.wf s.ext.leases = true ∧ NMap.find s.dbg.stopped 4 ≠ none ∧
    ((List.range 72).all fun p => s.get (LNK_CTL_ENABLE p) = 0) = true ∧ s.get MIR_STATUS_STATE = 0 := by decide
theorem test_meets_pll : let s := { runs with clk := { runs.clk with pll := [256 * 3 + 71, 1024] } }
    256 * 3 + 71 % 256 ∈ s.clk.pll ∧ hasPort s 71 = true ∧ 1024 ∈ s.clk.pll ∧ 256 * 4 ∉ runs.clk.pll ∧ s.clk.stopped = false := by decide
theorem test_meets_engine_clock : State.reset.get CLK_CMD_BUSY = 0 ∧
    ((List.range 256).all fun e => State.reset.get (ENG_STATUS_STATE e) = 0) = true ∧ NMap.find State.reset.dbg.stopped 0 = none ∧
    ¬ ((State.reset.put (ENG_STATUS_STATE 255) 2).get (ENG_STATUS_STATE 255) = 0) := by decide +kernel
theorem test_meets_power : let s := (link lkUp id).put (LNK_CTL_SLEEP_EN 71) 1
    s.get PWR_CMD_BUSY = 0 ∧ s.get PWR_STATE_STATE = 0 ∧ s.get MIR_STATUS_STATE = 0 ∧ s.get (LNK_TXSTATE_OUTSTANDING 71) = 0 ∧
    (lnkOf s 71).sleepSent = false ∧ (s.put (LNK_CTL_SLEEP_EN 71) 0).get (LNK_CTL_SLEEP_EN 71) = 0 := by decide
theorem test_meets_wake_event : (State.reset.put PWR_WAKE_EN_LANE 1).get PWR_WAKE_EN_LANE ≠ 0 ∧ State.reset.clk.stopped = false ∧
    (State.reset.put PWR_STATE_STATE 4).get PWR_STATE_STATE = 4 := by decide
theorem test_meets_entry : let s := late (1000 * State.reset.get PWR_CFG_QUIET_US) (State.reset.put PWR_STATE_STATE 3)
    quiescent s = true ∧ s.clk.quietFrom + 1000 * s.get PWR_CFG_QUIET_US ≤ s.now ∧ ¬ s.clk.quietFrom + 1 + 1000 * s.get PWR_CFG_QUIET_US ≤ s.now := by
  decide +kernel
theorem test_meets_wake_done : let s := State.reset.put PWR_STATE_STATE 5
    s.get PWR_STATE_STATE = 5 ∧ s.mgt.waits = [] ∧ NMap.find s.dbg.stopped 1 = none := by decide

/-! Resets, start-up and the management complex. -/

theorem test_meets_start_up : let s := State.reset
    s.clk.pinLow = false ∧ shut s = false ∧ s.brd.pwrGood = true ∧ s.get RST_STATUS_PHASE = 0 ∧ s.clk.hot = false ∧ s.get RST_STATUS_LAST_KIND = 1 ∧
    s.get ERR_MOR_STATUS_BOOTS = 0 ∧ s.plc.map = [] ∧ s.mch.dimm = [] ∧ s.clk.stopped = false := by decide
theorem test_meets_phases : ([0, 1, 2, 3, 4, 5].all fun p => (State.reset.put RST_STATUS_PHASE p).get RST_STATUS_PHASE = p) = true ∧
    (runs.get CLK_STATUS_A_GOOD ≠ 0 ∧ runs.get CLK_STATUS_ROOT_LOCK ≠ 0 ∧ runs.get CLK_STATUS_RACK_VALID ≠ 0) := by decide
/-- A DIMM that Table 4.2 lists, and one faster than 2 DIMMs per channel allow (R77). -/
def dimmAt (speed : Nat) : Dimm := ⟨true, 4, 2, 137438953472, 32, 1, speed, 410⟩
theorem test_meets_dimms : chanListed [dimmAt 64] = true ∧ allAlike [dimmAt 64] = true ∧ chanListed [dimmAt 72] = false ∧
    bit State.reset.dev.part.iodSites (23 / 4) = true := by decide
theorem test_meets_reset_due : ({ State.reset with err := { State.reset.err with resetDue := some 0 } } : State).err.resetDue = some 0 ∧
    0 ≤ State.reset.now ∧ State.reset.now < 1 := by decide
theorem test_meets_latched_reset : ({ lost true with clk := { (lost true).clk with latched := some 4 } } : State).clk.latched = some 4 ∧
    (lost true).get RST_STATUS_PHASE < 5 := by decide
/-- The complex at a step of its boot, with a fetch of its image. -/
def boots (st step : Nat) : State :=
  let s := regs [(MGT_STATUS_STATE, st), (MGT_ETH_LINK_UP, 1)] (late 10000000 State.reset)
  { s with mgt := { s.mgt with step := step, fetch := some ⟨[0], some 3, 0, 2⟩ } }
theorem test_meets_watchdog_time : let s := late (1000000 * State.reset.get MGT_WDOG_TIMEOUT_MS) (boots 2 0)
    s.get MGT_WDOG_TIMEOUT_MS ≠ 0 ∧ s.mgt.kicked + 1000000 * s.get MGT_WDOG_TIMEOUT_MS ≤ s.now ∧
    ¬ s.mgt.kicked + 1000000 * s.get MGT_WDOG_TIMEOUT_MS ≤ (late (s.now - 1) s).now := by decide
theorem test_meets_boot_ok : let s := boots 3 3
    let t := { s with dbg := { s.dbg with stopped := [(3, 0)] } }
    t.mgt.step = 3 ∧ NMap.find t.dbg.stopped 3 ≠ none ∧ t.err.openRecs = [] ∧ t.clk.memHeld = false ∧ t.mgt.next = none ∧
    s.get MGT_STATUS_STATE = 3 := by decide
theorem test_meets_boot_limit : let s := late (1000000 * State.reset.get MGT_FW_BOOT_LIMIT_MS) (boots 1 3)
    s.mgt.started + 1000000 * s.get MGT_FW_BOOT_LIMIT_MS ≤ s.now ∧ s.mgt.refetched = false := by decide
theorem test_meets_fetch : let s := boots 1 2
    s.mgt.fetch = some ⟨[0], some 3, 0, 2⟩ ∧ 0 + 10000000 ≤ s.now ∧ (late 9999999 s).now < 0 + 10000000 ∧ s.get MGT_ETH_LINK_UP ≠ 0 ∧
    (([0] ++ [1] : List Byte).take 3).length < 3 ∧ 3 ≤ (([0] ++ [1, 2] : List Byte).take 3).length := by decide
theorem test_meets_update : let s := (node .active .software).put MGT_STATUS_STATE 2
    s.get MGT_UPD_STATUS_PENDING = 0 ∧ NMap.find s.ext.table (s.get MGT_UPD0_EXTENT_ID) = none ∧ updImage s = none := by decide
theorem test_meets_unit_image : let s := { State.reset with mgt := { State.reset.mgt with next := some (4, ⟨1, []⟩), units := [23] } }
    s.mgt.next = some (4, ⟨1, []⟩) ∧ 23 ∈ s.mgt.units ∧ 22 ∉ s.mgt.units ∧ s.mgt.loadEnd ≤ s.now := by decide

/-! Management messages, metering and the board. -/

theorem test_meets_owner : let s := boots 2 3
    s.get GLB_ADMIN_CTL_LOCK = 0 ∧ s.mgt.step = 3 ∧ s.mgt.asked = none ∧ ([1, 0] ++ List.replicate 62 (0 : Byte)).length = 64 ∧
    leNat (([1, 0] ++ List.replicate 62 (0 : Byte)).take 2) = 1 := by decide +kernel
theorem test_meets_notify : let s := regs [(MGT_CFG_NOTIFY_EN, 1), (MGT_NOTIFY_PENDING, 2 ^ 16)] State.reset
    s.get MGT_CFG_NOTIFY_EN ≠ 0 ∧ bit (s.get MGT_NOTIFY_PENDING) 16 = true ∧ bit s.mgt.told 16 = false ∧ s.mgt.toldAt = none ∧
    s.get MGT_NOTIFY_PENDING < 2 ^ 17 := by decide
theorem test_meets_resend : let s := late (1000000 * State.reset.get MGT_CFG_RESEND_MS) (regs [(MGT_CFG_NOTIFY_EN, 1), (MGT_NOTIFY_PENDING, 1)] State.reset)
    0 + 1000000 * s.get MGT_CFG_RESEND_MS ≤ s.now ∧ s.get MGT_NOTIFY_PENDING ≠ 0 := by decide
/-- The sideband reaches the node by I3C; by neither bus; and falls back to SMBus 100 ms after power good. -/
theorem test_meets_sideband : let s := { State.reset with mgt := { State.reset.mgt with i3c := some 8 } }
    s.brd.pwrGood = true ∧ s.mgt.i3c.isSome = true ∧ assigned 0x40000 = false ∧ (s.put PWR_WAKE_EN_SIDEBAND 1).get PWR_WAKE_EN_SIDEBAND ≠ 0 ∧
    State.reset.mgt.i3c = none ∧ State.reset.mgt.smbus = false ∧ State.reset.brd.goodAt + 100000000 ≤ (late 100000000 State.reset).now := by decide
theorem test_meets_user_offset : let s := State.reset.put MGT_CAL_SEL_ID 0x33f
    0x300 ≤ s.get MGT_CAL_SEL_ID ∧ s.get MGT_CAL_SEL_ID < 0x340 ∧ (toInt 16 16).natAbs ≤ 16 ∧ ¬ (toInt 16 17).natAbs ≤ 16 ∧
    (toInt 16 0xfff0).natAbs ≤ 16 := by decide
def meter : Meter := ⟨0, 0, 0, 0, 0, 0, false⟩
def metered (st : Nat) : State :=
  let s := regs [(MGT_STATUS_STATE, st), (MGT_CFG_REPORT_EN, 1), (MGT_CFG_REPORT_S, 1)] (late 1000000000 (tenancy .live 1))
  { s with mgt := { s.mgt with meters := [(1, meter)] } }
theorem test_meets_meter : let s := metered 2
    slotRec s 1 = some (5, ⟨.live, 1, 7, 7⟩) ∧ NMap.find s.mgt.meters 1 = some meter ∧ s.mgt.due = [] ∧
    s.mgt.reported < s.now / (1000000000 * s.get MGT_CFG_REPORT_S) * (1000000000 * s.get MGT_CFG_REPORT_S) ∧ meter.start ≤ s.now := by decide
theorem test_meets_governor : State.reset.brd.power = [] ∧ State.reset.brd.temps = [] ∧ State.reset.brd.pwrGood = true ∧
    (List.replicate 64 (0 : Int)).length = 64 := by decide
theorem test_meets_trip : let s := { late 1000000 State.reset with brd := { State.reset.brd with tripFrom := some 0 } }
    s.get ERR_STATUS_DEVICE_FATAL = 0 ∧ s.brd.tripFrom = some 0 ∧ 0 + 1000000 ≤ s.now := by decide
theorem test_meets_empty_site : (bit Part.hld0802.iodSites 0, bit State.reset.dev.part.iodSites 5) = (true, true) ∧
    (State.reset.put (MEMD_STATUS_STATE 23) 5).get (MEMD_STATUS_STATE 23) = 5 := by decide

/-! The machine. -/

theorem test_meets_front : ({ State.reset with pending := [.extQuery, .fenceDone] } : State).pending = .extQuery :: [.fenceDone] := rfl
theorem test_front_command_runs : step { State.reset with pending := [.extQuery, .fenceDone] } = exec .extQuery { State.reset with pending :=
  [.fenceDone] } := rfl
theorem test_every_command_answers_one : ∃ t, exec .fenceDone State.reset = .next t := ⟨_, rfl⟩
theorem test_meets_busy : (State.reset.put CHN_CMD_BUSY 1).flag CHN_CMD_BUSY = true ∧
    (State.reset.put (MEMD_CMD_BUSY 23) 1).flag (MEMD_CMD_BUSY 23) = true ∧
    (State.reset.put PWR_CMD_BUSY 1).flag PWR_CMD_BUSY = true := by decide
theorem test_meets_lock : (State.reset.put GLB_ADMIN_CTL_LOCK 1).get GLB_ADMIN_CTL_LOCK ≠ 0 ∧ State.reset.get GLB_ADMIN_CTL_LOCK = 0 := by decide
theorem test_meets_epoch_step : let s := tenancy .none 63
    let t := { s with sec := { s.sec with tenants := [(6, ⟨.none, 0, 7, 7⟩)] } }
    t.get SEC_CMD_CTL_BUSY = 0 ∧ slotRec t (t.get SEC_CMD0_SLOT) = none ∧ (t.get SEC_CMD2_EPOCH + 65536 - 7) % 65536 ≤ 32767 := by decide
theorem test_meets_header : (pkt 255 7 2047 []).opcode < 256 ∧ (pkt 255 7 2047 []).len < 2048 ∧ (pkt 255 7 2047 []).rsvd = 0 := by decide
theorem test_meets_canonical : Canonical State.reset := ⟨by decide, by decide⟩

end Sys2Proof.Tests
end

section
/-! SUPPORT. QOS_HIST_SEL_WRITE (R309) in three parts, each with its rules: the selection, the copy of the selected
histogram into QOS_HIST_DATA, and the zeroing. Then the statement about the whole write. -/

namespace Sys2Proof.Machine

open Reg

/-! The selection. -/

/-- The state with the selector's fields as the written word has them; a CLASS above 5 leaves CLASS as it was. -/
def selectHist (x : Nat) (s : State) : State :=
  let s := s.put QOS_HIST_SEL_KIND (bits x 17 16)
  let s := if bits x 14 12 ≤ 5 then s.put QOS_HIST_SEL_CLASS (bits x 14 12) else s
  s.put QOS_HIST_SEL_INDEX (bits x 11 0)

/-- The key of the histogram that the selector's fields name (Table 15.2). -/
def selectedHist (s : State) : Nat :=
  let kind := s.get QOS_HIST_SEL_KIND
  let i := s.get QOS_HIST_SEL_INDEX
  65536 * kind + (if kind < 2 then i else 8 * i + s.get QOS_HIST_SEL_CLASS)

/-- Bits that fill a field are held by it whole. -/
theorem bits_mod_width (x hi lo : Nat) {f : Fld} (h : f.width = hi - lo + 1) : bits x hi lo % 2 ^ f.width = bits x hi lo := by
  rw [h]; exact Nat.mod_mod _ _

@[simp] theorem selectHist_qos (x : Nat) (s : State) : (selectHist x s).qos = s.qos := by
  unfold selectHist; dsimp only; split <;> rfl

theorem selectHist_kind (x : Nat) (s : State) : (selectHist x s).get QOS_HIST_SEL_KIND = bits x 17 16 := by
  have kept : QOS_HIST_SEL_KIND.key ≠ QOS_HIST_SEL_CLASS.key := by decide
  unfold selectHist; dsimp only
  rw [State.get_put_ne _ _ (by decide)]
  split
  · rw [State.get_put_ne _ _ kept, State.get_put_self, bits_mod_width _ _ _ rfl]
  · rw [State.get_put_self, bits_mod_width _ _ _ rfl]

theorem selectHist_class (x : Nat) (s : State) : (selectHist x s).get QOS_HIST_SEL_CLASS =
    if bits x 14 12 ≤ 5 then bits x 14 12 else s.get QOS_HIST_SEL_CLASS := by
  unfold selectHist; dsimp only
  rw [State.get_put_ne _ _ (by decide)]
  split
  · rw [State.get_put_self, bits_mod_width _ _ _ rfl]
  · rw [State.get_put_ne _ _ (by decide)]

theorem selectHist_index (x : Nat) (s : State) : (selectHist x s).get QOS_HIST_SEL_INDEX = bits x 11 0 := by
  unfold selectHist; dsimp only
  rw [State.get_put_self, bits_mod_width _ _ _ rfl]

theorem selectedHist_selectHist (x : Nat) (s : State) : selectedHist (selectHist x s) = 65536 * bits x 17 16 +
    (if bits x 17 16 < 2 then bits x 11 0
      else 8 * bits x 11 0 + if bits x 14 12 ≤ 5 then bits x 14 12 else s.get QOS_HIST_SEL_CLASS) := by
  unfold selectedHist
  rw [selectHist_kind, selectHist_class, selectHist_index]

/-! The copy. -/

/-- The state with bins 2n and 2n + 1 of a histogram in QOS_HIST_DATA n. -/
def copyBins (h : NMap Nat) (s : State) (n : Nat) : State :=
  (s.put (QOS_HIST_DATA_BIN_LO n) (NMap.getD h (2 * n) 0)).put (QOS_HIST_DATA_BIN_HI n) (NMap.getD h (2 * n + 1) 0)

@[simp] theorem copyBins_qos (h : NMap Nat) (s : State) (n : Nat) : (copyBins h s n).qos = s.qos := rfl

theorem dataLo_lt (n : Nat) : (QOS_HIST_DATA_BIN_LO n).lo < 64 := Nat.zero_lt_succ 63

theorem dataHi_lt (n : Nat) : (QOS_HIST_DATA_BIN_HI n).lo < 64 := (by decide : 32 < 64)

/-- A copied bin of 32 bits reads as it stands in the histogram. -/
theorem copyBins_self {h : NMap Nat} (hb : ∀ b, NMap.getD h b 0 < 2 ^ 32) (s : State) (n : Nat) :
    (copyBins h s n).get (QOS_HIST_DATA_BIN_LO n) = NMap.getD h (2 * n) 0 ∧
    (copyBins h s n).get (QOS_HIST_DATA_BIN_HI n) = NMap.getD h (2 * n + 1) 0 := by
  have apart : (QOS_HIST_DATA_BIN_LO n).key ≠ (QOS_HIST_DATA_BIN_HI n).key := by
    simp only [Fld.key, QOS_HIST_DATA_BIN_LO, QOS_HIST_DATA_BIN_HI]; omega
  unfold copyBins
  rw [State.get_put_self, State.get_put_ne _ _ apart, State.get_put_self]
  exact ⟨Nat.mod_eq_of_lt (hb _), Nat.mod_eq_of_lt (hb _)⟩

/-- The copy into one data register leaves the others. -/
theorem copyBins_ne (h : NMap Nat) (s : State) {n m : Nat} (hne : m ≠ n) :
    (copyBins h s n).get (QOS_HIST_DATA_BIN_LO m) = s.get (QOS_HIST_DATA_BIN_LO m) ∧
    (copyBins h s n).get (QOS_HIST_DATA_BIN_HI m) = s.get (QOS_HIST_DATA_BIN_HI m) := by
  have off : 0xa000b0 + 8 * m ≠ 0xa000b0 + 8 * n := by omega
  have kept : ∀ g : Fld, g.lo < 64 → g.off = 0xa000b0 + 8 * m → (copyBins h s n).get g = s.get g := fun g hg e => by
    unfold copyBins
    rw [State.get_put_off _ _ hg (dataHi_lt n) (e ▸ off), State.get_put_off _ _ hg (dataLo_lt n) (e ▸ off)]
  exact ⟨kept _ (dataLo_lt m) rfl, kept _ (dataHi_lt m) rfl⟩

theorem foldl_copyBins_qos (h : NMap Nat) (l : List Nat) (s : State) : (l.foldl (copyBins h) s).qos = s.qos := by
  induction l generalizing s with
  | nil => rfl
  | cons n l ih => rw [List.foldl_cons, ih, copyBins_qos]

/-- Once the first `k` data registers are copied, each of them shows its two bins. -/
theorem foldl_copyBins_get {h : NMap Nat} (hb : ∀ b, NMap.getD h b 0 < 2 ^ 32) (s : State) (k : Nat) : ∀ n < k,
    ((List.range k).foldl (copyBins h) s).get (QOS_HIST_DATA_BIN_LO n) = NMap.getD h (2 * n) 0 ∧
    ((List.range k).foldl (copyBins h) s).get (QOS_HIST_DATA_BIN_HI n) = NMap.getD h (2 * n + 1) 0 := by
  induction k with
  | zero => exact fun n hn => absurd hn n.not_lt_zero
  | succ k ih =>
    intro n hn
    rw [List.range_succ, List.foldl_append, List.foldl_cons, List.foldl_nil]
    rcases Nat.lt_succ_iff_lt_or_eq.1 hn with lt | rfl
    · obtain ⟨lo, hi⟩ := copyBins_ne h ((List.range k).foldl (copyBins h) s) (Nat.ne_of_lt lt)
      rw [lo, hi]; exact ih n lt
    · exact copyBins_self hb _ n

/-! The zeroing, and the whole write. -/

/-- The state with the histogram at `key` zeroed where SNAP is 1. -/
def snapHist (snap : Bool) (key : Nat) (s : State) : State :=
  if snap then { s with qos := { s.qos with hist := NMap.erase s.qos.hist key } } else s

@[simp] theorem snapHist_get (snap : Bool) (key : Nat) (s : State) (f : Fld) : (snapHist snap key s).get f = s.get f := by
  cases snap <;> rfl

/-- With SNAP every bin of the histogram is 0; every other histogram, and each without SNAP, has the bins it had. -/
theorem snapHist_bins (snap : Bool) (key : Nat) (s : State) (j b : Nat) :
    NMap.getD (NMap.getD (snapHist snap key s).qos.hist j []) b 0 =
      if j = key ∧ snap = true then 0 else NMap.getD (NMap.getD s.qos.hist j []) b 0 := by
  cases snap with
  | false => simp [snapHist]
  | true =>
    by_cases hj : j = key
    · subst hj
      have zeroed : NMap.getD ([] : NMap Nat) b 0 = 0 := rfl
      simp [snapHist, zeroed]
    · simp [snapHist, hj]

/-- QOS_HIST_SEL_WRITE selects, copies, then zeroes the histogram that it copied. -/
theorem exec_qosHistSelWrite (v : Word64) (s : State) :
    let t := selectHist v.toNat s
    exec (.qosHistSelWrite v) s = .next (snapHist (bit v.toNat 63) (selectedHist t)
      ((List.range 8).foldl (copyBins (NMap.getD t.qos.hist (selectedHist t) [])) t)) := rfl

/-- Settles O56: the write is the selection, the copy and the zeroing, and neither of the first two touches a histogram. -/
theorem aHistogramIsCopiedAndZeroed : Obligations.AHistogramIsCopiedAndZeroed := by
  unfold Obligations.AHistogramIsCopiedAndZeroed
  dsimp only
  intro s v
  rw [← selectedHist_selectHist]
  intro hb
  refine ⟨_, exec_qosHistSelWrite v s, fun n hn => ?_, fun j b => ?_⟩
  · rw [snapHist_get, snapHist_get, selectHist_qos]
    exact foldl_copyBins_get hb _ 8 n hn
  · rw [snapHist_bins, foldl_copyBins_qos, selectHist_qos]

end Sys2Proof.Machine
end

section
/-! SUPPORT. TENANT_CREATE (R315): how far EPOCH is ahead of FLOOR, and what the command answers on each side of the window
that FLOOR allows. Then the statement about both. -/

namespace Sys2Proof.Machine

open Reg

/-! The window of EPOCH. -/

/-- The FLOOR that CREATE compares with: 0 for a rack tenant with no record yet. -/
def createFloor (s : State) : Nat := (tenRec s (s.get SEC_CMD0_RACK_TENANT)).elim 0 TenRec.floor

/-- How far the command's EPOCH is ahead of FLOOR, in 16 bits. -/
def createAhead (s : State) : Nat := (s.get SEC_CMD2_EPOCH + 65536 - createFloor s) % 65536

/-- The rack tenant that CREATE names has a record that is in use. -/
def createTaken (s : State) : Bool := (tenRec s (s.get SEC_CMD0_RACK_TENANT)).any fun r => r.st ≠ .none

theorem createTaken_eq_false {s : State} (h : ∀ r, tenRec s (s.get SEC_CMD0_RACK_TENANT) = some r → r.st = .none) :
    createTaken s = false := by
  unfold createTaken
  cases old : tenRec s (s.get SEC_CMD0_RACK_TENANT) with
  | none => rfl
  | some r => simp [h r old]

/-! The end of a security command. -/

@[simp] theorem State.secEnd_sec (s : State) (st de : Nat) : (s.secEnd st de).sec = s.sec := rfl

/-- A security command's end shows the STATUS and the DETAIL that it is given, where they fit their fields. -/
theorem State.get_secEnd (s : State) {st de : Nat} (hst : st < 256) (hde : de < 16) :
    (s.secEnd st de).get SEC_CMD_CTL_STATUS = st ∧ (s.secEnd st de).get SEC_CMD_CTL_DETAIL = de := by
  obtain ⟨status, detail⟩ := endCmd_get s (f := SEC_CMD_CTL_STATUS) (g := SEC_CMD_CTL_DETAIL) st de (by decide)
  exact ⟨status.trans (Nat.mod_eq_of_lt hst), detail.trans (Nat.mod_eq_of_lt hde)⟩

/-! The command. -/

/-- The state in which the named tenant is KEYLESS at the command's slot with CUR and FLOOR at EPOCH, its counters at 0. -/
def createdTenant (s : State) : State :=
  let t := s.get SEC_CMD0_RACK_TENANT
  let e := s.get SEC_CMD2_EPOCH
  let u := s.setTen t ⟨.keyless, cmdSlot s, e, e⟩
  { u with dbg := { u.dbg with tenCnt := NMap.insert u.dbg.tenCnt t [] } }

theorem createdTenant_tenants (s : State) : (createdTenant s).sec.tenants = NMap.insert s.sec.tenants
    (s.get SEC_CMD0_RACK_TENANT) ⟨.keyless, cmdSlot s, s.get SEC_CMD2_EPOCH, s.get SEC_CMD2_EPOCH⟩ := rfl

/-- CREATE while no command runs, at a slot not in use: DETAIL 0x2 for a tenant in use or an EPOCH outside the window, and
the new record otherwise. -/
theorem exec_tenantCreate {s : State} (idle : s.get SEC_CMD_CTL_BUSY = 0) (free : slotRec s (cmdSlot s) = none) :
    exec .tenantCreate s = .next (if createTaken s = true ∨ createAhead s = 0 ∨ 32768 ≤ createAhead s then s.secRefuse 0x2
      else (createdTenant s).secOk) := by
  have notBusy : s.flag SEC_CMD_CTL_BUSY = false := by simp [State.flag, idle]
  change execTenantCreate s = _
  unfold execTenantCreate
  simp only [notBusy, free, Option.isSome_none, Bool.false_eq_true, if_false]
  rw [apply_ite Host.Outcome.next]
  rfl

/-- Settles O59: an EPOCH outside the window is refused whatever the record is, one inside it makes the record that is then
found. -/
theorem createSetsTheEpochAndItsFloor : Obligations.CreateSetsTheEpochAndItsFloor := by
  unfold Obligations.CreateSetsTheEpochAndItsFloor
  intro s idle free n epoch floor ahead
  have hfloor : floor = createFloor s := by
    simp only [floor, createFloor, tenRec, n]
    cases NMap.find s.sec.tenants (s.get SEC_CMD0_RACK_TENANT) <;> rfl
  have hahead : ahead = createAhead s := by simp only [ahead, hfloor, createAhead, epoch]
  rw [hahead]
  refine ⟨fun outside => ?_, fun unused lo hi => ?_⟩
  · have refused : createTaken s = true ∨ createAhead s = 0 ∨ 32768 ≤ createAhead s := .inr (by omega)
    refine ⟨s.secRefuse 0x2, by rw [exec_tenantCreate idle free, if_pos refused], ?_⟩
    obtain ⟨status, detail⟩ := s.get_secEnd (st := stPermission) (de := 0x2) (by decide) (by decide)
    exact ⟨status, detail, rfl⟩
  · have accepted : ¬ (createTaken s = true ∨ createAhead s = 0 ∨ 32768 ≤ createAhead s) := by
      rw [createTaken_eq_false unused]; simp only [Bool.false_eq_true, false_or]; omega
    refine ⟨(createdTenant s).secOk, by rw [exec_tenantCreate idle free, if_neg accepted], ?_⟩
    obtain ⟨status, -⟩ := (createdTenant s).get_secEnd (st := stOK) (de := 0) (by decide) (by decide)
    refine ⟨status, ⟨.keyless, cmdSlot s, epoch, epoch⟩, ?_, rfl, rfl, fun r hr => ?_⟩
    · rw [State.secOk, State.secEnd_sec, createdTenant_tenants, NMap.find_insert_self]
    · rw [State.secOk, State.secEnd_sec, createdTenant_tenants, NMap.find_insert_ne _ _ hr]

end Sys2Proof.Machine
end

section
/-! SUPPORT. The rack-admin hash and its lock (R418) in three parts: what leaves the registers of the GLB block alone, what a
warm reset and a wake do to them, and what a write and a proof answer to LOCK. Then the statement about all of them. -/

namespace Sys2Proof.Machine

open Reg

/-! The GLB block, below the first other block of Table 22.1. -/

/-- Every register field of the GLB block reads as before. -/
def GlbKept (s t : State) : Prop := ∀ f : Fld, f.key < 64 * 0x10000 → t.get f = s.get f

namespace GlbKept

theorem refl (s : State) : GlbKept s s := fun _ _ => rfl

theorem trans {s t u : State} (h : GlbKept s t) (k : GlbKept t u) : GlbKept s u := fun f hf => (k f hf).trans (h f hf)

theorem of_regs {s t u : State} (h : GlbKept s t) (hr : u.regs = t.regs) (hd : u.dev = t.dev) : GlbKept s u :=
  fun f hf => (get_regs hr hd f).trans (h f hf)

/-- A write of a field beyond the block. -/
theorem put {s t : State} (h : GlbKept s t) {f : Fld} (v : Nat) (hf : 0x10000 ≤ f.off) : GlbKept s (t.put f v) := fun g hg => by
  have apart : g.key ≠ f.key := by have := Nat.le_add_right (64 * f.off) f.lo; unfold Fld.key at hg ⊢; omega
  rw [State.get_put_ne _ _ apart]; exact h g hg

theorem ite {s t u : State} {b : Prop} [Decidable b] (h : GlbKept s t) (k : GlbKept s u) : GlbKept s (if b then t else u) := by
  split <;> assumption

theorem raise {s t : State} (h : GlbKept s t) {f : Fld} (hf : 0x10000 ≤ f.off) : GlbKept s (t.raise f) :=
  ite ((h.put 1 hf).put _ (by decide)) h

theorem foldl {α : Type} {step : State → α → State} (hstep : ∀ t a, GlbKept t (step t a)) (l : List α) (s : State) :
    GlbKept s (l.foldl step s) := by
  induction l generalizing s with
  | nil => exact refl s
  | cons a l ih => exact (hstep s a).trans (ih _)

end GlbKept

theorem showOffline_glbKept (s : State) (e : Nat) : GlbKept s (s.showOffline e) := by
  have beyond : 0x10000 ≤ (ENG_STATUS_STATE e).off := by simp only [ENG_STATUS_STATE]; omega
  have same := GlbKept.refl s
  exact (same.put 5 beyond).ite ((same.put 0 beyond).ite same)

theorem moraineAdd_glbKept (s : State) (r : ErrRec) : GlbKept s (s.moraineAdd r) := by
  have newest (x : ErrUnit) (i : Nat) : GlbKept s ({ s with err := x }.put ERR_MOR_STATUS_NEWEST i) :=
    ((GlbKept.refl s).of_regs (u := { s with err := x }) rfl rfl).put i (by decide)
  exact (GlbKept.refl s).ite (((newest _ _).put 1 (by decide)).ite (newest _ _))

theorem event_glbKept (s : State) (unitType unitIndex cause : Nat) : GlbKept s (s.event unitType unitIndex cause) :=
  ((GlbKept.refl s).put _ (by decide)).trans (moraineAdd_glbKept _ _)

theorem ethSend_glbKept (s : State) (kind : Nat) (b : List Byte) : GlbKept s (s.ethSend kind b) := by
  refine GlbKept.ite ?_ (.refl s)
  exact (GlbKept.refl s).of_regs rfl rfl

theorem bootFetch_glbKept (s : State) : GlbKept s s.bootFetch :=
  ((GlbKept.refl s).of_regs rfl rfl).trans (ethSend_glbKept _ _ _)

theorem wakePort_glbKept (s : State) (p : Nat) : GlbKept s (s.wakePort p) := by
  refine GlbKept.ite ?_ (.refl s)
  exact (GlbKept.refl s).of_regs rfl rfl

/-- A wake, from whichever power state, changes the power block and the ports only. -/
theorem wake_glbKept (s : State) (source : Nat) : GlbKept s (s.wake source) := by
  have same := GlbKept.refl s
  have ports (t : State) : GlbKept t t.wakePorts := GlbKept.foldl wakePort_glbKept _ t
  have cancelled := (same.put (f := PWR_STATE_STATE) pwRun (by decide)).raise (f := PWR_EVENT_ENTRY_CANCELLED) (by decide)
  have woken := ((same.put (f := PWR_STATE_STATE) pwWaking (by decide)).put (f := PWR_STATE_LAST_WAKE) source (by decide)).raise
    (f := PWR_EVENT_WOKE) (by decide)
  exact (cancelled.trans (ports _)).ite ((woken.trans (ports _)).ite same)

theorem waitWake_glbKept (s : State) (x : Waiting) : GlbKept s (s.waitWake x) := (wake_glbKept s 6).of_regs rfl rfl

/-! The sealed fields and a warm reset (R395). -/

/-- The rack-admin hash and its lock: the fields that LOCK seals. -/
def adminSealed : List Fld :=
  [GLB_ADMIN_HASH_HASH 0, GLB_ADMIN_HASH_HASH 1, GLB_ADMIN_HASH_HASH 2, GLB_ADMIN_HASH_HASH 3, GLB_ADMIN_CTL_LOCK]

theorem adminSealed_key_lt : ∀ f ∈ adminSealed, f.key < 64 * 0x10000 := by decide

theorem adminSealed_off_lt : ∀ f ∈ adminSealed, f.off < 0x70 := by decide

theorem adminSealed_rst : ∀ f ∈ adminSealed, f.rst = .num 0 := by decide

/-- They are among the fields that the always-on block keeps (Table 22.7). -/
theorem adminSealed_keptKey : ∀ f ∈ adminSealed, keptKey f.key = true := by decide

/-- A choice by key of a map's pairs keeps what is found at a chosen key. -/
theorem NMap.find_keep_of_pos {α : Type} {p : Nat → Bool} {q : Nat} (hq : p q = true) (m : NMap α) :
    NMap.find (NMap.keep (fun k _ => p k) m) q = NMap.find m q := by
  induction m with
  | nil => rfl
  | cons a m ih =>
    obtain ⟨k, v⟩ := a
    unfold NMap.keep at ih ⊢
    cases hk : p k with
    | true => simp only [List.filter_cons, hk, if_true, NMap.find, ih]
    | false =>
      have other : q ≠ k := fun e => by rw [e, hk] at hq; exact absurd hq (by decide)
      simp only [List.filter_cons, hk, Bool.false_eq_true, if_false, ih, NMap.find, other]

/-- The wipe of a warm reset leaves the fields of Table 22.7. -/
theorem wiped_get (s : State) {f : Fld} (hf : keptKey f.key = true) : s.wiped.get f = s.get f := by
  have found : NMap.find s.wiped.regs f.key = NMap.find s.regs f.key := NMap.find_keep_of_pos hf s.regs
  unfold State.get NMap.getD
  rw [found]; rfl

/-- What a warm reset records before the wipe: its event, its kind, its number, and a device-fatal error before it. -/
def warmNoted (s : State) (kind : Nat) : State :=
  let s := ((s.resetEvent kind).put RST_STATUS_LAST_KIND kind).count RST_STATUS_WARM_COUNT 1
  if s.flag ERR_STATUS_DEVICE_FATAL then s.put ERR_EVENT_PRIOR_FATAL 1 else s

/-- What a warm reset sets up after the wipe: the engines' states, the divisors asked for, the phase. -/
def warmResumed (s : State) : State :=
  let s := (List.range 256).foldl State.showOffline s
  let s := ((s.put CLK_STATUS_ENG_DIV (s.get CLK_CTL_ENG_DIV_NEXT)).put CLK_STATUS_NOC_DIV (s.get CLK_CTL_NOC_DIV_NEXT)).put
    CLK_STATUS_MGMT_DIV (s.get CLK_CTL_MGMT_DIV_NEXT)
  s.put RST_STATUS_PHASE (resumePhase s)

/-- A warm reset notes, wipes and resumes; at phase BOOT it fetches the image. -/
theorem warm_eq (s : State) (kind : Nat) :
    let t := warmResumed ((warmNoted s kind).wiped.modClk fun c => { c with hot := tripNow (warmNoted s kind) })
    s.warm kind = if resumePhase t = 2 then t.bootFetch else t := rfl

theorem warmNoted_glbKept (s : State) (kind : Nat) : GlbKept s (warmNoted s kind) := by
  have noted : GlbKept s (((s.resetEvent kind).put RST_STATUS_LAST_KIND kind).count RST_STATUS_WARM_COUNT 1) :=
    (((event_glbKept s utAon 0 kind).put _ (by decide)).put _ (by decide)).put _ (by decide)
  exact (noted.put 1 (by decide)).ite noted

theorem warmResumed_glbKept (s : State) : GlbKept s (warmResumed s) :=
  ((((GlbKept.foldl showOffline_glbKept (List.range 256) s).put _ (by decide)).put _ (by decide)).put _ (by decide)).put _
    (by decide)

/-- All that a warm reset does after the wipe leaves the GLB block. -/
theorem warm_glbKept_wiped (s : State) (kind : Nat) : GlbKept (warmNoted s kind).wiped (s.warm kind) := by
  have resumed := ((GlbKept.refl (warmNoted s kind).wiped).of_regs
    (u := (warmNoted s kind).wiped.modClk fun c => { c with hot := tripNow (warmNoted s kind) }) rfl rfl).trans
    (warmResumed_glbKept _)
  rw [warm_eq]
  exact (resumed.trans (bootFetch_glbKept _)).ite resumed

/-- A warm reset, run or latched until the frost group's restart, leaves the sealed fields. -/
theorem askWarm_get (s : State) (kind : Nat) {f : Fld} (hf : f ∈ adminSealed) : (s.askWarm kind).get f = s.get f := by
  have low := adminSealed_key_lt f hf
  unfold State.askWarm; split
  · rfl
  · calc (s.warm kind).get f = (warmNoted s kind).wiped.get f := warm_glbKept_wiped s kind f low
      _ = (warmNoted s kind).get f := wiped_get _ (adminSealed_keptKey f hf)
      _ = s.get f := warmNoted_glbKept s kind f low

/-- A meaning that answers one of two states does what both have in common. -/
theorem does_ite {c : Instr} {s t u : State} {P : State → Prop} {b : Prop} [Decidable b]
    (h : exec c s = if b then .next t else .next u) (ht : P t) (hu : P u) : Does c s P := by
  by_cases hb : b
  · exact ⟨t, by rw [h, if_pos hb], ht⟩
  · exact ⟨u, by rw [h, if_neg hb], hu⟩

/-- Each command that asks for a warm reset leaves the sealed fields. -/
theorem warmReset_keeps_sealed (s : State) {f : Fld} (hf : f ∈ adminSealed) :
    ∀ c ∈ ([.rstWarm, .sbWarmReset, .autoReset, .rstInNLow] : List Instr), Does c s fun t => t.get f = s.get f := by
  simp only [List.forall_mem_cons, List.not_mem_nil, false_imp_iff, implies_true, and_true]
  refine ⟨?rstWarm, ?sbWarmReset, ?autoReset, ?rstInNLow⟩
  case rstWarm => exact ⟨_, rfl, askWarm_get s 4 hf⟩
  case sbWarmReset => exact does_ite (b := s.brd.pwrGood = true) rfl (askWarm_get s 3 hf) rfl
  case autoReset =>
    have run : exec .autoReset s = execAutoReset s := rfl
    cases due : s.err.resetDue with
    | none => exact ⟨s, by rw [run, execAutoReset, due], rfl⟩
    | some a => exact does_ite (b := a ≤ s.now) (by rw [run, execAutoReset, due]) (askWarm_get s 5 hf) rfl
  case rstInNLow => exact does_ite (b := s.brd.pwrGood = true) rfl (askWarm_get (s.modClk _) 2 hf) rfl

/-- A cold reset clears the sealed fields. -/
theorem coldReset_clears_sealed (s : State) (addr pos : Nat) {f : Fld} (hf : f ∈ adminSealed) :
    Does (.coldReset addr pos) s fun t => t.get f = 0 := by
  have column (d : Device) : f.reset d = 0 := by rw [Fld.reset, adminSealed_rst f hf]
  exact ⟨_, rfl, column _⟩

/-! Writes while LOCK is 1, and proofs while it is 0. -/

/-- While LOCK is 1 no write at an offset below the GLB_AUTH registers changes anything, whoever makes it. -/
theorem busWrite_eq_self_of_lock {s : State} (lock : s.get GLB_ADMIN_CTL_LOCK ≠ 0) (who : Who) {off : Nat} (low : off < 0x70)
    (v : Word64) : (busWrite s who off v).2 = s := by
  have locked : s.flag GLB_ADMIN_CTL_LOCK = true := by simp [State.flag, lock]
  have ignored (w : Who) (fs : List Fld) : s.wrReg w off v fs = s := by
    unfold State.wrReg State.wrGlb
    dsimp only
    rw [if_pos (by omega), if_pos low, if_pos locked]
  unfold busWrite
  split
  · rfl
  · next reached =>
    split
    · rfl
    · cases who with
      | path p => exact ignored _ _
      | agent a =>
        have closed : reaches s (.agent a) off true = false := by
          have notWindow : ¬ 0x8000000 ≤ off := by omega
          simp [reaches, notWindow]
        exact absurd closed (by simpa using reached)

/-- REGISTER_WRITE of a sealed register while LOCK is 1: where the node is in Deep the write waits and wakes it. -/
theorem registerWrite_keeps_sealed {s : State} (lock : s.get GLB_ADMIN_CTL_LOCK ≠ 0) (p : Path) {off : Nat} (low : off < 0x70)
    (v : Word64) {f : Fld} (hf : f ∈ adminSealed) : Does (.registerWrite p off v) s fun t => t.get f = s.get f := by
  have run : exec (.registerWrite p off v) s = execRegisterWrite p off v s := rfl
  by_cases still : p ≠ .device ∧ ¬ mgtUp s
  · exact ⟨s, by rw [run, execRegisterWrite, if_pos still], rfl⟩
  · refine does_ite (by rw [run, execRegisterWrite, if_neg still]) ?_ ?_
    · exact waitWake_glbKept s _ f (adminSealed_key_lt f hf)
    · rw [busWrite_eq_self_of_lock lock _ low]

theorem proofOk_eq_false {s : State} (unlocked : s.get GLB_ADMIN_CTL_LOCK = 0) (n : Nat) (c : Session) :
    proofOk s n c = false := by
  have noLock : s.flag GLB_ADMIN_CTL_LOCK = false := by simp [State.flag, unlocked]
  unfold proofOk
  split
  · rfl
  · simp [noLock]

/-- PROVE of a session that is up, while LOCK is 0: one more failure, and the eighth ends the session (R420, R421). -/
theorem exec_authProve_of_unlocked {s : State} (unlocked : s.get GLB_ADMIN_CTL_LOCK = 0) {n : Nat} {c : Session}
    (found : NMap.find s.sec.sess n = some c) (up : c.up = true) : exec (.authProve n) s =
      if 8 ≤ c.fails + 1 then .next (s.endSession n)
      else .next (s.modSec fun x => { x with
        sess := NMap.insert x.sess n { c with nonce := none, status := stPermission, fails := c.fails + 1 } }) := by
  have run : exec (.authProve n) s = execAuthProve n s := rfl
  rw [run, execAuthProve, found]
  dsimp only
  rw [if_neg (by simp [up]), if_neg (by simp [proofOk_eq_false unlocked n c])]

/-- So it leaves the session with PERMISSION and the privilege it had, or leaves no session. -/
theorem authProve_fails {s : State} (unlocked : s.get GLB_ADMIN_CTL_LOCK = 0) {n : Nat} {c : Session}
    (found : NMap.find s.sec.sess n = some c) (up : c.up = true) : Does (.authProve n) s fun t =>
      ∀ x, NMap.find t.sec.sess n = some x → x.status = stPermission ∧ x.admin = c.admin := by
  refine does_ite (exec_authProve_of_unlocked unlocked found up) (fun x hx => ?_) fun x hx => ?_
  · have ended : NMap.find (s.endSession n).sec.sess n = none := NMap.find_erase_self _ _
    exact absurd (ended.symm.trans hx) (by simp)
  · have kept := Option.some.inj ((NMap.find_insert_self _ _ _).symm.trans hx)
    rw [← kept]; exact ⟨rfl, rfl⟩

/-- Settles O55: a write is ignored at its register's own rule, the wipe of a warm reset keeps the fields' keys, and a proof
asks for LOCK. -/
theorem theAdminLockHolds : Obligations.TheAdminLockHolds := by
  unfold Obligations.TheAdminLockHolds
  intro sealed s
  refine ⟨fun p who v lock g hg f hf => ?_, by decide, fun c hc f hf => warmReset_keeps_sealed s hf c hc,
    fun addr pos f hf => coldReset_clears_sealed s addr pos hf, fun n c unlocked found up => authProve_fails unlocked found up⟩
  have low : g.off < 0x70 := adminSealed_off_lt g hg
  exact ⟨registerWrite_keeps_sealed lock p low v hf, by rw [busWrite_eq_self_of_lock lock who low]⟩

end Sys2Proof.Machine
end
